-- ==== Sys2Proof/Word.lean ====
section
/-! DEFINITION. The plainest words of the model: bytes, sparse tables and the bit field of a number. -/

namespace Sys2Proof

/-- A byte of a message, a row or a cell. -/
abbrev Byte := BitVec 8

/-- Sparse data by key: pairs in rising key order, none equal to what an unlisted key reads as
(`Tab.wf`). Register banks, slot images and the memory tier are all held so. -/
abbrev Tab (α : Type) := List (Nat × α)

end Sys2Proof
end

