-- ==== Sys2Proof/Syntax.lean ====
section
/-! DEFINITION. The commands: one constructor of `Instr` per row of spec/opcode_table.json, in its order but for
MGMT_BASE_CHANNEL_ACCESS, which the compiler wants among the first 245. -/

namespace Sys2Proof

/-- The source of a request: the transport code of R361 and its SOURCE_ADDR. -/
structure Source where
  code : Nat
  addr : Nat
  deriving DecidableEq, Repr

/-- Another source's request that reaches the same panel in the same SHUT cycle (R22):
`kind` 1 dictionary, 2 fabric, 3 queue arrival, 4 time slice; `who` its SOURCE_ADDR. -/
structure Rival where
  kind : Nat
  who : Nat
  slot : Nat
  fresh : Bool
  deriving DecidableEq, Repr

/-- How the boot ROM ends (R379, R416). -/
structure RomResult where
  selfCheckOk : Bool
  fusesOk : Bool
  trngOk : Bool
  failingBonds : List (Nat × Nat × Nat)
  deriving DecidableEq, Repr

/-- What an SPD hub answers about its DIMM (R206, R208): its channel and slot, whether its contents pass their CRC,
whether it is an ECC RDIMM with x4 devices, density in Gb, ranks, capacity in GB, speed bin in MT/s. -/
structure Dimm where
  chan : Nat
  slot : Nat
  crcOk : Bool
  moduleOk : Bool
  density : Nat
  ranks : Nat
  gb : Nat
  speed : Nat
  deriving DecidableEq, Repr

/-- What the checker of a lane found by the end of a lane test (R465): whether it synchronised, the bits compared and
the errored bits. -/
structure LaneCheck where
  lane : Nat
  synced : Bool
  bits : Nat
  errors : Nat
  deriving DecidableEq, Repr

/-- What the device meets while it applies a dictionary write: the DIMMs it finds where the write starts a training (R206), the
bits and errors that a lane's checker has counted where the write ends its test (R247), and the requests of other sources that reach
the shuttle's request point in the same SHUT cycle (R22). -/
structure WriteSeen where
  dimms : List Dimm
  bits : Nat
  errors : Nat
  rivals : List Rival
  deriving DecidableEq, Repr

/-- A codeword that a lane receives (R279, R280): the physical lane, the number of its codeword slot since the lane left TRAIN, the
codewords since the lane's last marker, and the levels as they arrive, after the one that came before them. -/
structure RxCodeword where
  lane : Nat
  slot : Nat
  since : Nat
  levels : List Nat
  deriving DecidableEq, Repr

/-- The commands and events of the device. Each constructor is one row of the table; its docstring names the row, its rule and what the row is. -/
inductive Instr where
  /-- MGMT_BASE_CHANNEL_ACCESS (R137). The management core fetches, loads or stores a
  memory-tier word or row through the MGMT base channel, trapping precisely on a poisoned read.
  -/
  | mgmtBaseChannelAccess (kind addr be data : Nat)
  /-- STATE_COMMAND_ENABLE (R35). STATE_COMMAND ENABLE, after its entry checks, moves the device
  from MANAGED to OPERATIONAL and releases parked panels and those with RELEASE_ON_ENABLE. -/
  | stateCommandEnable (src : Source)
  /-- STATE_COMMAND_STOP (R35). STATE_COMMAND STOP asserts the orderly-stop signal with cause
  COMMAND in MANAGED or OPERATIONAL. -/
  | stateCommandStop (src : Source)
  /-- STATE_COMMAND_CLEAR (R35). STATE_COMMAND CLEAR, after its clear checks, moves SAFE_STOP to
  MANAGED, clears scorch flags, lowers PWR_OFF_REQ, resumes DDR5 and restages panels. -/
  | stateCommandClear (src : Source)
  /-- STOP_MOVERS_IDLE (R403). Step 3 of the orderly stop ends when every mover is idle or
  halted, and DDR5 self-refresh entry begins. -/
  | stopMoversIdle
  /-- DDR_SELF_REFRESH_DONE (R220). Each controller has completed its accepted requests and
  placed every rank in self-refresh, ending step 4 of the stop or of BASE_WARM. -/
  | ddrSelfRefreshDone
  /-- STOP_NV_IDLE (R403). Step 5 of the orderly stop ends when the NV store is idle and no
  earlier than t0 + 60 µs, leading to step 6. -/
  | stopNvIdle
  /-- STOP_STEP3_FORCED (R404). At t0 + W − 100 µs step 3 is forced to end, halting movers still
  in progress and writing STOP_FORCED. -/
  | stopStep3Forced
  /-- STOP_WINDOW_EXPIRED (R404). If step 6 has not occurred by t0 + W, PWR_OFF_REQ is asserted
  and the device enters SAFE_STOP with STOP_FORCED 6. -/
  | stopWindowExpired
  /-- THERMTRIP (R407). An analog sensor trip stops every clock but AON, tristates outputs,
  drives THERMTRIP_N low and enters FAULT. -/
  | thermtrip
  /-- VCC_BASE_LOSS (R434). VCC_BASE below 0.60 V on two samples moves the device to AON with
  cause SUPPLY_LOSS, without a stop sequence. -/
  | vccBaseLoss
  /-- POR_ASSERT (R434). VCC_AUX below 1.62 V or PORST_N low asserts POR and the device goes to
  OFF, resetting everything but the NV store and fuses. -/
  | porAssert
  /-- POR_RELEASE (R434). POR releases 2 ms after its conditions end; straps are sampled, fray
  state restored and the device enters AON. -/
  | porRelease (straps : Nat)
  /-- BOOT_ENTRY (R435). After the base, memory and configuration rails have been in range for 1
  ms with RESET_N high, the device moves from AON to BOOT. -/
  | bootEntry
  /-- BOOT_ROM_DONE (R379). The boot ROM completes self-check, fuse check, bond test and TRNG
  test, claims SEC pins and enters AWAIT_FW, or FAULT on failure. -/
  | bootRomDone (res : RomResult)
  /-- EVENT_RECORD_ACCEPT (R29). The serialiser accepts one held event record per MGMT or AON
  cycle into the log and matches it against the notice rules. -/
  | eventRecordAccept (source : Nat)
  /-- TIME_MARK (R30). When bits 31:0 of AON time return to 0, a TIME_MARK record with bits
  47:32 is written. -/
  | timeMark
  /-- EVENT_RECORD_READ (R36). A read of EVENT_RECORD returns the record at EVENT_READ_INDEX and
  advances the index. -/
  | eventRecordRead (src : Source)
  /-- DIGEST_PUBLICATION (R27). Within 10 µs of a covered change, a new device digest is
  published with the configuration epoch increased by 1. -/
  | digestPublication
  /-- TILE_MEM_CLEAR (R46). A write of 0x01 to TILE_MEM_CLEAR starts clearing a panel's tile
  memories when the panel is EMPTY or HELD. -/
  | tileMemClear (src : Source) (panel value : Nat)
  /-- TILE_MEM_CLEAR_DONE (R46). 1,024 SHUT cycles after acceptance the clear ends,
  TILE_MEM_BUSY clears and a waiting release proceeds. -/
  | tileMemClearDone (panel : Nat)
  /-- PANEL_CLOCK_SEL_WRITE (R56). A write to PANEL_CLOCK_SEL selects a panel's FCLK in EMPTY,
  LOADING or HELD. -/
  | panelClockSelWrite (src : Source) (panel sel : Nat)
  /-- USER_EVENT (R61). A valid strobe on a panel's user event port writes a USER_EVENT record,
  or counts it dropped when disabled. -/
  | userEvent (panel code : Nat)
  /-- PANEL_RESET_END (R59). A PANELn or FABRIC reset of a panel ends after its 16 panel clock
  cycles or its SHUT-cycle count, rewriting a parked panel's state store. -/
  | panelResetEnd (panel : Nat)
  /-- SHUTTLE_SWITCH (R75). A dictionary SWITCH request schedules a switch to a STAGED slot or
  starts staging a VALID one. -/
  | shuttleSwitch (src : Source) (panel slot : Nat) (fresh : Bool) (rivals : List Rival)
  /-- SHUTTLE_STAGE (R80). STAGE copies a VALID slot into the shadow plane without a switch. -/
  | shuttleStage (src : Source) (panel slot : Nat) (rivals : List Rival)
  /-- SHUTTLE_UNSTAGE (R80). UNSTAGE returns a STAGED slot to VALID. -/
  | shuttleUnstage (src : Source) (panel slot : Nat) (rivals : List Rival)
  /-- SHUTTLE_SELECT (R80). SELECT exchanges planes with the reset asserted in a HELD panel, or
  activates a VALID slot in an EMPTY panel. -/
  | shuttleSelect (src : Source) (panel slot : Nat) (rivals : List Rival)
  /-- SHUTTLE_RELEASE (R80). RELEASE moves a HELD panel to RUNNING, restoring flip-flops or
  taking INIT values. -/
  | shuttleRelease (src : Source) (panel : Nat) (fresh : Bool) (rivals : List Rival)
  /-- SHUTTLE_HOLD (R80). HOLD parks a RUNNING panel with no switch pending. -/
  | shuttleHold (src : Source) (panel : Nat) (rivals : List Rival)
  /-- SHUTTLE_INVALIDATE (R80). INVALIDATE makes a VALID slot, or the ACTIVE slot of a HELD
  panel with no other slot, INVALID. -/
  | shuttleInvalidate (src : Source) (panel slot : Nat) (rivals : List Rival)
  /-- FABRIC_SHUTTLE_REQ (R82). A fabric SHUTTLE_REQ, captured on its rising edge, reaches the
  request point as a SWITCH. -/
  | fabricShuttleReq (panel slot : Nat) (fresh : Bool) (rivals : List Rival)
  /-- QUEUE_ARRIVAL_REQUEST (R83). A queue binding's SWITCH request reaches the request point
  within 3 SHUT cycles of its commit. -/
  | queueArrivalRequest (panel : Nat) (rivals : List Rival)
  /-- TSLICE_CONTROL_WRITE (R87). A write to TSLICE_CONTROL sets a time-slice table's entry
  count and mode and starts it when ENABLE is set on a RUNNING panel. -/
  | tsliceControlWrite (src : Source) (panel value : Nat)
  /-- TSLICE_REQUEST (R88). At the panel edge that begins cycle K − 4 the table presents its
  next entry's SWITCH request. -/
  | tsliceRequest (panel : Nat) (rivals : List Rival)
  /-- TSLICE_ENTRY_ADVANCE (R88). At the end of an entry's duration with no switch, or after a
  refused or cancelled request, the table advances to the next entry. -/
  | tsliceEntryAdvance (panel : Nat)
  /-- STAGING_COMPLETE (R71). After 200 SHUT cycles the staged slot becomes STAGED and a pending
  switch or activation is scheduled. -/
  | stagingComplete (panel : Nat)
  /-- STAGE_CRC_ERROR (R73). A CRC mismatch during staging abandons the stage, invalidates the
  slot and cancels a pending switch. -/
  | stageCrcError (panel tile frame flip : Nat)
  /-- SWITCH_CYCLE (R76). At the third panel edge after scheduling, the planes exchange,
  flip-flop state is saved and restored, and slot states update. -/
  | switchCycle (panel : Nat)
  /-- READBACK_FRAME (R74). Every 64 SHUT cycles per panel one frame of a VALID or STAGED slot
  is read back and checked, invalidating the slot on mismatch. -/
  | readbackFrame (panel flip : Nat)
  /-- PRESS_READ (R100). A tile's press read request is accepted at its press port. -/
  | pressRead (tile row : Nat) (persist : Bool)
  /-- PRESS_WRITE (R99). A tile's press write request is accepted, taking its row data from the
  press register at that edge. -/
  | pressWrite (tile row : Nat) (persist : Bool)
  /-- PRESS_BUDGET_GRANT (R103). Each MEM cycle the allocator grants waiting press transfers up
  to the effective budget in rotating panel order. -/
  | pressBudgetGrant
  /-- BANK_ADMIT (R107). Each MEM cycle a bank arbiter admits its highest-priority request,
  performing reads, writes or read-modify-writes. -/
  | bankAdmit (bank : Nat) (upsets : List Nat)
  /-- PRESS_COMPLETION (R100). A press completion is delivered with PR_DONE and status, loading
  the press register, or is discarded across a switch. -/
  | pressCompletion (tile : Nat)
  /-- PRESS_REG_WRITE (R98). A fabric write loads the enabled words of the press register unless
  a completion loads it in the same cycle. -/
  | pressRegWrite (tile we data : Nat) (sameCycle : Bool)
  /-- WORD_READ (R104). A tile's word read request is accepted at its word port. -/
  | wordRead (tile tier row word : Nat) (persist : Bool)
  /-- WORD_WRITE (R104). A tile's word write request with byte enables is accepted at its word
  port. -/
  | wordWrite (tile tier row word be data : Nat) (persist : Bool)
  /-- WORD_COMPLETION (R105). A word access completion is delivered with data and status, or
  discarded across a switch. -/
  | wordCompletion (tile tier : Nat)
  /-- BASE_CHANNEL_GRANT (R109). Each MEM cycle a group's base channel serves one T0 requester
  in round-robin order. -/
  | baseChannelGrant (group : Nat)
  /-- BANK_OWNER_WRITE (R111). A write to BANK_OWNER starts a handover, answering the old
  owner's new requests under R24 and holding the new owner's. -/
  | bankOwnerWrite (src : Source) (bank value : Nat)
  /-- HANDOVER_DRAIN_DONE (R111). When the old owner's admitted requests have left the bank,
  OWNER takes the new code, an optional wipe runs and BANK_HANDOVER is written. -/
  | handoverDrainDone (bank : Nat)
  /-- INIT_ENGINE_ROW (R117). The initialisation engine zeroes one row when it wins arbitration
  at priority 4. -/
  | initEngineRow (bank : Nat)
  /-- REPAIR_WRITEBACK (R128). A queued repair write-back is admitted at priority 1 and
  performed or dropped, arming the tracker entry. -/
  | repairWriteback (group : Nat)
  /-- DARN_MIGRATION (R131). A hard-fault or install migration reads and decodes the word and
  writes it to a spare, making the entry VALID or failing. -/
  | darnMigration (bank : Nat)
  /-- DARN_INSTALL (R132). A write of a word address to DARN_INSTALL starts a migration of that
  word. -/
  | darnInstall (src : Source) (value : Nat)
  /-- RINSE_TICK (R134). At each rinse tick every bank falls due for its next row and its lag is
  updated. -/
  | rinseTick
  /-- RINSE_ROW (R135). An admitted rinse row is decoded, corrected or reported, and the row
  pointer advances. -/
  | rinseRow (bank : Nat) (upsets : List Nat)
  /-- SPLIT_BANK_WRITE (R139). A write to SPLIT_BANK names the bank for split-write mode while
  it is disabled. -/
  | splitBankWrite (src : Source) (bank : Nat)
  /-- SPLIT_ENABLE_WRITE (R139). A write to SPLIT_ENABLE turns split-write mode on or off for a
  MGMT-owned bank. -/
  | splitEnableWrite (src : Source) (on : Bool)
  /-- SPLIT_DATA (R140). A write to SPLIT_DATA writes a word's data and leaves its check bits.
  -/
  | splitData (src : Source) (data : List Byte)
  /-- SPLIT_CHECK (R140). A write to SPLIT_CHECK writes a word's check bits and leaves its data.
  -/
  | splitCheck (src : Source) (check : Nat)
  /-- SPLIT_READ (R140). A read of SPLIT_READ performs a decoded, non-trapping read returning
  stored bits, status and corrections. -/
  | splitRead (src : Source)
  /-- SPLIT_FOLD_OVERRIDE (R140). Writing ARM to SPLIT_FOLD_OVERRIDE makes the next MGMT
  full-word write fold the given address. -/
  | splitFoldOverride (src : Source) (value : Nat)
  /-- BASE_SRAM_READ (R141). A base-tier SRAM read is decoded, corrections are written back and
  errors are handled per SRAM. -/
  | baseSramRead (sram addr flips : Nat)
  /-- QM_ENABLE_WRITE (R148). Writing QM_ENABLE TRUE does a fresh start or starts a rebuild;
  FALSE disables the queue manager. -/
  | qmEnableWrite (src : Source) (on : Bool)
  /-- QM_REBUILD_DONE (R149). The rebuild of the free-cell map ends, REBUILDING clears,
  QM_REBUILT is written and pending vector bits are set. -/
  | qmRebuildDone
  /-- POOL_ADD (R150). A write to POOL_ADD places a QM-owned bank in the lowest free pool slot.
  -/
  | poolAdd (src : Source) (bank : Nat)
  /-- POOL_REMOVE (R150). A write to POOL_REMOVE marks a pool bank DRAINING. -/
  | poolRemove (src : Source) (bank : Nat)
  /-- QUEUE_SETUP_WRITE (R153). A write to QUEUE_SETUP sets a disabled queue's setup word after
  checks. -/
  | queueSetupWrite (src : Source) (queue : Nat) (setup : List Byte)
  /-- QUEUE_ENABLE (R154). Queue command ENABLE enables a queue that is not HALTED. -/
  | queueEnable (src : Source) (queue : Nat)
  /-- QUEUE_DISABLE (R154). Queue command DISABLE stops enqueues while dequeues continue. -/
  | queueDisable (src : Source) (queue : Nat)
  /-- QUEUE_FLUSH (R154). Queue command FLUSH frees every cell of a disabled queue and clears
  its counts and flags. -/
  | queueFlush (src : Source) (queue : Nat)
  /-- QUEUE_CLEAR_FLAGS (R154). Queue command CLEAR_FLAGS clears UNDERRUN and OVERFLOW. -/
  | queueClearFlags (src : Source) (queue : Nat)
  /-- QUEUE_SETUP_APPLY (R154). BAR0 command SETUP applies the staged setup word to a disabled
  queue. -/
  | queueSetupApply (link queue : Nat)
  /-- ENQ_VALUE (R166). A host write of 1, 2, 4 or 8 bytes to ENQ_VALUE enqueues a message
  holding them. -/
  | enqValue (link queue : Nat) (data : List Byte)
  /-- ENQ_BUFFER (R166). A host write to ENQ_BUFFER enqueues LENGTH bytes copied from HOST-owned
  banks. -/
  | enqBuffer (link queue : Nat) (bufAddr len : Nat)
  /-- PANEL_ENQUEUE_CELL (R163). A cell taken at a panel queue interface, checked at the first
  cell, is written toward an enqueue. -/
  | panelEnqueueCell (panel queue len : Nat) (first last : Bool) (data : List Byte)
  /-- MGMT_ENQUEUE (R155). Firmware enqueues a message through the MGMT base channel. -/
  | mgmtEnqueue (queue : Nat) (data : List Byte)
  /-- ENQUEUE_COMMIT (R157). The enqueue commit writes descriptor word 0, making the message
  visible and evaluating vector and binding conditions. -/
  | enqueueCommit (queue : Nat)
  /-- DEQ_VALUE (R166). An 8-byte host read of DEQ_VALUE dequeues one message and returns its
  first 8 bytes. -/
  | deqValue (link tag queue size : Nat)
  /-- DEQ_BUFFER (R166). A host write to DEQ_BUFFER dequeues a message into HOST-owned banks. -/
  | deqBuffer (link queue bufAddr len : Nat)
  /-- PANEL_DEQUEUE_REQUEST (R163). A QD_REQ at a panel queue interface starts a dequeue of the
  named queue. -/
  | panelDequeueRequest (panel queue : Nat)
  /-- PANEL_DEQUEUE_CELL (R163). A dequeue cell is delivered to the panel when QD_VALID and
  QD_ACCEPT are both 1. -/
  | panelDequeueCell (panel : Nat)
  /-- DEQUEUE_COMMIT (R158). After its last cell is delivered, the dequeue commit advances
  HEAD_CELL, counts and LAST_VALUE and frees cells. -/
  | dequeueCommit (queue : Nat)
  /-- QUEUE_IDLE_TIMEOUT (R160). When AON time passes LAST_READ_TIME + IDLE_TIMEOUT, IDLE_FIRED
  is set, QUEUE_IDLE written and the vector triggered. -/
  | queueIdleTimeout (queue : Nat)
  /-- MOVER_ENABLE (R169). Setting CONTROL ENABLE starts a mover, or halts it with DESCRIPTOR on
  a bad ring setup. -/
  | moverEnable (link mover base size : Nat)
  /-- MOVER_TAIL_WRITE (R171). A host write to TAIL makes descriptors up to it available to the
  mover. -/
  | moverTailWrite (link mover tail : Nat)
  /-- MOVER_RETRY (R173). ACTION RETRY restarts a halted descriptor from byte 0. -/
  | moverRetry (link mover : Nat)
  /-- MOVER_SKIP (R173). ACTION SKIP writes back a halted descriptor as done and advances HEAD.
  -/
  | moverSkip (link mover : Nat)
  /-- MOVER_RESET (R173). ACTION RESET sets HEAD and TAIL to 0 and clears HALTED. -/
  | moverReset (link mover : Nat)
  /-- MOVER_UNIT (R171). A mover moves one unit of at most 256 B of its current descriptor. -/
  | moverUnit (mover : Nat)
  /-- VECTOR_TABLE_WRITE (R174). A host write to a vector table entry sets its address, data or
  mask. -/
  | vectorTableWrite (link vector field value : Nat)
  /-- VECTOR_DELIVERY (R176). A pending, unmasked vector is sent as a posted write on its port
  once the port is ACTIVE. -/
  | vectorDelivery (vector : Nat)
  /-- CXL_MEM_REQUEST (R188). A received CXL.mem request is classed and enters its directory
  pipeline, or is answered poisoned when not served. -/
  | cxlMemRequest (link partner dpid op field line tag be data : Nat) (poison : Bool)
  /-- LOCAL_DIR_REQUEST (R180). A device-internal access to attached memory enters the directory
  as LOCAL_READ or LOCAL_WRITE. -/
  | localDirRequest (mover line : Nat) (write : Bool)
  /-- DIR_SET_READ_RETURN (R186). The set row returns, tags are compared, the transition is
  applied and a victim chosen if needed. -/
  | dirSetReadReturn (txn : Nat)
  /-- DIR_ENTRY_WRITE_ADMIT (R186). The entry write is admitted, the line is released and the
  response ordered. -/
  | dirEntryWriteAdmit (txn : Nat)
  /-- DIR_SNOOP_ISSUE (R190). A BISnpInv or BISnpData is issued once the device-wide snoop limit
  allows. -/
  | dirSnoopIssue (partner line : Nat)
  /-- DIR_BI_RESPONSE (R190). A BIRspI or BIRspS is taken, and when every response has arrived
  the entry takes its final state. -/
  | dirBiResponse (link spid dpid line rsp : Nat)
  /-- DIR_SNOOP_TIMEOUT (R191). A snoop without response in BI_TIMEOUT_US is reissued once, then
  taken as BIRspI with poisoning of an owned line. -/
  | dirSnoopTimeout (partner line : Nat)
  /-- BICONFLICT (R190). A BIConflict from a partner is answered with BIConflictAck after
  earlier completions. -/
  | biconflict (link spid dpid line : Nat)
  /-- DIR_ENABLE_WRITE (R199). Writing DIR_ENABLE TRUE starts a RESUME sweep; FALSE disables the
  engine when empty. -/
  | dirEnableWrite (src : Source) (on : Bool)
  /-- DIR_SWEEP_DONE (R199). A RESUME, FLUSH or PURGE sweep ends and SWEEP_DONE is written. -/
  | dirSweepDone
  /-- DIR_FLUSH (R200). DIR_COMMAND FLUSH starts a sweep that back-invalidates every valid
  entry. -/
  | dirFlush (src : Source) (value : Nat)
  /-- DIR_PURGE_PARTNER (R200). DIR_COMMAND PURGE_PARTNER starts a sweep removing a partner
  without snooping. -/
  | dirPurgePartner (src : Source) (value : Nat)
  /-- HOST_MAP_WRITE (R201). A HOST_MAP write registers partners, and clearing bits starts a
  PURGE sweep. -/
  | hostMapWrite (src : Source) (entry value : Nat)
  /-- DIR_BANK_SLOT_WRITE (R182). A write to DIR_BANK_SLOT names a directory bank while the
  engine is disabled and empty. -/
  | dirBankSlotWrite (src : Source) (slot value : Nat)
  /-- TRAIN_FULL (R212). DDR_COMMAND TRAIN_FULL checks the population and trains all populated
  channels. -/
  | trainFull (src : Source) (dimms : List Dimm)
  /-- TRAIN_RESUME (R212). DDR_COMMAND TRAIN_RESUME reloads saved settings and exits
  self-refresh. -/
  | trainResume (src : Source)
  /-- DDR_TRAINING_DONE (R212). A channel's training ends READY or FAILED and TRAIN_DONE or
  TRAIN_FAILED is written. -/
  | ddrTrainingDone (chan result margin : Nat)
  /-- DDR_READ_COMPLETE (R214). A DRAM line read is decoded as clean, corrected, poisoned or
  uncorrectable and returned to its requester. -/
  | ddrReadComplete (chan flips : Nat)
  /-- DDR_REQUEST (R210). A request reaches a DDR5 controller, or is answered poisoned or
  discarded when out of range or not READY. -/
  | ddrRequest (line : Nat)
  /-- SCRUB_LINE (R218). Patrol scrub reads its next line, writing back corrections and
  poisoning uncorrectable lines. -/
  | scrubLine (chan flips : Nat)
  /-- DDR_CAP_WINDOW (R219). Each 1 µs window renews each channel's burst allowance under
  DDR_CAP. -/
  | ddrCapWindow (chan : Nat)
  /-- SPD_TEMP_POLL (R221). Every 100 ms each SPD hub temperature is read and refresh rate and
  DIMM_HOT updated. -/
  | spdTempPoll (chan slot temp : Nat)
  /-- RECEIVER_DETECT (R232). A receiver detection attempt every 12 ms moves the lane to TRAIN
  on success. -/
  | receiverDetect (lane : Nat)
  /-- LANE_TRAIN_DONE (R241). With its own TRAIN_DONE and 3 received TRAIN_DONE frames, the lane
  sends 16 more and enters LOCK. -/
  | laneTrainDone (lane : Nat)
  /-- LANE_TRAIN_TIMEOUT (R232). LACE_TRAIN_TIMEOUT_MS in TRAIN returns the lane to DETECT and
  counts a failure. -/
  | laneTrainTimeout (lane : Nat)
  /-- LACE_LINK_FORMATION (R234). When every lane has marker lock or is excluded, the link forms
  at the largest valid width and drops the rest. -/
  | laceLinkFormation (lane : Nat)
  /-- LANE_LOCK_TIMEOUT (R232). No link formed within 16 ms of the first lane's entry to LOCK
  returns the lanes to DETECT. -/
  | laneLockTimeout (lane : Nat)
  /-- EXCHANGE_TIMEOUT (R232). An exchange not complete within 2 ms returns the lanes to DETECT.
  -/
  | exchangeTimeout (link : Nat)
  /-- LANE_RETRY (R254). Writing RETRY clears GIVEN_UP, DROPPED and FAIL_RUN. -/
  | laneRetry (src : Source) (lane value : Nat)
  /-- LANE_DISABLE (R254). Setting DISABLE holds the lane DISABLED. -/
  | laneDisable (src : Source) (lane value : Nat)
  /-- EQ_REQUEST_RECEIVED (R240). A partner's equalization request is applied to the transmitter
  and answered in the next frame. -/
  | eqRequestReceived (lane value : Nat)
  /-- EQ_ANSWER_RECEIVED (R240). The partner's answer returns the device's request to HOLD. -/
  | eqAnswerReceived (lane value : Nat)
  /-- EQ_ANSWER_TIMEOUT (R240). No answer within 1 ms returns the request to HOLD and counts a
  protocol error. -/
  | eqAnswerTimeout (lane : Nat)
  /-- EQ_EVALUATION_DONE (R241). An error-ratio evaluation ends with a new tap request or
  TRAIN_DONE. -/
  | eqEvaluationDone (lane : Nat) (met : Bool) (request : Nat)
  /-- MARKER_RECEIVED (R242). An alignment marker is checked, giving marker lock or counting a
  marker error. -/
  | markerReceived (lane : Nat) (levels : List Nat) (skew : Nat) (onTime : Bool) (corrected : Nat)
  /-- PCIE_LTSSM_TRANSITION (R235). A standard LTSSM transition updates the reported lane state.
  -/
  | pcieLtssmTransition (link ltssm width rate : Nat) (flitMode flit68 reversed : Bool) (inverted errors : Nat)
  /-- LOOPBACK_START (R246). Writing RUN 1 starts a loopback or pattern test on a DISABLED or
  DETECT lane. -/
  | loopbackStart (src : Source) (lane value : Nat)
  /-- LOOPBACK_STOP (R247). Writing RUN 0 ends the test. -/
  | loopbackStop (src : Source) (lane bits errors : Nat)
  /-- LOOPBACK_DURATION_END (R246). DURATION_MS elapsing ends the test. -/
  | loopbackDurationEnd (lane bits errors : Nat)
  /-- LOOPBACK_NO_LOCK (R246). No bit lock within 20 µs aborts a FAR_END or EXTERNAL test. -/
  | loopbackNoLock (lane : Nat)
  /-- EYE_COMMAND (R249). Writing 0x01 to EYE_COMMAND starts an eye measurement. -/
  | eyeCommand (src : Source) (lane value : Nat)
  /-- EYE_MEASUREMENT_DONE (R249). The eye measurement ends within 1 ms and EYE_RESULT is set.
  -/
  | eyeMeasurementDone (lane height width : Nat)
  /-- LANE_MARGINING_COMMAND (R249). A PCIe lane margining command is served at once, aborting
  an eye measurement. -/
  | laneMarginingCommand (lane : Nat) (busy : Bool)
  /-- PORT_CONFIG_WRITE (R257). A PORT_CONFIG write configures a port, and clearing ENABLE
  performs a PORTn reset. -/
  | portConfigWrite (src : Source) (port value : Nat)
  /-- PORT_RESET (R276). A write to PORT_RESET resets a port and its lanes. -/
  | portReset (src : Source) (port value : Nat)
  /-- PERST_ASSERT (R446). PORTn_PERST_N low performs a PORTn reset in ENDPOINT or DEVICE role.
  -/
  | perstAssert (port : Nat)
  /-- LINK_LOSS (R276). On link loss the port settles its transactions and writes LINK_DOWN. -/
  | linkLoss (link : Nat)
  /-- LINK_UP (R276). A link entering ACTIVE writes LINK_UP. -/
  | linkUp (link : Nat)
  /-- ROOT_CFG_READ (R261). A read of ROOT_CFG_DATA issues a CfgRd to the addressed function. -/
  | rootCfgRead (src : Source)
  /-- ROOT_CFG_WRITE (R261). A write to ROOT_CFG_DATA issues a CfgWr. -/
  | rootCfgWrite (src : Source) (value : Nat)
  /-- ROOT_CFG_COMPLETION (R261). The configuration completion returns data and sets
  ROOT_CFG_STATUS. -/
  | rootCfgCompletion (link dpid tag status data : Nat)
  /-- BAR_REQUEST (R261). A received memory request to a BAR is served, refused or held
  according to the device state. -/
  | barRequest (link dpid bar offset len tag : Nat) (write : Bool) (data : List Byte) (poison : Bool)
  /-- ATOMICOP_REQUEST (R262). A received AtomicOp to BAR4 is performed, or answered Unsupported
  Request elsewhere. -/
  | atomicopRequest (link dpid bar offset op size operand compare tag : Nat)
  /-- PCIE_CONFIG_REQUEST (R261). A received configuration request is served by the device's
  functions. -/
  | pcieConfigRequest (link dpid fn offset tag be data : Nat) (write : Bool)
  /-- DEVICE_COMPLETION_RECEIVE (R269). A completion to a device-originated request is passed to
  its mover, loader or shim. -/
  | deviceCompletionReceive (link spid dpid tag status : Nat) (poison : Bool) (data : List Byte)
  /-- COMPLETION_TIMEOUT (R262). A device non-posted request without completion in its timeout
  is settled as a lost completion. -/
  | completionTimeout (link tag : Nat)
  /-- IDE_INTEGRITY_FAILURE (R270). An IDE integrity failure moves the stream to Insecure and
  discards the traffic. -/
  | ideIntegrityFailure (link stream : Nat)
  /-- IDE_KM_KEY_PROGRAM (R387). IDE_KM inside a secured session programs an IDE key. -/
  | ideKmKeyProgram (link stream slot key : Nat)
  /-- SHIM_TX_PACKET (R272). A packet from the panel at the shim is sent on its link or
  rejected. -/
  | shimTxPacket (port kind link partner tag : Nat) (nonPosted : Bool) (bytes : List Byte)
  /-- SHIM_HOLD_TIMEOUT (R274). RX traffic held longer than SHIM_HOLD_US while the panel is not
  RUNNING is settled. -/
  | shimHoldTimeout (port : Nat)
  /-- L0P_RESPONSE (R275). A partner's grant or refusal of L0p under NARROW_LINKS narrows the
  link or counts NARROW_UNSUPPORTED. -/
  | l0pResponse (link : Nat) (granted : Bool)
  /-- MCTP_VDM_RECEIVE (R353). An MCTP packet received as a PCIe VDM is passed to the Salyn
  transport. -/
  | mctpVdmReceive (link dpid requester routing : Nat) (packet : List Byte)
  /-- TRAINING_FRAME_RECEIVE (R282). A Lace training frame is taken, settling lead, lane
  numbering, rate and equalization fields. -/
  | trainingFrameReceive (lane : Nat) (levels : List Nat)
  /-- LACE_RATE_CHANGE (R284). After switch frames are exchanged the lane changes rate and
  begins equalization. -/
  | laceRateChange (lane : Nat)
  /-- CAP_FLIT_RECEIVE (R287). A CAP flit is taken, recording the peer's capabilities and
  advancing the exchange to START and ACTIVE. -/
  | capFlitReceive (lane : Nat) (flit : List Byte)
  /-- LACE_WRITE (R291). A WRITE flit is performed in its space in SEQ order. -/
  | laceWrite (link : Nat) (flit : List Byte)
  /-- LACE_READ (R291). A READ flit is served with COMPLETION flits. -/
  | laceRead (link : Nat) (flit : List Byte)
  /-- LACE_ATOMIC (R291). An ATOMIC flit is performed in SPACE 2 and returns the original value.
  -/
  | laceAtomic (link : Nat) (flit : List Byte)
  /-- LACE_FLUSH (R293). A FLUSH flit is taken and waits for the partner's earlier writes. -/
  | laceFlush (link : Nat) (flit : List Byte)
  /-- LACE_FLUSH_DONE (R293). When every earlier WRITE of the partner is performed, the FLUSH
  completes. -/
  | laceFlushDone (link : Nat)
  /-- LACE_MCTP (R295). An MCTP flit is handled as the PCIe VDM transport. -/
  | laceMctp (link : Nat) (flit : List Byte)
  /-- LACE_COMPLETION (R293). A COMPLETION flit is delivered to its requester or is a protocol
  error. -/
  | laceCompletion (link : Nat) (flit : List Byte)
  /-- LACE_USER_FLIT (R290). A user flit is delivered to the shim as one beat, or discarded with
  its credit returned. -/
  | laceUserFlit (link : Nat) (flit : List Byte)
  /-- LACE_SHIM_TX_FLIT (R290). A user flit from the shim is sequenced and sent, or rejected. -/
  | laceShimTxFlit (link partner : Nat) (flit : List Byte)
  /-- LACE_NULL_FLIT (R289). A NULL flit is taken for its acknowledgement, NAK and credit
  fields. -/
  | laceNullFlit (link : Nat) (flit : List Byte)
  /-- LACE_BAD_FLIT (R298). A bad flit is discarded with later flits and a NAK is sent. -/
  | laceBadFlit (link nth : Nat) (codewords : List RxCodeword)
  /-- LACE_NAK_RESEND (R298). Every 2 µs while waiting for SEQ e the receiver sends NAK again.
  -/
  | laceNakResend (link : Nat)
  /-- LACE_NAK_RECEIVE (R298). A received NAK starts a replay of every flit after ACK_SEQ. -/
  | laceNakReceive (link : Nat) (flit : List Byte)
  /-- LACE_REPLAY_TIMEOUT (R298). An oldest unacknowledged flit waiting 20 µs starts a replay,
  or a retrain at the fourth. -/
  | laceReplayTimeout (link : Nat)
  /-- LACE_CREDIT_NULL (R296). When no other flit is due, NULL flits report each VC's credits at
  least once per µs. -/
  | laceCreditNull (link : Nat)
  /-- LACE_RETRAIN_COMMAND (R299). A write to LACE_RETRAIN begins a retrain of an ACTIVE link.
  -/
  | laceRetrainCommand (src : Source) (link value : Nat)
  /-- LACE_PARTNER_IDLE (R299). Unexplained electrical idle of 1 µs on an RX_ON lane begins a
  retrain with cause PARTNER. -/
  | lacePartnerIdle (link : Nat)
  /-- LACE_RETRAIN_IDLE_END (R299). After 2 µs of idle the retraining end moves its lanes to
  LOCK. -/
  | laceRetrainIdleEnd (link : Nat)
  /-- LACE_DOZE_IDLE_TIMER (R301). LACE_DOZE_IDLE_NS without traffic sends a DOZE flit. -/
  | laceDozeIdleTimer (link : Nat)
  /-- LACE_OFF_IDLE_TIMER (R301). LACE_OFF_IDLE_US without traffic sends an OFF flit. -/
  | laceOffIdleTimer (link : Nat)
  /-- LACE_SLEEP_ACKED (R301). Acknowledgement of a DOZE or OFF flit puts the transmit lanes in
  TX_DOZE or TX_OFF. -/
  | laceSleepAcked (link : Nat)
  /-- LACE_DOZE_FLIT (R301). An accepted DOZE flit lets the receiving lanes enter RX_DOZE on
  idle. -/
  | laceDozeFlit (link : Nat) (flit : List Byte)
  /-- LACE_OFF_FLIT (R301). An accepted OFF flit lets the receiving lanes enter RX_OFF on idle.
  -/
  | laceOffFlit (link : Nat) (flit : List Byte)
  /-- LACE_DOZE_MAX (R301). After 50 µs the device leaves TX_DOZE. -/
  | laceDozeMax (link : Nat)
  /-- LACE_WAKE (R302). Leaving doze or off restarts the transmitter and sends NULL flits, or
  regains marker lock on signal return. -/
  | laceWake (link : Nat) (receiver : Bool)
  /-- LACE_RX_READY (R302). An accepted RX_READY flit lets the waking end resume normal flits.
  -/
  | laceRxReady (link : Nat) (flit : List Byte)
  /-- LACE_WIDTH_FLIT (R303). A WIDTH flit changes the sender's transmit width and may request
  the receiver's. -/
  | laceWidthFlit (link : Nat) (flit : List Byte)
  /-- LACE_NARROW_TIMEOUT (R303). A partner not narrowed within 100 µs counts
  NARROW_UNSUPPORTED. -/
  | laceNarrowTimeout (link : Nat)
  /-- LACE_REQUEST_TIMEOUT (R293). A device request without completion in 50 ms frees its tag as
  a lost completion. -/
  | laceRequestTimeout (link tag : Nat)
  /-- LOADER_LOAD (R314). LOADER_COMMAND LOAD starts a load from FLASH, HOST or CHAIN. -/
  | loaderLoad (src : Source) (value : Nat)
  /-- LOADER_ABORT (R323). LOADER_COMMAND ABORT ends the load ABORTED at the next record
  boundary. -/
  | loaderAbort (src : Source)
  /-- LOADER_BOOT_LOAD (R324). LOADER_COMMAND BOOT_LOAD starts a boot load of up to three
  attempts. -/
  | loaderBootLoad (src : Source)
  /-- LOADER_CHAIN_SEND (R329). LOADER_COMMAND CHAIN_SEND sends the chain streams of the named
  positions. -/
  | loaderChainSend (src : Source) (value : Nat)
  /-- FLASH_PREAMBLE_DONE (R312). The flash preamble reads the boot header and switches the
  flash to 8D-8D-8D, or fails with SOURCE_ERROR. -/
  | flashPreambleDone (header : List Byte) (ok : Bool)
  /-- LOAD_HEADER (R317). A bitstream header taken whole is checked and, when accepted, makes
  the target slots and empty panels LOADING. -/
  | loadHeader (header : List Byte)
  /-- LOAD_FRAME_RECORD (R319). A frame record taken whole is checked and written to its slot,
  or ends the load. -/
  | loadFrameRecord (record : List Byte)
  /-- LOAD_END_RECORD (R316). The end record after FRAME_COUNT frames moves the loader to
  VERIFY, or awaits the signature record. -/
  | loadEndRecord (record : List Byte)
  /-- LOAD_SIGNATURE_RECORD (R316). The signature record taken whole moves the loader to VERIFY.
  -/
  | loadSignatureRecord (record : List Byte)
  /-- LOAD_VERIFY_DONE (R320). Verification of digest, signature and slot digests ends, making
  slots VALID and the loader DONE, or FAILED. -/
  | loadVerifyDone (crcFail : Bool)
  /-- LOAD_TIMEOUT (R322). No byte for LOAD_TIMEOUT_MS ends the load INCOMPLETE. -/
  | loadTimeout
  /-- CHAIN_ENVELOPE (R328). A chain envelope is forwarded, passed to the loader, or discarded
  by its POS. -/
  | chainEnvelope (data : List Byte)
  /-- SALYN_MESSAGE_ARRIVAL (R347). A Salyn message arrives on a transport and is held, dropped
  or discarded. -/
  | salynMessageArrival (src : Source) (message : List Byte)
  /-- SALYN_READ (R345). An accepted READ returns an object's value after the checks of R13. -/
  | salynRead (transport : Nat)
  /-- SALYN_WRITE (R340). An accepted WRITE is checked, applied or refused, journalled and
  answered. -/
  | salynWrite (transport : Nat) (seen : WriteSeen)
  /-- SALYN_DESCRIBE (R345). An accepted DESCRIBE returns an object's type, access, length and
  flags. -/
  | salynDescribe (transport : Nat)
  /-- SALYN_ENUMERATE (R345). An accepted ENUMERATE returns the subindex map of an index. -/
  | salynEnumerate (transport : Nat)
  /-- NOTIFY_RESPONSE (R368). A NOTIFY response acknowledges the matching target's
  unacknowledged NOTIFY. -/
  | notifyResponse (src : Source) (tag : Nat)
  /-- FIRMWARE_REPLY (R348). Firmware replies to a firmware-served request and the engine
  answers it. -/
  | firmwareReply (idx sub : Nat) (seen : WriteSeen)
  /-- FIRMWARE_TIMEOUT (R348). No firmware reply within 10 ms answers INTERNAL and writes
  FIRMWARE_TIMEOUT. -/
  | firmwareTimeout (idx sub : Nat)
  /-- DICTIONARY_WRITE (R340). A write to an object or register with no row of its own is
  checked and applied. -/
  | dictionaryWrite (src : Source) (idx sub ty : Nat) (value : List Byte) (seen : WriteSeen)
  /-- TRANSPORT_SETTING_APPLY (R356). A transport setting write takes effect after its response
  is sent or dropped. -/
  | transportSettingApply
  /-- JOURNAL_ENTRY_ACCEPT (R362). The journal takes one held internal-source entry per MGMT
  cycle. -/
  | journalEntryAccept (source : Nat)
  /-- JOURNAL_ENTRY_READ (R363). A read of JOURNAL_ENTRY returns the entry at JOURNAL_READ_INDEX
  and advances it. -/
  | journalEntryRead (src : Source)
  /-- NV_JOURNAL_ENTRY_READ (R364). A read of NV_JOURNAL_ENTRY returns the NV copy entry and
  advances its index. -/
  | nvJournalEntryRead (src : Source)
  /-- JOURNAL_NV_COPY (R364). The copier copies one journal entry into the NV journal area as a
  four-pair group. -/
  | journalNvCopy
  /-- SEQ_RESERVE_COMMIT (R363). When the next SEQ nears the reserve, a new SEQ reserve is
  committed to the NV store. -/
  | seqReserveCommit
  /-- NOTIFY_SEND (R368). With 16 records pending or 1 ms after the oldest, a NOTIFY is sent to
  a target. -/
  | notifySend (target : Nat)
  /-- NOTIFY_RESEND (R368). A NOTIFY without response in 100 ms is resent, and dropped after
  three resends. -/
  | notifyResend (target : Nat)
  /-- ALERT_ACK_WRITE (R369). A write to ALERT_ACK releases ALERT_N when it equals ALERT_SEQ. -/
  | alertAckWrite (src : Source) (value : Nat)
  /-- UDP_REASSEMBLY_TIMEOUT (R355). A fragmented request not reassembled within 1 s is
  discarded and counted. -/
  | udpReassemblyTimeout
  /-- ARP_REQUEST (R354). An ARP request for IPV4_ADDRESS is answered. -/
  | arpRequest (ip : Nat)
  /-- ICMP_ECHO (R354). An ICMP echo to IPV4_ADDRESS is answered. -/
  | icmpEcho (ip : Nat)
  /-- MCTP_CONTROL_COMMAND (R351). A served MCTP control command such as Set Endpoint ID is
  answered. -/
  | mctpControlCommand (src : Source) (cmd : Nat) (data : List Byte)
  /-- DYNAMIC_ADDRESS_ASSIGN (R352). An I3C controller assigns the dynamic address with SETDASA
  or ENTDAA. -/
  | dynamicAddressAssign (addr controller : Nat)
  /-- LIFECYCLE_ADVANCE (R377). A write to LIFECYCLE_ADVANCE fuses a later life-cycle state. -/
  | lifecycleAdvance (src : Source) (value : Nat)
  /-- RETURN_TOKEN (R378). A good return token fuses RETURNED. -/
  | returnToken (src : Source) (token : List Byte)
  /-- KEY_HASH_WRITE (R385). A write to FW_KEY_HASH or BS_KEY_HASH fuses a key hash. -/
  | keyHashWrite (src : Source) (sub : Nat) (hash : List Byte)
  /-- KEY_REVOKE (R385). A write to KEY_REVOKE fuses revocation bits. -/
  | keyRevoke (src : Source) (value : Nat)
  /-- FW_SVN_ADVANCE (R385). A write to FW_SVN_ADVANCE raises MIN_SVN. -/
  | fwSvnAdvance (src : Source) (value : Nat)
  /-- SEC_PIN_MASK_WRITE (R388). A write to SEC_PIN_MASK fuses the tamper pin mask. -/
  | secPinMaskWrite (src : Source) (value : Nat)
  /-- FUSE_WRITE_DONE (R376). An accepted fuse write ends within 5 ms and is answered. -/
  | fuseWriteDone (interrupted : Bool)
  /-- BS_KEY_WRITE (R385). A write to BS_KEY puts a bitstream key in force. -/
  | bsKeyWrite (src : Source) (slot : Nat) (key : List Byte)
  /-- FW_VERIFY_AND_START (R382). FW_COMMAND VERIFY_AND_START begins verification of the staged
  image. -/
  | fwVerifyAndStart (src : Source)
  /-- FW_CLEAR_WINDOW (R382). FW_COMMAND CLEAR_WINDOW zeroes the staging window. -/
  | fwClearWindow (src : Source)
  /-- FW_VERIFY_DONE (R382). Verification ends: firmware starts and the device enters MANAGED,
  or the image is rejected. -/
  | fwVerifyDone (windowUe : Bool)
  /-- FW_WINDOW_DATA (R381). A write to FW_WINDOW_DATA stores bytes at FW_WINDOW_OFFSET and
  advances it. -/
  | fwWindowData (src : Source) (data : List Byte)
  /-- BOOT_BAR_WINDOW_WRITE (R381). A write through the boot BAR stores image bytes in the
  window. -/
  | bootBarWindowWrite (offset : Nat) (data : List Byte)
  /-- SPDM_REQUEST (R386). An SPDM request is answered by the security engine. -/
  | spdmRequest (src : Source) (code : Nat)
  /-- TAMPER (R388). A SEC pin held low for 1 µs zeroizes keys and sets TAMPER_STATUS. -/
  | tamper (pin : Nat)
  /-- WATCHDOG_EXPIRY (R384). Watchdog expiry writes WATCHDOG_EXPIRED and starts the orderly
  stop with cause WATCHDOG. -/
  | watchdogExpiry
  /-- CORE_TRAP_TIMEOUT (R384). A precise trap not handled within 1 ms is treated as a watchdog
  expiry. -/
  | coreTrapTimeout
  /-- THERMAL_SAMPLE (R392). Every 100 µs the sequencer converts all sensors and thermistors and
  computes inferred T2 values. -/
  | thermalSample (readings : List (Nat × Option Int)) (coolant : List (Nat × Int)) (coolantOk : Bool)
  /-- THERMISTOR_RECOVER (R393). After 3 good samples a faulted thermistor returns to service.
  -/
  | thermistorRecover (t : Nat)
  /-- LEVEL_RISE_CONFIRM (R396). Three consecutive samples at or above a rise point confirm a
  level on for a value. -/
  | levelRiseConfirm (level value : Nat)
  /-- LEVEL_RELEASE_CONFIRM (R396). Three consecutive samples below a release point confirm a
  warm or press level off. -/
  | levelReleaseConfirm (level value : Nat)
  /-- SENSOR_DISAGREE_LATCH (R399). An inferred value exceeding the measured one by 8 °C for 100
  samples latches SENSOR_DISAGREE. -/
  | sensorDisagreeLatch (site : Nat)
  /-- DISAGREE_MAP_WRITE (R399). Writing a DISAGREE_MAP bit as 0 clears it when the difference
  allows. -/
  | disagreeMapWrite (src : Source) (word value : Nat)
  /-- COOLANT_LOSS_CONFIRM (R394). COOLANT_OK low for 3 samples sets COOLANT_LOST and acts per
  COOLANT_OK_ACTION. -/
  | coolantLossConfirm
  /-- COOLANT_RESTORE_CONFIRM (R394). COOLANT_OK high for 3 samples clears COOLANT_LOST. -/
  | coolantRestoreConfirm
  /-- INLET_HIGH_CONFIRM (R393). THERM_IN above INLET_LIMIT_C for 3 samples sets INLET_HIGH. -/
  | inletHighConfirm
  /-- INLET_HIGH_CLEAR (R393). Three samples 1 °C below the limit clear INLET_HIGH. -/
  | inletHighClear
  /-- LEVEL_POINT_WRITE (R395). A write to a rise or release point is checked for order and
  takes effect at the next sample. -/
  | levelPointWrite (src : Source) (sub value : Nat)
  /-- FRAY_SAMPLE (R418). Each whole second each interface's temperature updates its cycle
  tracker. -/
  | fraySample
  /-- FRAY_PERIODIC_SAVE (R423). Every 10 minutes the fray records and state are queued for an
  NV commit. -/
  | frayPeriodicSave
  /-- NV_GROUP_COMMIT_DONE (R422). An NV commit group finishes programming its COMMITs and the
  engine takes its next group. -/
  | nvGroupCommitDone
  /-- FIRMWARE_NV_WRITE (R424). Firmware queues a write to its NV area through the core's NV
  port. -/
  | firmwareNvWrite (pair : Nat) (data : List Nat)
  /-- RAIL_OUT_OF_RANGE (R433). A monitor outside its window for 4 samples takes a rail out of
  range, acting by device state. -/
  | railOutOfRange (monitor : Nat)
  /-- RAIL_IN_RANGE (R433). All monitors inside the window for 4 samples bring a rail back in
  range. -/
  | railInRange (monitor : Nat)
  /-- SUPPLY_REMOVAL (R436). A rail removed after PWR_OFF_REQ sets REMOVED and decides what
  CLEAR restores. -/
  | supplyRemoval (rail : Nat)
  /-- RESET_N_ASSERT (R446). RESET_N low for 1 µs asserts a COLD reset. -/
  | resetNAssert
  /-- COLD_RESET_RELEASE (R446). Release of a COLD reset enters BOOT with a full bond test. -/
  | coldResetRelease
  /-- WARM_N_ASSERT (R448). WARM_N low for 1 µs starts a BASE_WARM reset at the tier gate. -/
  | warmNAssert
  /-- RESET_COMMAND_COLD (R447). RESET_COMMAND COLD is accepted and takes hold 100 µs after its
  response. -/
  | resetCommandCold (src : Source)
  /-- RESET_COMMAND_BASE_WARM (R447). RESET_COMMAND BASE_WARM is accepted and takes hold 100 µs
  after its response. -/
  | resetCommandBaseWarm (src : Source)
  /-- RESET_COMMAND_PANEL (R447). RESET_COMMAND PANEL asserts a PANELn reset at once. -/
  | resetCommandPanel (src : Source) (panel : Nat)
  /-- RESET_COMMAND_FABRIC (R447). RESET_COMMAND FABRIC asserts a reset in all 32 panels at
  once. -/
  | resetCommandFabric (src : Source)
  /-- RESET_TAKE_HOLD (R447). 100 µs after the response or its drop, a commanded COLD or
  BASE_WARM reset takes hold. -/
  | resetTakeHold
  /-- BASE_WARM_RELEASE (R448). 10 µs after the T0 reset the BASE_WARM reset releases and BOOT
  begins. -/
  | baseWarmRelease
  /-- PMBUS_POLL (R437). The power manager reads the next regulator's values and status in
  rotation. -/
  | pmbusPoll (entry : Nat) (ack modeOk : Bool) (vout iout temp status : Nat)
  /-- PMB_ALERT (R437). PMB_ALERT_N low makes the power manager read every regulator's
  STATUS_WORD. -/
  | pmbAlert (statuses : List (Nat × Option Nat))
  /-- VCORE_SETPOINT_WRITE (R438). A write to VCORE_SETPOINT_MV starts moving the regulators'
  VOUT_COMMAND. -/
  | vcoreSetpointWrite (src : Source) (mv : Nat)
  /-- VCORE_SETPOINT_STEP (R438). Every 50 µs the setpoint moves one 5 mV step until it is
  reached. -/
  | vcoreSetpointStep
  /-- POWER_ESTIMATE (R439). Every 100 µs each panel's power estimate is computed. -/
  | powerEstimate (mv2 mv4 : Nat) (toggles : List (Nat × Nat))
  /-- POWER_CALIBRATION (R439). Every 10 ms the calibration ratio k is recomputed from measured
  VCC_CORE power. -/
  | powerCalibration
  /-- POWER_HIGH_CONFIRM (R439). Device power above POWER_NOTICE_W for 10 ms writes POWER_HIGH.
  -/
  | powerHighConfirm
  /-- PROCESS_MONITOR_READ (R440). Every 10 ms process monitors are read and compared with their
  references. -/
  | processMonitorRead (mv2 mv4 : Nat) (readings : List (Nat × Nat))
  /-- CLOCK_DOMAIN_START (R442). A domain that becomes needed starts within 20 µs. -/
  | clockDomainStart (n : Nat)
  /-- PLL_UNLOCK (R442). A PLL losing lock gates its clock and writes PLL_UNLOCK. -/
  | pllUnlock (n : Nat)
  /-- PLL_RELOCK (R442). A PLL regaining lock ungates its clock. -/
  | pllRelock (n : Nat)
  /-- REF_LOSS (R443). No REF edge for 1 µs puts the PLLs in holdover and writes REF_LOST. -/
  | refLoss
  /-- REF_RESTORED (R443). 1 ms of continuous REF edges pulls the PLLs back and writes
  REF_RESTORED. -/
  | refRestored
  /-- FCLK_FREQ_WRITE (R444). A write to FCLK_FREQ_KHZ relocks the FCLK PLL with the clock
  gated. -/
  | fclkFreqWrite (src : Source) (n khz : Nat)
  /-- FCLK_RELOCK_DONE (R444). The commanded relock completes within 20 µs and the FCLK runs at
  the new frequency. -/
  | fclkRelockDone (n : Nat)
  /-- AON_RETRIM (R445). Once per second the AON oscillator takes the trim word for the T0 mean
  temperature. -/
  | aonRetrim
  /-- PLL_RECALIBRATION (R445). A 20 °C move near a PLL triggers a hitless VCO band
  recalibration. -/
  | pllRecalibration (n : Nat)
  /-- SELFTEST_START_MEMORY (R459). SELFTEST_COMMAND START of the MEMORY engine begins slices
  over a bank range. -/
  | selftestStartMemory (src : Source) (value : Nat)
  /-- SELFTEST_START_LOGIC (R463). START of the LOGIC engine puts the panel set in TEST. -/
  | selftestStartLogic (src : Source) (value : Nat)
  /-- SELFTEST_START_LANE (R465). START of the LANE engine runs near-end loopback on a lane
  range. -/
  | selftestStartLane (src : Source) (value : Nat)
  /-- SELFTEST_START_FUSE (R466). START of the FUSE engine reads every fuse bit at both margins.
  -/
  | selftestStartFuse (src : Source) (value : Nat)
  /-- SELFTEST_ABORT (R467). SELFTEST_COMMAND ABORT ends a running engine's test. -/
  | selftestAbort (src : Source) (value : Nat)
  /-- MEMORY_SLICE_START (R459). After SLICE_INTERVAL_US a group's next slice enters its bank's
  arbiter at priority 6. -/
  | memorySliceStart (group : Nat) (saveFails : Bool)
  /-- MEMORY_SLICE_END (R460). A slice ends at its budget or bank end, and failing words are
  migrated. -/
  | memorySliceEnd (group rows : Nat) (failing : List Nat)
  /-- LOGIC_TEST_END (R463). A panel's logic test ends, recording LOGIC_RESULT and returning the
  panel from TEST. -/
  | logicTestEnd (panel result : Nat)
  /-- LANE_TEST_END (R465). After LANE_TEST_MS each lane passes or fails and leaves LOOPBACK. -/
  | laneTestEnd (results : List LaneCheck)
  /-- FUSE_TEST_END (R466). The fuse margin test ends after 20 ms with FUSE_MARGIN_FAILS. -/
  | fuseTestEnd (fails : Nat)
  /-- PIN_CONFIG_WRITE (R475). A PIN_CONFIG write is checked and starts the hold window or
  applies electrical settings. -/
  | pinConfigWrite (src : Source) (n value : Nat)
  /-- PIN_HOLD_WINDOW_END (R481). At the end of the hold window the new function drives and
  samples the pad. -/
  | pinHoldWindowEnd (n : Nat) (board level : Bool)
  /-- GPIO_OUT_WRITE (R476). A masked write to GPIO_OUT sets the output levels of MGMT GPIO
  pins. -/
  | gpioOutWrite (src : Source) (g value : Nat)
  /-- GPIO_OE_WRITE (R476). A masked write to GPIO_OE sets the output enables of MGMT GPIO pins.
  -/
  | gpioOeWrite (src : Source) (g value : Nat)
  /-- GPIO_EDGE (R478). A selected edge on a GPIO input sets EDGE_PENDING and writes GPIO_EDGE.
  -/
  | gpioEdge (n : Nat) (level : Bool)
  /-- SYNC_CAPTURE (R479). An edge on a SYNC_IN pin latches AON time into SYNC_TIME. -/
  | syncCapture (n : Nat) (level : Bool)
  /-- EDGE_PENDING_WRITE (R478). Writing 1 to EDGE_PENDING bits clears them. -/
  | edgePendingWrite (src : Source) (g value : Nat)
  /-- EYELET_SELECT_WRITE (R486). A write to EYELET_SELECT selects an eyelet's probe and
  unfreezes it. -/
  | eyeletSelectWrite (src : Source) (k value : Nat)
  /-- EYELET_TRIGGER (R488). A rising edge of an eyelet trigger freezes selected eyelets and
  counts the trigger. -/
  | eyeletTrigger (t : Nat)
  /-- JTAG_INSTRUCTION_UPDATE (R490). A new instruction becomes current, acting as BYPASS when
  not permitted. -/
  | jtagInstructionUpdate (code : Nat)
  /-- JTAG_FUSE_READ (R491). FUSE_READ captures the addressed fuse word. -/
  | jtagFuseRead (addr : Nat)
  /-- JTAG_FUSE_PROGRAM (R491). FUSE_PROGRAM programs the addressed fuse word at Update-DR. -/
  | jtagFuseProgram (addr data : Nat)
  /-- JTAG_PROBE_SCAN (R491). PROBE_SCAN captures every probe point at Capture-DR. -/
  | jtagProbeScan
  /-- CORE_DEBUG_ACCESS (R491). CORE_DEBUG halts, steps or accesses the management core. -/
  | coreDebugAccess (kind addr data : Nat)
  /-- TRST (R489). TRST_N resets the TAP controller. -/
  | trst
  /-- WATCHDOG_RESTART (R384). Firmware restarts the management core watchdog through a core
  register. -/
  | watchdogRestart
  /-- SHIM_RX_PACKET (R273). A received inbound request, H2D request or S2M BISnp bound for the
  fabric shim is placed in the shim FIFO, held or refused. -/
  | shimRxPacket (port kind link spid dpid tag : Nat) (nonPosted : Bool) (bytes : List Byte) (cut : Nat)
  /-- WAKE_LOCK_TIMEOUT (R244). A receiver leaving RX_OFF that has not regained marker lock
  within two marker intervals plus 20 µs causes a link retrain with cause WAKE. -/
  | wakeLockTimeout (link : Nat)
  /-- ETH_LINK_CHANGE (R373). The external RGMII PHY reports Ethernet link up or down and
  ETH_STATUS follows it. -/
  | ethLinkChange (up : Bool) (speed : Nat)
  deriving DecidableEq, Repr

end Sys2Proof
end

