-- ==== Sys2Proof/Machine/Operands.lean ====
section
/-! DEFINITION. Operand forms: bit fields of a number, little-endian bytes (R5), two's complement. -/

namespace Sys2Proof

/-- Bits `hi:lo` of `v`, numbered as R4 numbers them. -/
def bits (v hi lo : Nat) : Nat := v / 2 ^ lo % 2 ^ (hi + 1 - lo)

/-- Bit `n` of `v` (R4). -/
def bitAt (v n : Nat) : Bool := v.testBit n

/-- A flag as a register bit. -/
def flag (b : Bool) : Nat := if b then 1 else 0

/-- `v` with bit `n` set to `b`. -/
def setBit (v n : Nat) (b : Bool) : Nat :=
  if v.testBit n = b then v else if b then v + 2 ^ n else v - 2 ^ n

/-- Saturating count at `top` (R373: "Counters saturate"). -/
def satAdd (top v n : Nat) : Nat := if top < v + n then top else v + n

/-- The largest U32. -/
def maxU32 : Nat := 4294967295

/-- The value of little-endian bytes (R5). -/
def leValue : List Byte → Nat
  | [] => 0
  | b :: t => b.toNat + 256 * leValue t

/-- `n` little-endian bytes of a value (R5). -/
def leBytes : Nat → Nat → List Byte
  | 0, _ => []
  | n + 1, v => BitVec.ofNat 8 v :: leBytes n (v / 256)

/-- Most significant byte first, as MCTP and IP headers fix. -/
def beBytes (n v : Nat) : List Byte := (leBytes n v).reverse

/-- The value of big-endian bytes. -/
def beValue (l : List Byte) : Nat := leValue l.reverse

/-- The `n` bytes at offset `off`, short where the list ends. -/
def slice (l : List α) (off n : Nat) : List α := (l.drop off).take n

/-- A 16-bit two's complement value as an integer (type I16 of R338). -/
def s16 (v : Nat) : Int := if v < 32768 then (v : Int) else (v : Int) - 65536

/-- An integer as a 16-bit two's complement value. -/
def u16 (v : Int) : Nat := (v % 65536).toNat

/-- The members of `0 … n-1` whose bit is set in `m`, rising. -/
def members (n m : Nat) : List Nat := (List.range n).filter (fun k => m.testBit k)

/-- The number of bits set in the low `n` bits of `m`. -/
def popCount (n m : Nat) : Nat := (members n m).length

end Sys2Proof
end

