-- ==== Sys2Proof/Machine/Flags.lean ====
section
/-! DEFINITION. Check codes and flag computations: the cyclic redundancy checks of records, entries and flits. -/

namespace Sys2Proof

/-- `k x`, with the value of `x` taken first: what evaluates a long chain of these takes one value at a time. -/
def withNat (x : Nat) (k : Nat → α) : α :=
  match x with
  | 0 => k 0
  | n + 1 => k (n + 1)

/-- Taking the value first changes nothing. -/
@[simp] theorem withNat_eq (x : Nat) (k : Nat → α) : withNat x k = k x := by cases x <;> rfl

/-- One bit through a cyclic check of width `w`, most significant bit first. -/
def crcBit (w poly reg : Nat) (b : Bool) : Nat :=
  let shifted := reg * 2 % 2 ^ w
  if reg.testBit (w - 1) = b then shifted else shifted ^^^ poly

/-- A cyclic check of width `w` over bits taken in order. -/
def crcBits (w poly : Nat) : Nat → List Bool → Nat
  | reg, [] => reg
  | reg, b :: t => withNat (crcBit w poly reg b) fun r => crcBits w poly r t

/-- The low `n` bits of `v`, most significant first. -/
def msbBits : Nat → Nat → List Bool
  | 0, _ => []
  | n + 1, v => v.testBit n :: msbBits n v

/-- The low `n` bits of `v`, least significant first. -/
def lsbBits (n v : Nat) : List Bool := (msbBits n v).reverse

/-- CRC-16 of R282, R360 and R421: polynomial x^16 + x^12 + x^5 + 1, initial value 0xFFFF. -/
def crc16 (l : List Bool) : Nat := crcBits 16 0x1021 0xFFFF l

/-- The bits of bytes, each byte most significant bit first. -/
def bytesMsb (l : List Byte) : List Bool := l.flatMap (fun b => msbBits 8 b.toNat)

/-- The bits of bytes, each byte least significant bit first. -/
def bytesLsb (l : List Byte) : List Bool := l.flatMap (fun b => lsbBits 8 b.toNat)

/-- The 32 bits of `v` in reverse order. -/
def reflect32 (v : Nat) : Nat := (lsbBits 32 v).foldl (fun a b => 2 * a + flag b) 0

/-- CRC-32C (R311, R308): PRESUMED (log 40), the reflected form of polynomial 0x1EDC_6F41 with initial value and
final XOR of ones. -/
def crc32c (l : List Byte) : Nat :=
  reflect32 (crcBits 32 0x1EDC6F41 0xFFFFFFFF (bytesLsb l)) ^^^ 0xFFFFFFFF

/-- The flit check of R288: polynomial 0x42F0_E1EB_A9EA_3693, initial value and final XOR of ones. -/
def crc64 (l : List Byte) : Nat :=
  crcBits 64 0x42F0E1EBA9EA3693 0xFFFFFFFFFFFFFFFF (bytesMsb l) ^^^ 0xFFFFFFFFFFFFFFFF

end Sys2Proof
end

