-- ==== Sys2Proof/Machine/Ecc.lean ====
section
/-! DEFINITION. The codes of memory words: the code of R121–R124 over GF(2^9) with its address check over GF(2^6), and
the base-tier code of R141 over GF(2^7). -/

namespace Sys2Proof

/-- Multiplication by the root of a field of `2^w` elements whose polynomial is `poly`. -/
def gfStep (w poly x : Nat) : Nat :=
  if x.testBit (w - 1) then (2 * x) ^^^ poly else 2 * x

/-- Multiplication by the root to the power `n`. -/
def gfShift (w poly : Nat) : Nat → Nat → Nat
  | 0, x => x
  | n + 1, x => withNat (gfStep w poly x) fun y => gfShift w poly n y

/-- The product of two field elements, over the low `n` bits of the second. -/
def gfMul (w poly : Nat) : Nat → Nat → Nat → Nat
  | 0, _, _ => 0
  | n + 1, x, y =>
    (if y.testBit n then gfShift w poly n x else 0) ^^^ gfMul w poly n x y

/-- Horner's rule: the sum of the root to the power `k·p` over the set positions `p`, from the highest. -/
def gfEval (w poly k : Nat) : Nat → List Bool → Nat
  | acc, [] => acc
  | acc, b :: t => withNat (gfShift w poly k acc ^^^ flag b) fun a => gfEval w poly k a t

/-- The parity of bits. -/
def parityBits : List Bool → Bool
  | [] => false
  | b :: t => if b then !parityBits t else parityBits t

/-- A code of this family (R121, R141): its field, the generator of its main check, and its lengths. -/
structure EccCode where
  width : Nat
  poly : Nat
  gen : Nat
  mainBits : Nat
  length : Nat
  addrFrom : Nat
  deriving DecidableEq, Repr

/-- The main code of a memory-tier word (R123). -/
def tierCode : EccCode := ⟨9, 0x211, 0x495C9, 18, 313, 287⟩

/-- A main codeword's two syndromes (R124). -/
def EccCode.synd (c : EccCode) (k m : Nat) : Nat := gfEval c.width c.poly k 0 (msbBits c.length m)

/-- The main check of the positions above it (R123): the unique value for which both sums are 0. -/
def EccCode.mainCheck (c : EccCode) (upper : Nat) : Nat :=
  crcBits c.mainBits (c.gen % 2 ^ c.mainBits) 0 (msbBits (c.length - c.mainBits) upper)

/-- What the main decoder finds (R124): no error; located positions, with `parity` when the overall parity bit is one
of them; or a syndrome it cannot locate. -/
inductive MainDecode where
  | none
  | located (pos : List Nat) (parity : Bool)
  | other
  deriving DecidableEq, Repr

/-- The cube of a field element. -/
def EccCode.cube (c : EccCode) (x : Nat) : Nat :=
  gfMul c.width c.poly c.width (gfMul c.width c.poly c.width x x) x

/-- Look for one located position: the `p` below `n` with root^p = `x`, counting up from `p`. -/
def EccCode.logFrom (c : EccCode) (x : Nat) : Nat → Nat → Nat → Option Nat
  | 0, _, _ => Option.none
  | n + 1, p, pow =>
    if pow = x then some p
    else withNat (p + 1) fun p1 => withNat (gfStep c.width c.poly pow) fun y => c.logFrom x n p1 y

/-- The position of a field element among the code's positions. -/
def EccCode.log (c : EccCode) (x : Nat) : Option Nat := c.logFrom x c.length 0 1

/-- Look for two located positions with sum `s1` and sum of cubes `s3`. -/
def EccCode.pairFrom (c : EccCode) (s1 s3 : Nat) : Nat → Nat → Nat → Option (Nat × Nat)
  | 0, _, _ => Option.none
  | n + 1, p, pow =>
    let y := pow ^^^ s1
    let next := withNat (p + 1) fun p1 => withNat (gfStep c.width c.poly pow) fun z => c.pairFrom s1 s3 n p1 z
    if (c.cube pow) ^^^ (c.cube y) = s3 then
      match c.log y with
      | some q => if p < q then some (p, q) else next
      | Option.none => next
    else next

/-- The main decode of R124 from the syndromes and the overall parity. -/
def EccCode.decode (c : EccCode) (s1 s3 : Nat) (odd : Bool) : MainDecode :=
  if s1 = 0 ∧ s3 = 0 then (if odd then .located [] true else .none)
  else if s1 ≠ 0 ∧ s3 = c.cube s1 then
    match c.log s1 with
    | some p => .located [p] (!odd)
    | Option.none => .other
  else if odd then .other
  else
    match c.pairFrom s1 s3 c.length 0 1 with
    | some (p, q) => .located [p, q] false
    | Option.none => .other

/-- Invert the bits of a number at the given positions. -/
def flipBits (v : Nat) : List Nat → Nat
  | [] => v
  | p :: t => flipBits (v ^^^ 2 ^ p) t

/-- The address check AC0–AC12 of a word address (R122). -/
def addrCheck (a : Nat) : Nat := withNat a fun a =>
  gfEval 6 0x43 1 0 (msbBits 26 a) + 64 * gfEval 6 0x43 3 0 (msbBits 26 a)
    + 4096 * flag (parityBits (msbBits 26 a))

/-- The positions of the main code (R123): C0–C17, D0–D255, AC0–AC12, A0–A25. -/
def tierWord (a data check : Nat) : Nat :=
  check % 2 ^ 18 + 2 ^ 18 * data + 2 ^ 274 * (check / 2 ^ 19) + 2 ^ 287 * a

/-- The 32 check bits of a word written at word address `a` (R123). -/
def tierCheck (a data : Nat) : Nat := withNat a fun a => withNat data fun data =>
  let upper := data + 2 ^ 256 * addrCheck a + 2 ^ 269 * a
  let main := tierCode.mainCheck upper
  let all := main + 2 ^ 18 * upper
  main + 2 ^ 18 * flag (parityBits (msbBits 313 all)) + 2 ^ 19 * addrCheck a

/-- The classes of R124. A correctable word gives the corrected data, check bits and number of bits corrected. -/
inductive WordClass where
  | clean
  | correctable (data check count : Nat)
  | uncorrectable
  | address
  deriving DecidableEq, Repr

/-- The corrected word at an address, where the class corrects one. -/
def WordClass.mended (c : WordClass) (a : Nat) : List (Nat × Nat) :=
  match c with
  | .correctable d _ _ => [(a, d)]
  | _ => []

/-- The status of a class (R124, R106). -/
def WordClass.status : WordClass → Nat
  | .clean => 0
  | .correctable _ _ _ => 1
  | .uncorrectable => 3
  | .address => 4

/-- The read decode of R124: the stored data and check bits against the requested word address. -/
def tierDecode (a data check : Nat) : WordClass := withNat (tierWord a data check) fun m =>
  let odd := parityBits (msbBits 313 m) ≠ check.testBit 18
  match tierCode.decode (tierCode.synd 1 m) (tierCode.synd 3 m) odd with
  | .none => if check / 2 ^ 19 = addrCheck a then .clean else .address
  | .located pos par =>
    if pos.any (fun p => decide (287 ≤ p)) then .address
    else
      let m2 := flipBits m pos
      let ck := m2 % 2 ^ 18 + (if check.testBit 18 = par then 0 else 2 ^ 18) + 2 ^ 19 * (m2 / 2 ^ 274 % 2 ^ 13)
      if m2 / 2 ^ 274 % 2 ^ 13 = addrCheck a then
        .correctable (m2 / 2 ^ 18 % 2 ^ 256) ck (pos.length + flag par)
      else .address
  | .other => if check / 2 ^ 19 = addrCheck a then .uncorrectable else .address

/-- The main code of the base-tier SRAMs (R141): 14 main check bits, 64 data bits, up to 17 address bits. -/
def baseCode : EccCode := ⟨7, 0x89, 0x4377, 14, 95, 78⟩

/-- How a base-tier word decodes when the bits `flips` of its 80 stored bits have changed: bits 0–13 the main check,
14–77 the data, 78 the overall parity, 79 the address parity (R141). The code is linear, so the class depends on the
changed bits alone. The overall parity covers the address parity, and the classes where it differs are those that keep the
guarantees of R125 (log 147). -/
def baseDecode (flips : Nat) : WordClass := withNat flips fun flips =>
  let m := flips % 2 ^ 78
  let odd := parityBits (msbBits 80 flips)
  let differs := flips.testBit 79
  match baseCode.decode (baseCode.synd 1 m) (baseCode.synd 3 m) odd with
  | .none => if differs then .correctable 0 0 2 else .clean
  | .located pos par =>
    if pos.any (fun p => decide (78 ≤ p)) then .address
    else if differs && !pos.isEmpty && (pos.length = 2 || !par) then .address
    else .correctable 0 0 (pos.length + flag par)
  | .other => if differs then .address else .uncorrectable

end Sys2Proof
end

