-- ==== Sys2Proof/Netlist.lean ====
section
/-! DEFINITION. The names of signals inside a panel: what routing joins (spec/02), and the settings that frame 48 holds. -/

namespace Sys2Proof

/-- A signal that routing can pick up in a panel; `tile` is local (row × 10 + column). LUT outputs O6 and O5, carry sum and
flip-flops of an LC (R39); a bit of an arithmetic block's output (R42); a bit of a tile memory port's read data (R44); incoming
boundary port `port` of an edge, sides 0 left, 1 right, 2 below, 3 above (R48); stitch `pin` (R50); an input from a hard interface. -/
inductive Net where
  | const (v : Bool)
  | o6 (tile lc : Nat)
  | o5 (tile lc : Nat)
  | sum (tile lc : Nat)
  | ffa (tile lc : Nat)
  | ffb (tile lc : Nat)
  | arith (tile block bit : Nat)
  | mem (tile memory port bit : Nat)
  | edge (tile side port : Nat)
  | stitch (tile pin : Nat)
  | hard (n : Nat)
  /-- The carry out of an LC's carry stage, which only the chain picks up (R41). -/
  | carry (tile lc : Nat)
  deriving DecidableEq, Repr, Inhabited

/-- A pin that routing drives: input `k` of a LUT, the bypass input of an LC, the carry that enters a chain at an LC (R39); the clock
enable and synchronous reset of a cluster; an operand bit of an arithmetic block and its take-an-operation strobe (R42); the
address, data, byte enables, write and read strobes of a tile memory port (R44); local track `n`, which can drive a stitch (R50);
outgoing boundary port `port` of an edge (R48); an output to a hard interface. -/
inductive NetPin where
  | lut (tile lc k : Nat)
  | bypass (tile lc : Nat)
  | chain (tile lc : Nat)
  | enable (tile cluster : Nat)
  | reset (tile cluster : Nat)
  | operand (tile block bit : Nat)
  | take (tile block : Nat)
  | addr (tile memory port bit : Nat)
  | data (tile memory port bit : Nat)
  | byteEn (tile memory port byte : Nat)
  | write (tile memory port : Nat)
  | read (tile memory port : Nat)
  | track (tile n : Nat)
  | out (tile side port : Nat)
  | hard (n : Nat)
  deriving DecidableEq, Repr, Inhabited

/-- The mode of an arithmetic block (R42): 1 MUL2, 2 DOT8, 3 FMA16, else off. `signedA` and `signedB` have a bit for each operand;
MUL2 outputs its products, or with `accumulate` adds them to the accumulator, minus those of `subtract`; `cascade` takes the
accumulator of the block below. -/
structure ArithMode where
  kind : Nat
  signedA : Nat
  signedB : Nat
  accumulate : Bool
  subtract : Nat
  saturate : Bool
  cascade : Bool
  deriving DecidableEq, Repr, Inhabited

/-- The mode of a tile memory (R44): its ports are 8 × 2^`log2` bits wide, `log2` 0 to 5; `outReg` uses the output register. -/
structure TileMemMode where
  log2 : Nat
  outReg : Bool
  deriving DecidableEq, Repr, Inhabited

end Sys2Proof
end

