-- ==== Sys2Proof/Config.lean ====
section
/-! DEFINITION. What an implementation or an outside party fixes and the spec leaves open: constants without a body. -/

namespace Sys2Proof

/-- The free values: a fresh one for every count. Nothing constrains it (log 1). -/
opaque Config.freeValue : Nat → Nat

/-- Whether the part is grade S2 (R1): fixed at manufacture (log 2). -/
opaque Config.gradeS2 : Bool

/-- Whether firmware serves the object at an index (R345, R348): the spec names no list (log 3). -/
opaque Config.firmwareServed : Nat → Bool

/-- ROM_VERSION (R390): a constant the spec gives no value for (log 4). -/
opaque Config.romVersion : Nat

/-- The word-port enable bits of frame 48: the Penel description is not in the spec (log 6). -/
opaque Config.wordPortEnabled : Nat → Bool

/-- The signal that routing joins to a pin of a tile, under the routing frames 45 to 47 of the panel's 80 tiles: their bits are
described outside the spec (R54; log 128). -/
opaque Config.route : List Nat → NetPin → Net

/-- The value of input `n` from a hard interface into a panel, and what a loop of combinational logic delivers (`n` 0): free, by the
count of free values and the panel (log 128). -/
opaque Config.hardValue : Nat → Nat → Nat → Bool

/-- The mode of an arithmetic block, from frame 48 of its tile (R54; log 128). -/
opaque Config.arithMode : Nat → Nat → ArithMode

/-- The mode of a tile memory, from frame 48 of its tile (R54; log 128). -/
opaque Config.tileMemMode : Nat → Nat → TileMemMode

/-- The mode of an incoming boundary port, from frame 48 of its tile, by side and port: 0 direct, 1 registered, else synchronised
(R48, R54; log 128). -/
opaque Config.boundaryMode : Nat → Nat → Nat → Nat

/-- Carry sum and carry out of an LC's carry stage, from O6, O5, bypass and carry in: R39 names the stage and gives no function
(log 135). -/
opaque Config.carrySum : Bool → Bool → Bool → Bool → Bool

/-- See `carrySum`. -/
opaque Config.carryOut : Bool → Bool → Bool → Bool → Bool

/-- O5 of an LC that is not fractured, from its mask and input value: R39 gives it in fractured mode only (log 135). -/
opaque Config.wholeO5 : Nat → Nat → Bool

/-- The numbers from which the order of a tile's clusters is made (R41; log 135). -/
opaque Config.clusterPick : Nat → Nat

/-- The number of the sensor nearest the PLL of a clock domain: R445 names it and gives no place of a PLL (log 179). -/
opaque Config.pllSensor : Nat → Nat

/-- The bits of a NaN that FMA16 delivers for its operands (R42: "propagates"; log 136). -/
opaque Config.nanBits : Nat → Nat → Nat → Nat

/-- What the check of a link entry makes of three or more changed bits (R151): the bits it inverts, or none where it finds the
error (log 152). -/
opaque Config.linkAlias : Nat → Option Nat

/-- The power of the field's root at which the roots of the line code's generator begin (R214; log 12). -/
opaque Config.ddrFirstRoot : Nat

/-- The bits that the checker of a running loopback test has compared by now, by lane, AON time and count of free values: they come
from the line (R248; log 160). -/
opaque Config.checkerBits : Nat → Nat → Nat → Nat

/-- The errored bits among them. -/
opaque Config.checkerErrors : Nat → Nat → Nat → Nat

/-- The places of the HDM decoder and RAS structures in the CXL component registers, of the MSI-X, CXL, Register Locator and AER
structures in configuration space: the spec names them and gives no offset (log 161). -/
opaque Config.hdmPlace : Nat

/-- See `hdmPlace`. -/
opaque Config.rasPlace : Nat

/-- See `hdmPlace`. -/
opaque Config.msixPlace : Nat

/-- See `hdmPlace`. -/
opaque Config.dvsecPlace : Nat

/-- See `hdmPlace`. -/
opaque Config.locatorPlace : Nat

/-- See `hdmPlace`. -/
opaque Config.aerPlace : Nat

/-- The bit of the CXL RAS status register that a protocol error sets (R266; log 161). -/
opaque Config.rasBit : Nat

/-- The 512 bits of a header log, of the fields of the message that caused an error (R266; log 161). -/
opaque Config.headerLog : List Nat → Nat

/-- A register of the CXL blocks that only the standard gives, by offset, value last written and a free value (log 161). -/
opaque Config.blockOther : Nat → Nat → Nat → Nat

/-- A configuration dword that only the standard gives, by function, offset, value last written and a free value (log 1). -/
opaque Config.cfgOther : Nat → Nat → Nat → Nat → Nat

/-- The code that ROOT_CFG_STATUS holds for Completion Timeout (R276): the spec names none (log 17). -/
opaque Config.timeoutStatus : Nat

/-- The Torvom return key in the ROM (R378): the spec gives no value (log 24). -/
opaque Config.returnKey : List Byte

/-- The hash of the manufacturing key in the ROM (R382, R383; log 24). -/
opaque Config.mfgKeyHash : Nat

/-- The endpoint UUID that MCTP control reports (R351; log 59). -/
opaque Config.endpointUuid : Nat

/-- SERIAL_NUMBER of the part (log 24). -/
opaque Config.serialNumber : Nat

/-- The Ethernet MAC address of the part (log 24). -/
opaque Config.macAddress : Nat

/-- The public identity key that the engine derives from the part's unique secret and a life-cycle code, X then Y (R386; log 24). -/
opaque Config.identityKey : Nat → List Byte

/-- A signature of a digest under the identity key of a life-cycle code (R386; log 24). -/
opaque Config.identitySign : Nat → List Byte → List Byte

/-- The sizes and the time exponent that CAPABILITIES reports (R386; log 30). -/
opaque Config.spdmLimits : Nat

/-- Which of the 32 groups of the NV certificate area holds a life-cycle state's chain (R386, R423; log 167). -/
opaque Config.chainGroup : Nat → Nat

/-- Which fuse word a JTAG fuse address names, by the kinds of `FuseOp`: the spec gives no map (log 25). -/
opaque Config.fuseName : Nat → Option Nat

/-- C_DYN of a panel as trimmed in its fuses, in pF (R439: 140 nF nominal; log 31). -/
opaque Config.panelDyn : Nat → Nat

/-- G_LEAK of a panel as trimmed in its fuses, in mS (R439: 0.9 S nominal; log 31). -/
opaque Config.panelLeak : Nat → Nat

/-- The fused reference of a process monitor scaled to 0.75 V and 85 °C, in kHz (R440; log 31). -/
opaque Config.processRef : Nat → Nat

/-- A process monitor's reading in kHz, at a supply in mV and a temperature in 1/16 °C, scaled by its fused coefficients
(R440; log 31). -/
opaque Config.processScaled : Nat → Nat → Nat → Int → Nat

/-- MAX_FCLK_KHZ (R1, R64). -/
def Config.maxFclkKhz : Nat := if Config.gradeS2 then 1200000 else 1000000

/-- What the security engine opens from a secured message (R351, R386; log 30): an uninterpreted function of its bytes. -/
opaque Config.openSecured : List Byte → List Byte

end Sys2Proof
end

