-- ==== Sys2Proof/Machine/ObjTable.lean ====
section
/-! DEFINITION. The object dictionary: every object of the object tables of spec/01–19, with its type, access, reset
value, plain range and size (R337–R340). -/

namespace Sys2Proof.Machine

/-- The types of R338. -/
inductive ObjType where
  | bool | u8 | u16 | u32 | u64 | i16 | i32 | str | digest | blob
  deriving DecidableEq, Repr

/-- The access codes of R339. -/
inductive ObjAccess where
  | ro | rw | wo | rws | const
  deriving DecidableEq, Repr

/-- One row of an object table: the indexes it spans, its subindexes (`subHiLast` at the last index), its type and
access, its reset value, the least and largest plain value, and the bytes of a value (the maximum for a STR). -/
structure Obj where
  idxLo : Nat
  idxHi : Nat
  subLo : Nat
  subHi : Nat
  subHiLast : Nat
  ty : ObjType
  acc : ObjAccess
  default : Nat
  least : Nat
  largest : Nat
  size : Nat
  deriving DecidableEq, Repr

/-- The type codes of R338. -/
def ObjType.code : ObjType → Nat
  | .bool => 1 | .u8 => 2 | .u16 => 3 | .u32 => 4 | .u64 => 5
  | .i16 => 6 | .i32 => 7 | .str => 8 | .digest => 9 | .blob => 10

/-- The access codes of R339. -/
def ObjAccess.code : ObjAccess → Nat
  | .ro => 1 | .rw => 2 | .wo => 3 | .rws => 4 | .const => 5

/-- Identity, device, transports, journal, security, firmware (spec/01, 12, 13, 14). -/
def identityObjects : List Obj := [
  ⟨0x1000, 0x1000, 0x1, 0x1, 0x1, .u16, .const, 0x1F2C, 0x0, 0xFFFF, 2⟩, -- VENDOR_ID
  ⟨0x1000, 0x1000, 0x2, 0x2, 0x2, .u16, .const, 0x4D05, 0x0, 0xFFFF, 2⟩, -- DEVICE_CODE
  ⟨0x1000, 0x1000, 0x3, 0x3, 0x3, .u8, .const, 0x0, 0x0, 0xFF, 1⟩, -- STEPPING
  ⟨0x1000, 0x1000, 0x4, 0x4, 0x4, .u8, .const, 0x1, 0x0, 0xFF, 1⟩, -- SPEED_GRADE
  ⟨0x1000, 0x1000, 0x5, 0x5, 0x5, .str, .const, 0x0, 0x0, 0x0, 255⟩, -- PART_NUMBER
  ⟨0x1000, 0x1000, 0x6, 0x6, 0x6, .u64, .const, 0x0, 0x0, 0xFFFFFFFFFFFFFFFF, 8⟩, -- SERIAL_NUMBER
  ⟨0x1000, 0x1000, 0x7, 0x7, 0x7, .u8, .const, 0x1, 0x0, 0xFF, 1⟩, -- SALYN_VERSION
  ⟨0x1000, 0x1000, 0x8, 0x8, 0x8, .u16, .const, 0x1008, 0x0, 0xFFFF, 2⟩, -- MAX_BODY_LENGTH
  ⟨0x1010, 0x1010, 0x1, 0x1, 0x1, .u8, .ro, 0x0, 0x1, 0x8, 1⟩, -- DEVICE_STATE
  ⟨0x1010, 0x1010, 0x2, 0x2, 0x2, .u32, .ro, 0x0, 0x0, 0xFFFFFFFF, 4⟩, -- DEVICE_FLAGS
  ⟨0x1010, 0x1010, 0x3, 0x3, 0x3, .u8, .wo, 0x0, 0x1, 0x3, 1⟩, -- STATE_COMMAND
  ⟨0x1010, 0x1010, 0x4, 0x4, 0x4, .u16, .ro, 0x0, 0x0, 0xFFFF, 2⟩, -- LAST_CAUSE
  ⟨0x1011, 0x1011, 0x1, 0x1, 0x1, .u64, .ro, 0x0, 0x0, 0xFFFFFFFFFFFFFFFF, 8⟩, -- AON_TIME
  ⟨0x1012, 0x1012, 0x1, 0x1, 0x1, .u32, .ro, 0x0, 0x0, 0xFFFFFFFF, 4⟩, -- EVENT_WRITE_COUNT
  ⟨0x1012, 0x1012, 0x2, 0x2, 0x2, .u16, .rw, 0x0, 0x0, 0x3FF, 2⟩, -- EVENT_READ_INDEX
  ⟨0x1012, 0x1012, 0x3, 0x3, 0x3, .u64, .ro, 0x0, 0x0, 0xFFFFFFFFFFFFFFFF, 8⟩, -- EVENT_RECORD
  ⟨0x1012, 0x1012, 0x4, 0x4, 0x4, .u32, .ro, 0x0, 0x0, 0xFFFFFFFF, 4⟩, -- EVENT_LOST_TOTAL
  ⟨0x1020, 0x1020, 0x1, 0x1, 0x1, .digest, .ro, 0x0, 0x0, 0x0, 32⟩, -- DEVICE_DIGEST
  ⟨0x1020, 0x1020, 0x2, 0x2, 0x2, .u64, .ro, 0x0, 0x0, 0xFFFFFFFFFFFFFFFF, 8⟩, -- CONFIG_EPOCH
  ⟨0x1020, 0x1020, 0x3, 0x3, 0x3, .blob, .ro, 0x0, 0x0, 0x0, 40⟩, -- DIGEST_RECORD
  ⟨0x1020, 0x1020, 0x4, 0x4, 0x4, .digest, .ro, 0x0, 0x0, 0x0, 32⟩, -- SETTINGS_DIGEST
  ⟨0x1020, 0x1020, 0x5, 0x5, 0x5, .digest, .ro, 0x0, 0x0, 0x0, 32⟩, -- FIRMWARE_DIGEST
  ⟨0x1021, 0x1021, 0x0, 0x1F, 0x1F, .blob, .ro, 0x0, 0x0, 0x0, 256⟩, -- SLOT_DIGESTS
  ⟨0x1100, 0x1100, 0x1, 0x1, 0x1, .u8, .ro, 0x0, 0x30, 0x33, 1⟩, -- I3C_STATIC_ADDR
  ⟨0x1100, 0x1100, 0x2, 0x2, 0x2, .u8, .ro, 0x0, 0x0, 0xFF, 1⟩, -- I3C_DYNAMIC_ADDR
  ⟨0x1100, 0x1100, 0x3, 0x3, 0x3, .u8, .ro, 0x0, 0x0, 0xFF, 1⟩, -- MCTP_EID
  ⟨0x1100, 0x1100, 0x4, 0x4, 0x4, .bool, .rw, 0x1, 0x0, 0x1, 1⟩, -- UDP_ENABLE
  ⟨0x1100, 0x1100, 0x5, 0x5, 0x5, .u32, .rw, 0x0, 0x0, 0xFFFFFFFF, 4⟩, -- IPV4_ADDRESS
  ⟨0x1100, 0x1100, 0x6, 0x6, 0x6, .u32, .rw, 0xFFFFFF00, 0x0, 0xFFFFFFFF, 4⟩, -- IPV4_NETMASK
  ⟨0x1100, 0x1100, 0x7, 0x7, 0x7, .u32, .rw, 0x0, 0x0, 0xFFFFFFFF, 4⟩, -- IPV4_GATEWAY
  ⟨0x1100, 0x1100, 0x8, 0x8, 0x8, .u64, .const, 0x0, 0x0, 0xFFFFFFFFFFFFFFFF, 8⟩, -- MAC_ADDRESS
  ⟨0x1100, 0x1100, 0x9, 0x9, 0x9, .bool, .rw, 0x1, 0x0, 0x1, 1⟩, -- VDM_ENABLE
  ⟨0x1100, 0x1100, 0xA, 0xA, 0xA, .u8, .ro, 0x0, 0x0, 0xFF, 1⟩, -- ETH_STATUS
  ⟨0x1101, 0x1101, 0x1, 0x3, 0x3, .u32, .ro, 0x0, 0x0, 0xFFFFFFFF, 4⟩, -- REQUEST_COUNT
  ⟨0x1102, 0x1102, 0x1, 0x3, 0x3, .u32, .ro, 0x0, 0x0, 0xFFFFFFFF, 4⟩, -- DISCARD_COUNT
  ⟨0x1104, 0x1104, 0x1, 0x1, 0x1, .u32, .ro, 0x0, 0x0, 0xFFFFFFFF, 4⟩, -- JOURNAL_WRITE_COUNT
  ⟨0x1104, 0x1104, 0x2, 0x2, 0x2, .u16, .rw, 0x0, 0x0, 0xFFF, 2⟩, -- JOURNAL_READ_INDEX
  ⟨0x1104, 0x1104, 0x3, 0x3, 0x3, .blob, .ro, 0x0, 0x0, 0x0, 64⟩, -- JOURNAL_ENTRY
  ⟨0x1104, 0x1104, 0x4, 0x4, 0x4, .u32, .ro, 0x0, 0x0, 0xFFFFFFFF, 4⟩, -- JOURNAL_LOST_TOTAL
  ⟨0x1104, 0x1104, 0x5, 0x5, 0x5, .u32, .ro, 0x0, 0x0, 0xFFFFFFFF, 4⟩, -- JOURNAL_NEXT_SEQ
  ⟨0x1105, 0x1105, 0x1, 0x1, 0x1, .u16, .ro, 0x0, 0x0, 0xFF, 2⟩, -- NV_JOURNAL_NEWEST
  ⟨0x1105, 0x1105, 0x2, 0x2, 0x2, .u16, .rw, 0x0, 0x0, 0xFF, 2⟩, -- NV_JOURNAL_READ_INDEX
  ⟨0x1105, 0x1105, 0x3, 0x3, 0x3, .blob, .ro, 0x0, 0x0, 0x0, 64⟩, -- NV_JOURNAL_ENTRY
  ⟨0x1110, 0x1110, 0x0, 0x3F, 0x3F, .u32, .rw, 0x0, 0x0, 0xFFFFFFFF, 4⟩, -- NOTICE_RULE
  ⟨0x1111, 0x1111, 0x1, 0x4, 0x4, .blob, .rw, 0x0, 0x0, 0x0, 16⟩, -- NOTIFY_TARGET
  ⟨0x1112, 0x1112, 0x1, 0x1, 0x1, .u32, .ro, 0x0, 0x0, 0xFFFFFFFF, 4⟩, -- ALERT_SEQ
  ⟨0x1112, 0x1112, 0x2, 0x2, 0x2, .u32, .rw, 0x0, 0x0, 0xFFFFFFFF, 4⟩, -- ALERT_ACK
  ⟨0x1112, 0x1112, 0x3, 0x3, 0x3, .u32, .ro, 0x0, 0x0, 0xFFFFFFFF, 4⟩, -- NOTIFY_LOST_COUNT
  ⟨0x1200, 0x1200, 0x1, 0x1, 0x1, .u8, .ro, 0x0, 0x0, 0x5, 1⟩, -- LIFECYCLE_STATE
  ⟨0x1200, 0x1200, 0x2, 0x2, 0x2, .u8, .wo, 0x0, 0x2, 0x5, 1⟩, -- LIFECYCLE_ADVANCE
  ⟨0x1200, 0x1200, 0x3, 0x3, 0x3, .u32, .ro, 0x0, 0x0, 0xFFFFFFFF, 4⟩, -- FUSE_STATUS
  ⟨0x1200, 0x1200, 0x4, 0x4, 0x4, .u8, .ro, 0x0, 0x0, 0x40, 1⟩, -- MIN_SVN
  ⟨0x1200, 0x1200, 0x5, 0x5, 0x5, .u8, .wo, 0x0, 0x1, 0x40, 1⟩, -- FW_SVN_ADVANCE
  ⟨0x1200, 0x1200, 0x10, 0x17, 0x17, .digest, .rws, 0x0, 0x0, 0x0, 32⟩, -- FW_KEY_HASH
  ⟨0x1200, 0x1200, 0x18, 0x18, 0x18, .u8, .rws, 0x0, 0x0, 0xFF, 1⟩, -- KEY_REVOKE
  ⟨0x1200, 0x1200, 0x20, 0x23, 0x23, .blob, .rws, 0x0, 0x0, 0x0, 64⟩, -- BS_KEY
  ⟨0x1200, 0x1200, 0x30, 0x30, 0x30, .u64, .rws, 0x0, 0x0, 0xFFFFFFFFFFFFFFFF, 8⟩, -- SEC_PIN_MASK
  ⟨0x1200, 0x1200, 0x32, 0x32, 0x32, .u64, .rw, 0x0, 0x0, 0xFFFFFFFFFFFFFFFF, 8⟩, -- TAMPER_STATUS
  ⟨0x1200, 0x1200, 0x40, 0x40, 0x40, .blob, .ro, 0x0, 0x0, 0x0, 32⟩, -- RETURN_CHALLENGE
  ⟨0x1200, 0x1200, 0x41, 0x41, 0x41, .blob, .wo, 0x0, 0x0, 0x0, 64⟩, -- RETURN_TOKEN
  ⟨0x1200, 0x1200, 0x42, 0x42, 0x42, .blob, .ro, 0x0, 0x0, 0x0, 128⟩, -- IDENTITY_PUBLIC
  ⟨0x1300, 0x1300, 0x1, 0x1, 0x1, .u32, .const, 0x0, 0x0, 0xFFFFFFFF, 4⟩, -- ROM_VERSION
  ⟨0x1300, 0x1300, 0x2, 0x2, 0x2, .u32, .ro, 0x0, 0x0, 0xFFFFFFFF, 4⟩, -- FW_STATUS
  ⟨0x1300, 0x1300, 0x3, 0x3, 0x3, .u8, .wo, 0x0, 0x1, 0x2, 1⟩, -- FW_COMMAND
  ⟨0x1300, 0x1300, 0x4, 0x4, 0x4, .u32, .rw, 0x0, 0x0, 0x6FFFF, 4⟩, -- FW_WINDOW_OFFSET
  ⟨0x1300, 0x1300, 0x5, 0x5, 0x5, .blob, .wo, 0x0, 0x0, 0x0, 4096⟩, -- FW_WINDOW_DATA
  ⟨0x1300, 0x1300, 0x6, 0x6, 0x6, .u32, .rw, 0x0, 0x1, 0x70000, 4⟩, -- FW_IMAGE_LENGTH
  ⟨0x1300, 0x1300, 0x7, 0x7, 0x7, .u32, .ro, 0x0, 0x0, 0xFFFFFFFF, 4⟩, -- FW_REJECT_COUNT
  ⟨0x1300, 0x1300, 0x8, 0x8, 0x8, .u32, .rw, 0x3E8, 0xA, 0xEA60, 4⟩] -- WATCHDOG_MS

/-- Supplies, clocks, thermal, bond wear (spec/15, 16, 17). -/
def healthObjects : List Obj := [
  ⟨0x2000, 0x2000, 0x0, 0x17, 0x17, .u32, .ro, 0x0, 0x0, 0xFFFFFFFF, 4⟩, -- RAIL_MONITOR
  ⟨0x2001, 0x2001, 0x1, 0x1, 0x1, .u32, .ro, 0x0, 0x0, 0xFFFFFFFF, 4⟩, -- SUPPLY_STATUS
  ⟨0x2002, 0x2002, 0x1, 0x1, 0x1, .u16, .rw, 0x2EE, 0x2C6, 0x316, 2⟩, -- VCORE_SETPOINT_MV
  ⟨0x2003, 0x2003, 0x0, 0x1F, 0x1F, .u32, .ro, 0x0, 0x0, 0xFFFFFFFF, 4⟩, -- PANEL_POWER_MW
  ⟨0x2004, 0x2004, 0x1, 0x1, 0x1, .u32, .ro, 0x0, 0x0, 0xFFFFFFFF, 4⟩, -- DEVICE_POWER_MW
  ⟨0x2004, 0x2004, 0x2, 0x2, 0x2, .u16, .rw, 0x258, 0x64, 0x2BC, 2⟩, -- POWER_NOTICE_W
  ⟨0x2004, 0x2004, 0x3, 0x3, 0x3, .u16, .ro, 0x400, 0x200, 0x800, 2⟩, -- CALIBRATION_RATIO
  ⟨0x2005, 0x2005, 0x0, 0x3F, 0x3F, .u32, .ro, 0x0, 0x0, 0xFFFFFFFF, 4⟩, -- PROCESS_MONITOR_KHZ
  ⟨0x2010, 0x2010, 0x1, 0x10, 0x10, .u32, .rw, 0x0, 0x0, 0xFFFFFFFF, 4⟩, -- REGULATOR_MAP
  ⟨0x2020, 0x2020, 0x1, 0x1, 0x1, .u16, .wo, 0x0, 0x0, 0xFFFF, 2⟩, -- RESET_COMMAND
  ⟨0x2020, 0x2020, 0x2, 0x2, 0x2, .u8, .ro, 0x0, 0x1, 0x6, 1⟩, -- LAST_RESET
  ⟨0x2100, 0x2100, 0x0, 0x7, 0x7, .u32, .rws, 0xF4240, 0x61A8, 0x124F80, 4⟩, -- FCLK_FREQ_KHZ
  ⟨0x2101, 0x2101, 0x1, 0x19, 0x19, .u32, .ro, 0x0, 0x0, 0xFFFFFFFF, 4⟩, -- CLOCK_STATUS
  ⟨0x2102, 0x2102, 0x1, 0x1, 0x1, .u32, .ro, 0x0, 0x0, 0xFFFFFFFF, 4⟩, -- PLL_RECAL_COUNT
  ⟨0x2102, 0x2102, 0x2, 0x2, 0x2, .u32, .ro, 0x0, 0x0, 0xFFFFFFFF, 4⟩, -- REF_LOST_COUNT
  ⟨0x2200, 0x2200, 0x1, 0x1, 0x1, .i16, .rw, 0x7D, 0x0, 0xFFFF, 2⟩, -- WARM_RISE_C
  ⟨0x2200, 0x2200, 0x2, 0x2, 0x2, .i16, .rw, 0x78, 0x0, 0xFFFF, 2⟩, -- WARM_RELEASE_C
  ⟨0x2200, 0x2200, 0x3, 0x3, 0x3, .i16, .rw, 0x8C, 0x0, 0xFFFF, 2⟩, -- PRESS_RISE_C
  ⟨0x2200, 0x2200, 0x4, 0x4, 0x4, .i16, .rw, 0x84, 0x0, 0xFFFF, 2⟩, -- PRESS_RELEASE_C
  ⟨0x2200, 0x2200, 0x5, 0x5, 0x5, .i16, .rws, 0x9B, 0x0, 0xFFFF, 2⟩, -- SCORCH_RISE_C
  ⟨0x2200, 0x2200, 0x6, 0x6, 0x6, .i16, .rws, 0x7D, 0x0, 0xFFFF, 2⟩, -- SCORCH_RELEASE_C
  ⟨0x2200, 0x2200, 0x7, 0x7, 0x7, .u32, .rws, 0x7D0, 0x3E8, 0x2710, 4⟩, -- STOP_WINDOW_US
  ⟨0x2200, 0x2200, 0x8, 0x8, 0x8, .u8, .rw, 0x2, 0x0, 0x2, 1⟩, -- COOLANT_OK_ACTION
  ⟨0x2200, 0x2200, 0x9, 0x9, 0x9, .i16, .rw, 0x2D, 0x0, 0xFFFF, 2⟩, -- INLET_LIMIT_C
  ⟨0x2200, 0x2200, 0xA, 0xA, 0xA, .u32, .ro, 0x0, 0x0, 0xFFFFFFFF, 4⟩, -- THERMAL_STATUS
  ⟨0x2200, 0x2200, 0xB, 0xB, 0xB, .i16, .ro, 0x0, 0x0, 0xFFFF, 2⟩, -- HOTTEST_VALUE
  ⟨0x2201, 0x2201, 0x0, 0xBF, 0xBF, .i16, .ro, 0x0, 0x0, 0xFFFF, 2⟩, -- SENSOR_READING
  ⟨0x2202, 0x2202, 0x0, 0x3F, 0x3F, .i16, .ro, 0x0, 0x0, 0xFFFF, 2⟩, -- INFERRED_T2
  ⟨0x2203, 0x2203, 0x0, 0x1, 0x1, .u32, .rw, 0x0, 0x0, 0xFFFFFFFF, 4⟩, -- DISAGREE_MAP
  ⟨0x2204, 0x2204, 0x1, 0x3, 0x3, .i16, .ro, 0x0, 0x0, 0xFFFF, 2⟩, -- COOLANT_TEMP
  ⟨0x2205, 0x2205, 0x1, 0x1, 0x1, .u16, .rw, 0x200, 0x0, 0x400, 2⟩, -- MODEL_W1
  ⟨0x2205, 0x2205, 0x2, 0x2, 0x2, .u16, .rw, 0x1C2, 0x0, 0x1388, 2⟩, -- MODEL_RTH
  ⟨0x2205, 0x2205, 0x3, 0x3, 0x3, .u16, .rw, 0x100, 0x0, 0x1000, 2⟩, -- MODEL_G
  ⟨0x2206, 0x2206, 0x0, 0x5, 0x5, .u32, .ro, 0x0, 0x0, 0xFFFFFFFF, 4⟩, -- SENSOR_FAILED_MAP
  ⟨0x2210, 0x2210, 0x1, 0x1, 0x1, .u8, .rw, 0x81, 0x0, 0xFF, 1⟩, -- PANEL_CLOCK_ACTION
  ⟨0x2210, 0x2210, 0x2, 0x2, 0x2, .bool, .rw, 0x1, 0x0, 0x1, 1⟩, -- ACTION_PRESS_BUDGET
  ⟨0x2210, 0x2210, 0x3, 0x3, 0x3, .bool, .rw, 0x1, 0x0, 0x1, 1⟩, -- ACTION_NARROW_LINKS
  ⟨0x2210, 0x2210, 0x4, 0x4, 0x4, .bool, .rw, 0x1, 0x0, 0x1, 1⟩, -- ACTION_DDR_CAP
  ⟨0x2300, 0x2300, 0x1, 0x4, 0x4, .u64, .ro, 0x0, 0x0, 0xFFFFFFFFFFFFFFFF, 8⟩, -- FRAY_RECORD
  ⟨0x2301, 0x2301, 0x1, 0x4, 0x4, .u32, .ro, 0x0, 0x0, 0x3FFDB7, 4⟩, -- WEAR_INDEX
  ⟨0x2302, 0x2302, 0x1, 0x1, 0x1, .u32, .const, 0xF4240, 0x0, 0xFFFFFFFF, 4⟩, -- RATED_LIFE
  ⟨0x2303, 0x2303, 0x1, 0x4, 0x4, .u32, .ro, 0x0, 0x0, 0x19000, 4⟩, -- MENDED_GROUPS
  ⟨0x2304, 0x2304, 0x1, 0x4, 0x4, .u32, .ro, 0x0, 0x0, 0x19000, 4⟩, -- SPARE_FAILED_GROUPS
  ⟨0x2305, 0x2305, 0x1, 0x4, 0x4, .u16, .ro, 0x0, 0x0, 0xFFFF, 2⟩, -- MEND_PREVIOUS
  ⟨0x2306, 0x2306, 0x1, 0x1, 0x1, .u32, .ro, 0x0, 0x0, 0xFFFFFFFF, 4⟩, -- NV_STATUS
  ⟨0x2306, 0x2306, 0x2, 0x2, 0x2, .u64, .ro, 0x0, 0x0, 0xFFFFFFFFFFFFFFFF, 8⟩, -- NV_COMMIT_COUNT
  ⟨0x2306, 0x2306, 0x3, 0x3, 0x3, .u32, .ro, 0x0, 0x0, 0xFFFFFFFF, 4⟩] -- NV_CHECK_ERROR_COUNT

/-- Loader, shuttle, fabric (spec/02, 03, 12). -/
def controlObjects : List Obj := [
  ⟨0x3000, 0x3000, 0x1, 0x1, 0x1, .blob, .wo, 0x0, 0x0, 0x0, 16⟩, -- LOADER_COMMAND
  ⟨0x3000, 0x3000, 0x2, 0x2, 0x2, .u64, .ro, 0x0, 0x0, 0xFFFFFFFFFFFFFFFF, 8⟩, -- LOADER_STATUS
  ⟨0x3000, 0x3000, 0x3, 0x3, 0x3, .u32, .ro, 0x0, 0x0, 0xFFFFFFFF, 4⟩, -- LOAD_PANEL_SET
  ⟨0x3000, 0x3000, 0x4, 0x4, 0x4, .u16, .rw, 0x64, 0x1, 0x2710, 2⟩, -- LOAD_TIMEOUT_MS
  ⟨0x3000, 0x3000, 0x5, 0x5, 0x5, .u64, .ro, 0x0, 0x0, 0xFFFFFFFFFFFFFFFF, 8⟩, -- LAST_FAIL_RECORD
  ⟨0x3000, 0x3000, 0x6, 0x6, 0x6, .u64, .ro, 0x0, 0x0, 0xFFFFFFFFFFFFFFFF, 8⟩, -- STREAM_BYTES
  ⟨0x3000, 0x3000, 0x7, 0x7, 0x7, .u32, .ro, 0x0, 0x0, 0xFFFFFFFF, 4⟩, -- LOAD_COUNT
  ⟨0x3000, 0x3000, 0x8, 0x8, 0x8, .u32, .ro, 0x0, 0x0, 0xFFFFFFFF, 4⟩, -- LOAD_FAIL_COUNT
  ⟨0x3000, 0x3000, 0x9, 0x9, 0x9, .u32, .ro, 0x0, 0x0, 0xFFFFFFFF, 4⟩, -- FALLBACK_COUNT
  ⟨0x3000, 0x3000, 0xA, 0xA, 0xA, .u32, .ro, 0x1000, 0x0, 0xFFFFFFFF, 4⟩, -- FLASH_PRIMARY_OFFSET
  ⟨0x3000, 0x3000, 0xB, 0xB, 0xB, .u32, .ro, 0xF000000, 0x0, 0xFFFFFFFF, 4⟩, -- FLASH_SELVEDGE_OFFSET
  ⟨0x3000, 0x3000, 0xC, 0xC, 0xC, .u8, .ro, 0x0, 0x0, 0xFF, 1⟩, -- BOOT_STRAPS
  ⟨0x3000, 0x3000, 0xD, 0xD, 0xD, .u32, .ro, 0x0, 0x0, 0xFFFFFFFF, 4⟩, -- CHAIN_ERROR_COUNT
  ⟨0x3100, 0x3100, 0x0, 0x1F, 0x1F, .u16, .wo, 0x0, 0x0, 0xFFFF, 2⟩, -- SHUTTLE_REQUEST
  ⟨0x3101, 0x3101, 0x0, 0x1F, 0x1F, .u32, .ro, 0x0, 0x0, 0xFFFFFFFF, 4⟩, -- PANEL_STATUS
  ⟨0x3102, 0x3102, 0x0, 0x1F, 0x1F, .u32, .ro, 0x0, 0x0, 0xFFFFFFFF, 4⟩, -- SLOT_STATES
  ⟨0x3103, 0x3103, 0x0, 0x1F, 0x1F, .bool, .rw, 0x1, 0x0, 0x1, 1⟩, -- RELEASE_ON_ENABLE
  ⟨0x3104, 0x3104, 0x0, 0x1F, 0x1F, .u8, .rws, 0x7, 0x0, 0x7, 1⟩, -- SHUTTLE_REQ_SOURCE
  ⟨0x3105, 0x3105, 0x0, 0x1F, 0x1F, .u16, .rw, 0x1, 0x0, 0xFFFF, 2⟩, -- TSLICE_CONTROL
  ⟨0x3106, 0x3106, 0x0, 0x1F, 0x1F, .u64, .ro, 0x0, 0x0, 0xFFFFFFFFFFFFFFFF, 8⟩, -- SWITCH_COUNT
  ⟨0x3107, 0x3107, 0x0, 0x1F, 0x1F, .u32, .ro, 0x0, 0x0, 0xFFFFFFFF, 4⟩, -- REFUSAL_COUNT
  ⟨0x3108, 0x3108, 0x0, 0x1F, 0x1F, .u32, .ro, 0x0, 0x0, 0xFFFFFFFF, 4⟩, -- INFLIGHT_DISCARDED
  ⟨0x3109, 0x3109, 0x0, 0x1F, 0x1F, .u32, .ro, 0x0, 0x0, 0xFFFFFFFF, 4⟩, -- SLICE_LATE_COUNT
  ⟨0x310A, 0x310A, 0x0, 0x1F, 0x1F, .u32, .ro, 0x0, 0x0, 0xFFFFFFFF, 4⟩, -- READBACK_ERROR_COUNT
  ⟨0x310B, 0x310B, 0x1, 0x1, 0x1, .bool, .rw, 0x1, 0x0, 0x1, 1⟩, -- READBACK_ENABLE
  ⟨0x3110, 0x311F, 0x0, 0x1F, 0x1F, .u32, .rw, 0x1, 0x0, 0xFFFFFFFF, 4⟩, -- TSLICE_ENTRY_0
  ⟨0x3200, 0x3200, 0x0, 0x1F, 0x1F, .u8, .rws, 0x0, 0x0, 0x7, 1⟩, -- PANEL_CLOCK_SEL
  ⟨0x3201, 0x3201, 0x0, 0x1F, 0x1F, .u32, .ro, 0x200, 0x0, 0xFFFFFFFF, 4⟩, -- PANEL_FABRIC_STATUS
  ⟨0x3202, 0x3202, 0x0, 0xF, 0xF, .u16, .ro, 0x0, 0x0, 0xA000, 2⟩, -- STITCH_CONTENTION_COUNT
  ⟨0x3203, 0x3203, 0x0, 0x1F, 0x1F, .bool, .rw, 0x0, 0x0, 0x1, 1⟩, -- USER_EVENT_ENABLE
  ⟨0x3204, 0x3204, 0x0, 0x1F, 0x1F, .u32, .ro, 0x0, 0x0, 0xFFFFFFFF, 4⟩, -- USER_EVENT_DROPPED
  ⟨0x3205, 0x3205, 0x0, 0x1F, 0x1F, .u8, .wo, 0x0, 0x1, 0x1, 1⟩, -- TILE_MEM_CLEAR
  ⟨0x3206, 0x3206, 0x1, 0x1, 0x1, .u32, .const, 0x640000, 0x0, 0xFFFFFFFF, 4⟩, -- LC_PER_CONTEXT
  ⟨0x3206, 0x3206, 0x2, 0x2, 0x2, .u32, .const, 0x3200000, 0x0, 0xFFFFFFFF, 4⟩, -- RESIDENT_LC_CONTEXTS
  ⟨0x3206, 0x3206, 0x3, 0x3, 0x3, .u32, .const, 0x124F80, 0x0, 0xFFFFFFFF, 4⟩] -- MAX_FCLK_KHZ

/-- Memory tier and integrity (spec/04, 05). -/
def memoryObjects : List Obj := [
  ⟨0x4000, 0x4000, 0x1, 0x1, 0x1, .u16, .rw, 0x100, 0x1, 0x100, 2⟩, -- PRESS_BUDGET
  ⟨0x4000, 0x4000, 0x2, 0x2, 0x2, .u16, .ro, 0x100, 0x1, 0x100, 2⟩, -- PRESS_BUDGET_EFFECTIVE
  ⟨0x4000, 0x4000, 0x3, 0x3, 0x3, .u16, .const, 0x500, 0x0, 0xFFFF, 2⟩, -- BANK_COUNT
  ⟨0x4000, 0x4000, 0x4, 0x4, 0x4, .u64, .ro, 0x0, 0x0, 0xFFFFFFFFFFFFFFFF, 8⟩, -- UNINIT_READ_COUNT
  ⟨0x4000, 0x4000, 0x5, 0x5, 0x5, .u32, .ro, 0x0, 0x0, 0xFFFFFFFF, 4⟩, -- OWNERSHIP_FAULT_COUNT
  ⟨0x4000, 0x4000, 0x6, 0x6, 0x6, .u32, .ro, 0x0, 0x0, 0xFFFFFFFF, 4⟩, -- BANK_RANGE_FAULT_COUNT
  ⟨0x4000, 0x4000, 0x7, 0x7, 0x7, .u64, .ro, 0x0, 0x0, 0xFFFFFFFFFFFFFFFF, 8⟩, -- PRESS_TRANSFER_COUNT
  ⟨0x4000, 0x4000, 0x8, 0x8, 0x8, .u64, .ro, 0x0, 0x0, 0xFFFFFFFFFFFFFFFF, 8⟩, -- PRESS_BUDGET_STALL_COUNT
  ⟨0x4000, 0x4000, 0x9, 0x9, 0x9, .u32, .ro, 0x0, 0x0, 0xFFFFFFFF, 4⟩, -- PRESS_REG_COLLISION_COUNT
  ⟨0x4001, 0x4001, 0x0, 0x27, 0x27, .u32, .rw, 0x0, 0x0, 0xFFFFFFFF, 4⟩, -- UNINIT_STICKY
  ⟨0x4002, 0x4002, 0x0, 0x27, 0x27, .u32, .ro, 0xFFFFFFFF, 0x0, 0xFFFFFFFF, 4⟩, -- WIPE_PENDING_MAP
  ⟨0x4100, 0x4104, 0x0, 0xFF, 0xFF, .u32, .rws, 0x200, 0x0, 0xFFFFFFFF, 4⟩, -- BANK_OWNER
  ⟨0x4300, 0x4300, 0x1, 0x1, 0x1, .bool, .rw, 0x1, 0x0, 0x1, 1⟩, -- WRITEBACK_ENABLE
  ⟨0x4300, 0x4300, 0x2, 0x2, 0x2, .u32, .rw, 0x3E8, 0x1, 0xEA60, 4⟩, -- TRACKER_WINDOW_MS
  ⟨0x4300, 0x4300, 0x3, 0x3, 0x3, .u8, .rw, 0x4, 0x2, 0xF, 1⟩, -- TRACKER_THRESHOLD
  ⟨0x4300, 0x4300, 0x4, 0x4, 0x4, .bool, .rw, 0x1, 0x0, 0x1, 1⟩, -- RINSE_ENABLE
  ⟨0x4300, 0x4300, 0x5, 0x5, 0x5, .u32, .rw, 0x15180, 0x1000, 0x93A80, 4⟩, -- RINSE_PERIOD_S
  ⟨0x4300, 0x4300, 0x6, 0x6, 0x6, .u16, .rw, 0x10, 0x1, 0xFFF, 2⟩, -- RINSE_LAG_THRESHOLD
  ⟨0x4300, 0x4300, 0x7, 0x7, 0x7, .u64, .ro, 0x0, 0x0, 0xFFFFFFFFFFFFFFFF, 8⟩, -- CE_COUNT
  ⟨0x4300, 0x4300, 0x8, 0x8, 0x8, .u64, .ro, 0x0, 0x0, 0xFFFFFFFFFFFFFFFF, 8⟩, -- UE_DATA_COUNT
  ⟨0x4300, 0x4300, 0x9, 0x9, 0x9, .u64, .ro, 0x0, 0x0, 0xFFFFFFFFFFFFFFFF, 8⟩, -- ADDRESS_ERROR_COUNT
  ⟨0x4300, 0x4300, 0xA, 0xA, 0xA, .u64, .ro, 0x0, 0x0, 0xFFFFFFFFFFFFFFFF, 8⟩, -- WRITEBACK_DONE_COUNT
  ⟨0x4300, 0x4300, 0xB, 0xB, 0xB, .u32, .ro, 0x0, 0x0, 0xFFFFFFFF, 4⟩, -- WRITEBACK_DROPPED_COUNT
  ⟨0x4300, 0x4300, 0xC, 0xC, 0xC, .u32, .ro, 0x0, 0x0, 0xFFFFFFFF, 4⟩, -- HARD_FAULT_COUNT
  ⟨0x4300, 0x4300, 0xD, 0xD, 0xD, .u32, .ro, 0x0, 0x0, 0xFFFFFFFF, 4⟩, -- DARN_EXHAUSTED_COUNT
  ⟨0x4300, 0x4300, 0xE, 0xE, 0xE, .u32, .ro, 0x0, 0x0, 0xFFFFFFFF, 4⟩, -- RINSE_PASS_COUNT
  ⟨0x4300, 0x4300, 0xF, 0xF, 0xF, .u16, .ro, 0x0, 0x0, 0xFFF, 2⟩, -- RINSE_LAG_MAX
  ⟨0x4300, 0x4300, 0x10, 0x10, 0x10, .u64, .ro, 0x0, 0x0, 0xFFFFFFFFFFFFFFFF, 8⟩, -- RINSE_ROWS_CHECKED
  ⟨0x4301, 0x4301, 0x0, 0x27, 0x27, .u32, .ro, 0x0, 0x0, 0xFFFFFFFF, 4⟩, -- GROUP_CE_COUNT
  ⟨0x4302, 0x4302, 0x0, 0x27, 0x27, .u64, .ro, 0x0, 0x0, 0xFFFFFFFFFFFFFFFF, 8⟩, -- LAST_ERROR
  ⟨0x4303, 0x4303, 0x0, 0x27, 0x27, .u32, .ro, 0x0, 0x0, 0xFFFFFFFF, 4⟩, -- RINSE_LAG_MAP
  ⟨0x4310, 0x4310, 0x1, 0x1, 0x1, .u16, .rws, 0x0, 0x0, 0x4FF, 2⟩, -- SPLIT_BANK
  ⟨0x4310, 0x4310, 0x2, 0x2, 0x2, .bool, .rws, 0x0, 0x0, 0x1, 1⟩, -- SPLIT_ENABLE
  ⟨0x4310, 0x4310, 0x3, 0x3, 0x3, .u16, .rw, 0x0, 0x0, 0x7FFF, 2⟩, -- SPLIT_WORD
  ⟨0x4310, 0x4310, 0x4, 0x4, 0x4, .blob, .wo, 0x0, 0x0, 0x0, 32⟩, -- SPLIT_DATA
  ⟨0x4310, 0x4310, 0x5, 0x5, 0x5, .u32, .wo, 0x0, 0x0, 0xFFFFFFFF, 4⟩, -- SPLIT_CHECK
  ⟨0x4310, 0x4310, 0x6, 0x6, 0x6, .blob, .ro, 0x0, 0x0, 0x0, 40⟩, -- SPLIT_READ
  ⟨0x4310, 0x4310, 0x7, 0x7, 0x7, .u32, .rw, 0x0, 0x0, 0xFFFFFFFF, 4⟩, -- SPLIT_FOLD_OVERRIDE
  ⟨0x4320, 0x4320, 0x0, 0x5, 0x5, .u32, .ro, 0x0, 0x0, 0xFFFFFFFF, 4⟩, -- BASE_SRAM_CE_COUNT
  ⟨0x4321, 0x4321, 0x0, 0x5, 0x5, .u32, .ro, 0x0, 0x0, 0xFFFFFFFF, 4⟩, -- BASE_SRAM_UE_COUNT
  ⟨0x4400, 0x4400, 0x1, 0x1, 0x1, .u16, .rw, 0x0, 0x0, 0x4FF, 2⟩, -- DARN_BANK_SELECT
  ⟨0x4400, 0x4400, 0x2, 0x2, 0x2, .u32, .wo, 0x0, 0x0, 0xFFFFFFFF, 4⟩, -- DARN_INSTALL
  ⟨0x4400, 0x4400, 0x3, 0x3, 0x3, .u16, .ro, 0x2800, 0x0, 0x2800, 2⟩, -- DARN_SPARES_FREE_TOTAL
  ⟨0x4401, 0x4401, 0x0, 0x7, 0x7, .u32, .ro, 0x0, 0x0, 0xFFFFFFFF, 4⟩, -- DARN_ENTRY
  ⟨0x4402, 0x4402, 0x0, 0x27, 0x27, .u32, .ro, 0x0, 0x0, 0xFFFFFFFF, 4⟩] -- DARN_FULL_MAP

/-- Lanes, ports, Lace, directory, DDR5 (spec/07–11). -/
def linkObjects : List Obj := [
  ⟨0x5000, 0x5000, 0x0, 0x5F, 0x5F, .u32, .ro, 0xA000000, 0x0, 0xFFFFFFFF, 4⟩, -- LANE_STATUS
  ⟨0x5001, 0x5001, 0x0, 0x5F, 0x5F, .u16, .rws, 0x400, 0x0, 0xFFFF, 2⟩, -- LANE_CONTROL
  ⟨0x5002, 0x5002, 0x0, 0x5F, 0x5F, .u32, .ro, 0x40000000, 0x0, 0xFFFFFFFF, 4⟩, -- TX_COEFF
  ⟨0x5003, 0x5003, 0x0, 0x5F, 0x5F, .u8, .wo, 0x0, 0x1, 0x1, 1⟩, -- EYE_COMMAND
  ⟨0x5004, 0x5004, 0x0, 0x5F, 0x5F, .u32, .ro, 0x0, 0x0, 0xFFFFFFFF, 4⟩, -- EYE_RESULT
  ⟨0x5005, 0x5005, 0x0, 0x5F, 0x5F, .u16, .ro, 0x0, 0x0, 0xFA00, 2⟩, -- LANE_SKEW_PS
  ⟨0x5006, 0x5006, 0x0, 0x5F, 0x5F, .u64, .ro, 0x0, 0x0, 0xFFFFFFFFFFFFFFFF, 8⟩, -- SYMBOL_ERROR_COUNT
  ⟨0x5007, 0x5007, 0x0, 0x5F, 0x5F, .u32, .ro, 0x0, 0x0, 0xFFFFFFFF, 4⟩, -- MARKER_ERROR_COUNT
  ⟨0x5008, 0x5008, 0x0, 0x5F, 0x5F, .u32, .ro, 0x0, 0x0, 0xFFFFFFFF, 4⟩, -- TRAIN_FAIL_COUNT
  ⟨0x5009, 0x5009, 0x0, 0x5F, 0x5F, .u32, .ro, 0x0, 0x0, 0xFFFFFFFF, 4⟩, -- EQ_PROTOCOL_ERROR_COUNT
  ⟨0x500A, 0x500A, 0x0, 0x5F, 0x5F, .u32, .rws, 0x0, 0x0, 0xFFFFFFFF, 4⟩, -- LOOPBACK_CONTROL
  ⟨0x500B, 0x500B, 0x0, 0x5F, 0x5F, .u32, .ro, 0x0, 0x0, 0xFFFFFFFF, 4⟩, -- LOOPBACK_STATUS
  ⟨0x500C, 0x500C, 0x0, 0x5F, 0x5F, .u64, .ro, 0x0, 0x0, 0xFFFFFFFFFFFFFFFF, 8⟩, -- LOOPBACK_BITS
  ⟨0x500D, 0x500D, 0x0, 0x5F, 0x5F, .u64, .ro, 0x0, 0x0, 0xFFFFFFFFFFFFFFFF, 8⟩, -- LOOPBACK_ERRORS
  ⟨0x500F, 0x500F, 0x1, 0x1, 0x1, .u8, .const, 0x60, 0x0, 0xFF, 1⟩, -- LANE_COUNT
  ⟨0x500F, 0x500F, 0x2, 0x2, 0x2, .u16, .rw, 0xFA, 0x32, 0x7D0, 2⟩, -- LACE_TRAIN_TIMEOUT_MS
  ⟨0x5100, 0x5100, 0x0, 0x5, 0x5, .u32, .rws, 0x1, 0x0, 0xFFFFFFFF, 4⟩, -- PORT_CONFIG
  ⟨0x5101, 0x5101, 0x0, 0x5, 0x5, .u32, .ro, 0x0, 0x0, 0xFFFFFFFF, 4⟩, -- PORT_STATUS
  ⟨0x5102, 0x5102, 0x0, 0x5, 0x5, .u8, .wo, 0x0, 0x1, 0x1, 1⟩, -- PORT_RESET
  ⟨0x5103, 0x5103, 0x0, 0x5, 0x5, .u8, .rws, 0xFF, 0x0, 0xFF, 1⟩, -- SHIM_PANEL
  ⟨0x5104, 0x5104, 0x0, 0x5, 0x5, .u8, .rws, 0x14, 0x14, 0x24, 1⟩, -- FABRIC_BAR_LOG2
  ⟨0x5105, 0x5105, 0x0, 0x5, 0x5, .u8, .rw, 0x2, 0x2, 0x4, 1⟩, -- NARROW_DIVISOR
  ⟨0x5106, 0x5106, 0x1, 0x1, 0x1, .u32, .rw, 0x3E8, 0x1, 0xF4240, 4⟩, -- SHIM_HOLD_US
  ⟨0x5110, 0x5110, 0x0, 0x5F, 0x5F, .u16, .rws, 0x0, 0x0, 0xFFF, 2⟩, -- LINK_PARTNER_ID
  ⟨0x5111, 0x5111, 0x0, 0x5F, 0x5F, .u16, .rws, 0x0, 0x0, 0xFFF, 2⟩, -- LINK_OWN_ID
  ⟨0x5112, 0x5112, 0x0, 0x5F, 0x5F, .u32, .ro, 0x0, 0x0, 0xFFFFFFFF, 4⟩, -- LINK_STATUS
  ⟨0x5113, 0x5113, 0x0, 0x5F, 0x5F, .u32, .ro, 0x0, 0x0, 0xFFFFFFFF, 4⟩, -- PROTOCOL_ERROR_COUNT
  ⟨0x5114, 0x5114, 0x0, 0x5F, 0x5F, .u32, .ro, 0x0, 0x0, 0xFFFFFFFF, 4⟩, -- MISROUTED_COUNT
  ⟨0x5115, 0x5115, 0x0, 0x5F, 0x5F, .u32, .ro, 0x0, 0x0, 0xFFFFFFFF, 4⟩, -- IDE_FAIL_COUNT
  ⟨0x5116, 0x5116, 0x0, 0x5, 0x5, .u32, .ro, 0x0, 0x0, 0xFFFFFFFF, 4⟩, -- BAR_REFUSED_COUNT
  ⟨0x5117, 0x5117, 0x0, 0x5, 0x5, .u32, .ro, 0x0, 0x0, 0xFFFFFFFF, 4⟩, -- MEM_NOT_READY_COUNT
  ⟨0x5118, 0x5118, 0x0, 0x5, 0x5, .u32, .ro, 0x0, 0x0, 0xFFFFFFFF, 4⟩, -- SHIM_DROP_COUNT
  ⟨0x5119, 0x5119, 0x0, 0x5, 0x5, .u32, .ro, 0x0, 0x0, 0xFFFFFFFF, 4⟩, -- SHIM_TX_REJECT_COUNT
  ⟨0x511A, 0x511A, 0x0, 0x5, 0x5, .u32, .ro, 0x0, 0x0, 0xFFFFFFFF, 4⟩, -- NARROW_UNSUPPORTED_COUNT
  ⟨0x5120, 0x5120, 0x1, 0x1, 0x1, .u64, .rw, 0x0, 0x0, 0xFFFFFFFFFFFFFFFF, 8⟩, -- ROOT_CFG_ADDR
  ⟨0x5120, 0x5120, 0x2, 0x2, 0x2, .u32, .rw, 0x0, 0x0, 0xFFFFFFFF, 4⟩, -- ROOT_CFG_DATA
  ⟨0x5120, 0x5120, 0x3, 0x3, 0x3, .u8, .ro, 0x0, 0x0, 0xFF, 1⟩, -- ROOT_CFG_STATUS
  ⟨0x5130, 0x5130, 0x0, 0x5F, 0x5F, .u32, .ro, 0x0, 0x0, 0xFFFFFFFF, 4⟩, -- LACE_STATUS
  ⟨0x5131, 0x5131, 0x0, 0x5F, 0x5F, .u16, .ro, 0x0, 0x0, 0xFFF, 2⟩, -- LACE_PEER_ID
  ⟨0x5132, 0x5132, 0x0, 0x5F, 0x5F, .u8, .wo, 0x0, 0x1, 0x1, 1⟩, -- LACE_RETRAIN
  ⟨0x5133, 0x5133, 0x0, 0x5F, 0x5F, .u32, .ro, 0x0, 0x0, 0xFFFFFFFF, 4⟩, -- LACE_REPLAY_COUNT
  ⟨0x5134, 0x5134, 0x0, 0x5F, 0x5F, .u32, .ro, 0x0, 0x0, 0xFFFFFFFF, 4⟩, -- LACE_CRC_ERROR_COUNT
  ⟨0x5135, 0x5135, 0x0, 0x5F, 0x5F, .u32, .ro, 0x0, 0x0, 0xFFFFFFFF, 4⟩, -- LACE_FEC_UNCORRECTABLE_COUNT
  ⟨0x5136, 0x5136, 0x0, 0x5F, 0x5F, .u32, .ro, 0x0, 0x0, 0xFFFFFFFF, 4⟩, -- LACE_RETRAIN_COUNT
  ⟨0x5137, 0x5137, 0x0, 0x5F, 0x5F, .u32, .ro, 0x0, 0x0, 0xFFFFFFFF, 4⟩, -- LACE_USER_DISCARD_COUNT
  ⟨0x5138, 0x5138, 0x0, 0x5, 0x5, .u8, .rws, 0x0, 0x0, 0xFF, 1⟩, -- LACE_USER_TYPE_MASK
  ⟨0x5139, 0x5139, 0x0, 0x5, 0x5, .u32, .rw, 0x0, 0x0, 0xF4240, 4⟩, -- LACE_DOZE_IDLE_NS
  ⟨0x513A, 0x513A, 0x0, 0x5, 0x5, .u32, .rw, 0x0, 0x0, 0x989680, 4⟩, -- LACE_OFF_IDLE_US
  ⟨0x5200, 0x5200, 0x1, 0x1, 0x1, .bool, .rws, 0x0, 0x0, 0x1, 1⟩, -- DIR_ENABLE
  ⟨0x5200, 0x5200, 0x2, 0x2, 0x2, .u32, .ro, 0x0, 0x0, 0xFFFFFFFF, 4⟩, -- DIR_STATUS
  ⟨0x5200, 0x5200, 0x3, 0x3, 0x3, .u32, .ro, 0x0, 0x0, 0x2000000, 4⟩, -- CAPACITY_ENTRIES
  ⟨0x5200, 0x5200, 0x4, 0x4, 0x4, .u32, .wo, 0x0, 0x0, 0xFFFFFFFF, 4⟩, -- DIR_COMMAND
  ⟨0x5200, 0x5200, 0x5, 0x5, 0x5, .u16, .rw, 0x0, 0x0, 0xFFF, 2⟩, -- HOOK_QUEUE
  ⟨0x5200, 0x5200, 0x6, 0x6, 0x6, .bool, .rw, 0x0, 0x0, 0x1, 1⟩, -- HOOK_ENABLE
  ⟨0x5200, 0x5200, 0x7, 0x7, 0x7, .u32, .rw, 0x3E8, 0xA, 0x186A0, 4⟩, -- BI_TIMEOUT_US
  ⟨0x5200, 0x5200, 0x8, 0x8, 0x8, .u32, .ro, 0x0, 0x0, 0x2000000, 4⟩, -- VALID_ENTRIES
  ⟨0x5200, 0x5200, 0x9, 0x9, 0x9, .u32, .ro, 0x0, 0x0, 0x2000000, 4⟩, -- COARSE_ENTRIES
  ⟨0x5200, 0x5200, 0xA, 0xA, 0xA, .u64, .ro, 0x0, 0x0, 0xFFFFFFFFFFFFFFFF, 8⟩, -- LOOKUP_COUNT
  ⟨0x5200, 0x5200, 0xB, 0xB, 0xB, .u64, .ro, 0x0, 0x0, 0xFFFFFFFFFFFFFFFF, 8⟩, -- VICTIM_COUNT
  ⟨0x5200, 0x5200, 0xC, 0xC, 0xC, .u64, .ro, 0x0, 0x0, 0xFFFFFFFFFFFFFFFF, 8⟩, -- BISNP_COUNT
  ⟨0x5200, 0x5200, 0xD, 0xD, 0xD, .u32, .ro, 0x0, 0x0, 0xFFFFFFFF, 4⟩, -- BI_TIMEOUT_COUNT
  ⟨0x5200, 0x5200, 0xE, 0xE, 0xE, .u32, .ro, 0x0, 0x0, 0xFFFFFFFF, 4⟩, -- WAYS_LOST_COUNT
  ⟨0x5200, 0x5200, 0xF, 0xF, 0xF, .u32, .ro, 0x0, 0x0, 0xFFFFFFFF, 4⟩, -- HOOK_DROPPED_COUNT
  ⟨0x5200, 0x5200, 0x10, 0x10, 0x10, .u32, .ro, 0x0, 0x0, 0xFFFFFFFF, 4⟩, -- UNREGISTERED_COUNT
  ⟨0x5200, 0x5200, 0x11, 0x11, 0x11, .u32, .ro, 0x0, 0x0, 0xFFFFFFFF, 4⟩, -- PIN_OVERRIDE_COUNT
  ⟨0x5201, 0x5201, 0x0, 0xFF, 0xFF, .u16, .rws, 0xFFFF, 0x0, 0xFFFF, 2⟩, -- DIR_BANK_SLOT
  ⟨0x5202, 0x5202, 0x0, 0x7F, 0x7F, .u32, .rw, 0x0, 0x0, 0xFFFFFFFF, 4⟩, -- HOST_MAP
  ⟨0x5203, 0x5203, 0x0, 0x7, 0x7, .u32, .rw, 0x0, 0x0, 0xFFFFFFFF, 4⟩, -- POLICY_CLASS
  ⟨0x5204, 0x5204, 0x0, 0x7, 0x7, .u64, .rw, 0x0, 0x0, 0xFFFFFFFFF, 8⟩, -- RANGE_BASE
  ⟨0x5205, 0x5205, 0x0, 0x7, 0x7, .u64, .rw, 0x0, 0x0, 0xFFFFFFFFF, 8⟩, -- RANGE_LIMIT
  ⟨0x5206, 0x5206, 0x0, 0x7, 0x7, .u8, .rw, 0x0, 0x0, 0xFF, 1⟩, -- RANGE_CONTROL
  ⟨0x5300, 0x5300, 0x1, 0x1, 0x1, .u64, .ro, 0x0, 0x0, 0xFFFFFFFFFFFFFFFF, 8⟩, -- DDR_CAPACITY
  ⟨0x5300, 0x5300, 0x2, 0x2, 0x2, .u16, .ro, 0x0, 0x0, 0xFFFF, 2⟩, -- DDR_SPEED
  ⟨0x5300, 0x5300, 0x3, 0x3, 0x3, .u16, .rw, 0x1900, 0x12C0, 0x1900, 2⟩, -- DDR_SPEED_MAX
  ⟨0x5300, 0x5300, 0x4, 0x4, 0x4, .u8, .ro, 0x0, 0x0, 0xFF, 1⟩, -- DDR_CHANNEL_MASK
  ⟨0x5300, 0x5300, 0x5, 0x5, 0x5, .u8, .wo, 0x0, 0x1, 0x2, 1⟩, -- DDR_COMMAND
  ⟨0x5300, 0x5300, 0x6, 0x6, 0x6, .bool, .rw, 0x1, 0x0, 0x1, 1⟩, -- DDR_WRITEBACK_ENABLE
  ⟨0x5300, 0x5300, 0x7, 0x7, 0x7, .bool, .rw, 0x1, 0x0, 0x1, 1⟩, -- DDR_SCRUB_ENABLE
  ⟨0x5300, 0x5300, 0x8, 0x8, 0x8, .u32, .rw, 0x15180, 0xE10, 0x93A80, 4⟩, -- DDR_SCRUB_PERIOD_S
  ⟨0x5300, 0x5300, 0x9, 0x9, 0x9, .u8, .rw, 0x4, 0x1, 0x7, 1⟩, -- DDR_CAP_EIGHTHS
  ⟨0x5300, 0x5300, 0xA, 0xA, 0xA, .u64, .ro, 0x0, 0x0, 0xFFFFFFFFFFFFFFFF, 8⟩, -- DDR_CE_COUNT
  ⟨0x5300, 0x5300, 0xB, 0xB, 0xB, .u64, .ro, 0x0, 0x0, 0xFFFFFFFFFFFFFFFF, 8⟩, -- DDR_UE_COUNT
  ⟨0x5300, 0x5300, 0xC, 0xC, 0xC, .u64, .ro, 0x0, 0x0, 0xFFFFFFFFFFFFFFFF, 8⟩, -- DDR_POISON_READ_COUNT
  ⟨0x5300, 0x5300, 0xD, 0xD, 0xD, .u32, .ro, 0x0, 0x0, 0xFFFFFFFF, 4⟩, -- DPA_RANGE_COUNT
  ⟨0x5300, 0x5300, 0xE, 0xE, 0xE, .u32, .ro, 0x0, 0x0, 0xFFFFFFFF, 4⟩, -- NOT_READY_COUNT
  ⟨0x5300, 0x5300, 0xF, 0xF, 0xF, .u64, .ro, 0x0, 0x0, 0xFFFFFFFFFFFFFFFF, 8⟩, -- DDR_LAST_ERROR
  ⟨0x5300, 0x5300, 0x10, 0x10, 0x10, .u32, .ro, 0x0, 0x0, 0xFFFFFFFF, 4⟩, -- SCRUB_PASS_COUNT
  ⟨0x5301, 0x5301, 0x0, 0x7, 0x7, .u32, .ro, 0x10000000, 0x0, 0xFFFFFFFF, 4⟩, -- CHANNEL_STATUS
  ⟨0x5302, 0x5302, 0x0, 0x7, 0x7, .u32, .ro, 0x0, 0x0, 0xFFFFFFFF, 4⟩] -- TRAIN_MARGIN

/-- Queue manager, movers, vectors (spec/06). -/
def queueObjects : List Obj := [
  ⟨0x6000, 0x6000, 0x1, 0x1, 0x1, .bool, .rws, 0x0, 0x0, 0x1, 1⟩, -- QM_ENABLE
  ⟨0x6000, 0x6000, 0x2, 0x2, 0x2, .u16, .rws, 0x0, 0x0, 0x4FF, 2⟩, -- QM_CONTROL_BANK
  ⟨0x6000, 0x6000, 0x3, 0x3, 0x3, .u32, .ro, 0x0, 0x0, 0xFFFFFFFF, 4⟩, -- QM_STATUS
  ⟨0x6000, 0x6000, 0x4, 0x4, 0x4, .u16, .wo, 0x0, 0x0, 0x4FF, 2⟩, -- POOL_ADD
  ⟨0x6000, 0x6000, 0x5, 0x5, 0x5, .u16, .wo, 0x0, 0x0, 0x4FF, 2⟩, -- POOL_REMOVE
  ⟨0x6000, 0x6000, 0x6, 0x6, 0x6, .u16, .ro, 0x0, 0x0, 0x100, 2⟩, -- POOL_BANK_COUNT
  ⟨0x6000, 0x6000, 0x7, 0x7, 0x7, .u32, .ro, 0x0, 0x0, 0xFFBF0, 4⟩, -- FREE_CELLS
  ⟨0x6000, 0x6000, 0x8, 0x8, 0x8, .u32, .ro, 0x0, 0x0, 0xFFFFFFFF, 4⟩, -- REFUSAL_COUNT
  ⟨0x6000, 0x6000, 0x9, 0x9, 0x9, .u32, .ro, 0x0, 0x0, 0xFFFFFFFF, 4⟩, -- POISONED_MSG_COUNT
  ⟨0x6000, 0x6000, 0xA, 0xA, 0xA, .u32, .ro, 0x0, 0x0, 0xFFFFFFFF, 4⟩, -- REDELIVERED_COUNT
  ⟨0x6000, 0x6000, 0xB, 0xB, 0xB, .u32, .wo, 0x0, 0x0, 0xFFFFFFFF, 4⟩, -- QUEUE_COMMAND
  ⟨0x6000, 0x6000, 0xC, 0xC, 0xC, .u32, .ro, 0x0, 0x0, 0xFFFFFFFF, 4⟩, -- LOST_CELLS
  ⟨0x6010, 0x601F, 0x0, 0xFF, 0xFF, .blob, .rws, 0x0, 0x0, 0x0, 32⟩, -- QUEUE_SETUP
  ⟨0x6020, 0x602F, 0x0, 0xFF, 0xFF, .blob, .ro, 0x0, 0x0, 0x0, 32⟩, -- QUEUE_STATE
  ⟨0x6030, 0x6030, 0x0, 0xF, 0xF, .u64, .ro, 0x0, 0x0, 0xFFFFFFFFFFFFFFFF, 8⟩, -- MOVER_STATUS
  ⟨0x6100, 0x6100, 0x1, 0x1, 0x1, .u16, .const, 0x1040, 0x0, 0xFFFF, 2⟩, -- VECTOR_COUNT
  ⟨0x6100, 0x6100, 0x2, 0x2, 0x2, .u32, .ro, 0x0, 0x0, 0xFFFFFFFF, 4⟩, -- VECTOR_HELD_COUNT
  ⟨0x6101, 0x6111, 0x0, 0xFF, 0x3F, .u32, .rw, 0x0, 0x0, 0xFFFFFFFF, 4⟩] -- VECTOR_STEER

/-- Pins, eyelets, self-test (spec/18, 19). -/
def pinObjects : List Obj := [
  ⟨0x7000, 0x7000, 0x0, 0x3F, 0x3F, .u32, .rw, 0x10, 0x0, 0xFFFFFFFF, 4⟩, -- PIN_CONFIG
  ⟨0x7001, 0x7001, 0x0, 0x3, 0x3, .u32, .rw, 0x0, 0x0, 0xFFFFFFFF, 4⟩, -- GPIO_OUT
  ⟨0x7002, 0x7002, 0x0, 0x3, 0x3, .u32, .rw, 0x0, 0x0, 0xFFFFFFFF, 4⟩, -- GPIO_OE
  ⟨0x7003, 0x7003, 0x0, 0x3, 0x3, .u32, .ro, 0x0, 0x0, 0xFFFFFFFF, 4⟩, -- GPIO_IN
  ⟨0x7004, 0x7004, 0x0, 0x3, 0x3, .u32, .rw, 0x0, 0x0, 0xFFFFFFFF, 4⟩, -- EDGE_PENDING
  ⟨0x7005, 0x7005, 0x1, 0x1, 0x1, .u64, .ro, 0x0, 0x0, 0xFFFFFFFFFFFFFFFF, 8⟩, -- SYNC_TIME
  ⟨0x7005, 0x7005, 0x2, 0x2, 0x2, .u32, .ro, 0x0, 0x0, 0xFFFFFFFF, 4⟩, -- SYNC_COUNT
  ⟨0x7100, 0x7100, 0x0, 0x7, 0x7, .u32, .rw, 0x0, 0x0, 0xFFFFFFFF, 4⟩, -- EYELET_SELECT
  ⟨0x7101, 0x7101, 0x1, 0x1, 0x1, .u32, .ro, 0x0, 0x0, 0xFFFFFFFF, 4⟩, -- EYELET_STATUS
  ⟨0x7101, 0x7101, 0x2, 0x2, 0x2, .u32, .ro, 0x0, 0x0, 0xFFFFFFFF, 4⟩, -- JTAG_DENIED_COUNT
  ⟨0x7101, 0x7101, 0x3, 0x3, 0x3, .u32, .const, 0x4D05593, 0x0, 0xFFFFFFFF, 4⟩, -- JTAG_IDCODE
  ⟨0x7800, 0x7800, 0x1, 0x1, 0x1, .u64, .wo, 0x0, 0x0, 0xFFFFFFFFFFFFFFFF, 8⟩, -- SELFTEST_COMMAND
  ⟨0x7800, 0x7800, 0x2, 0x2, 0x2, .u32, .ro, 0x0, 0x0, 0xFFFFFFFF, 4⟩, -- SELFTEST_STATUS
  ⟨0x7800, 0x7800, 0x3, 0x3, 0x3, .u16, .rw, 0x32, 0x5, 0x3E8, 2⟩, -- SLICE_BUDGET_US
  ⟨0x7800, 0x7800, 0x4, 0x4, 0x4, .u32, .rw, 0x3E8, 0xA, 0xF4240, 4⟩, -- SLICE_INTERVAL_US
  ⟨0x7800, 0x7800, 0x5, 0x5, 0x5, .u16, .rw, 0xA, 0x1, 0x2710, 2⟩, -- LANE_TEST_MS
  ⟨0x7802, 0x7802, 0x1, 0x1, 0x1, .u64, .ro, 0x0, 0x0, 0xFFFFFFFFFFFFFFFF, 8⟩, -- MEM_ROWS_TESTED
  ⟨0x7802, 0x7802, 0x2, 0x2, 0x2, .u32, .ro, 0x0, 0x0, 0xFFFFFFFF, 4⟩, -- MEM_WORDS_FAILED
  ⟨0x7802, 0x7802, 0x3, 0x3, 0x3, .u32, .ro, 0x0, 0x0, 0xFFFFFFFF, 4⟩, -- MEM_DARNED
  ⟨0x7802, 0x7802, 0x4, 0x4, 0x4, .u16, .ro, 0x0, 0x0, 0x500, 2⟩, -- MEM_SAVE_FAILED_COUNT
  ⟨0x7802, 0x7802, 0x5, 0x5, 0x5, .u16, .ro, 0x0, 0x0, 0x500, 2⟩, -- MEM_BANKS_DONE
  ⟨0x7803, 0x7803, 0x0, 0x1F, 0x1F, .u8, .ro, 0x0, 0x0, 0xFF, 1⟩, -- LOGIC_RESULT
  ⟨0x7804, 0x7804, 0x0, 0x2, 0x2, .u32, .ro, 0x0, 0x0, 0xFFFFFFFF, 4⟩, -- LANE_FAIL_MAP
  ⟨0x7805, 0x7805, 0x1, 0x1, 0x1, .u32, .ro, 0x0, 0x0, 0xFFFFFFFF, 4⟩] -- FUSE_MARGIN_FAILS

/-- The objects of an index range (R337). -/
def objRange (idx : Nat) : List Obj :=
  if idx < 0x2000 then identityObjects
  else if idx < 0x3000 then healthObjects
  else if idx < 0x4000 then controlObjects
  else if idx < 0x5000 then memoryObjects
  else if idx < 0x6000 then linkObjects
  else if idx < 0x7000 then queueObjects
  else pinObjects

/-- Whether a row spans the index. -/
def Obj.hasIdx (o : Obj) (idx : Nat) : Bool := o.idxLo ≤ idx && idx ≤ o.idxHi

/-- Whether a row spans the object `idx:sub`. -/
def Obj.has (o : Obj) (idx sub : Nat) : Bool :=
  o.hasIdx idx && o.subLo ≤ sub && sub ≤ (if idx = o.idxHi then o.subHiLast else o.subHi)

/-- The row of an object, where it exists (R337). -/
def objFind (idx sub : Nat) : Option Obj := (objRange idx).find? (fun o => o.has idx sub)

/-- Whether an index is defined at all (R337). -/
def objIndexed (idx : Nat) : Bool := (objRange idx).any (fun o => o.hasIdx idx)

/-- The key of an object among the dictionary registers. -/
def objKey (idx sub : Nat) : Nat := 256 * idx + sub % 256

/-- The value of a dictionary register at reset: the Default column, with PORT0's own PORT_CONFIG (R278) and the
first two notice rules (R367). -/
def objDefault (key : Nat) : Nat :=
  if key = 0x510000 then 0x41600001
  else if key = 0x111000 then 0xC0000002
  else if key = 0x111001 then 0xC0000003
  else
    match objFind (key / 256) (key % 256) with
    | some o => o.default
    | none => 0

/-- The objects that R365 excludes from the settings digest. -/
def digestExcluded (idx sub : Nat) : Bool :=
  idx = 0x4001 || idx = 0x4310 || idx = 0x4400 || idx = 0x500A || idx = 0x5110 || idx = 0x5111 || idx = 0x5120
    || idx = 0x2203 || idx = 0x2002 && sub = 1 || idx = 0x7001 || idx = 0x7002 || idx = 0x7004 || idx = 0x7100 || idx = 0x7800

/-- Whether the settings digest covers an object (R365). -/
def covered (idx sub : Nat) : Bool :=
  0x2000 ≤ idx && idx < 0x8000 && !digestExcluded idx sub &&
    match objFind idx sub with
    | some o => o.acc = .rw || o.acc = .rws
    | none => false

end Sys2Proof.Machine
end

