-- ==== Sys2Proof/Machine/State.lean ====
section
/-! DEFINITION. The state of the device as plain data, its reset value, and the reasons a step can stop. -/

namespace Sys2Proof.Machine

/-- No command of this model stops with a fault: a request the spec turns away is answered with a status, which is a
next state. One constructor is kept for an interface access to an address that does not exist. -/
inductive Fault where
  /-- Kept for completeness: no meaning raises it. Safe. -/
  | noSuchAddress
  deriving DecidableEq, Repr

/-- The reasons a command has no meaning. -/
inductive Refusal where
  /-- Raised by a command that has no meaning yet. Safe. -/
  | notModelled (mnemonic : String)
  deriving DecidableEq, Repr

/-- The device states of R33. -/
inductive DevState where
  | off | aon | boot | awaitFw | managed | operational | quiescing | safeStop | fault
  deriving DecidableEq, Repr

/-- The status of a request (R343). -/
inductive Status where
  | ok | noObject | noSubindex | readOnly | writeOnly | typeMismatch | lengthMismatch | valueRange
  | lengthExceeds | stateConflict | busyInTest | ownerMismatch | lifecycleDenied | awaitingFirmware
  | internal
  deriving DecidableEq, Repr

/-- A record waiting in its source's hold (R29). -/
structure EvtRec where
  subsys : Nat
  event : Nat
  inst : Nat
  lostBefore : Nat
  deriving DecidableEq, Repr

/-- One event source: up to 8 records awaiting acceptance, and how many were lost since the last one entered (R29). -/
structure EvtHold where
  recs : List EvtRec
  lost : Nat
  deriving DecidableEq, Repr

/-- Device state, AON time and the event log (spec/01). `held` T0 is held in reset, `resetLow` RESET_N is low, `resetDue` the
accepted RESET_COMMANDs that have not taken hold, oldest first (1 COLD, 2 BASE_WARM; R447). -/
structure Dev where
  state : DevState
  stopAsserted : Bool
  aonTime : Nat
  publishDue : Bool
  evtLog : Tab Nat
  evtCount : Nat
  evtHolds : Tab EvtHold
  evtLost : Nat
  held : Bool
  resetLow : Bool
  resetDue : List Nat
  deriving DecidableEq, Repr

/-- A journal entry before it is written (R360). -/
structure JRec where
  idx : Nat
  sub : Nat
  status : Nat
  source : Source
  ty : Nat
  old : Option (List Byte)
  new : List Byte
  deriving DecidableEq, Repr

/-- What the device sends: the model's own record of its outputs, oldest first (log 7). -/
inductive Out where
  | status (src : Source) (code : Nat)
  | value (src : Source) (bytes : List Byte)
  | message (src : Source) (bytes : List Byte)
  /-- A completion delivered at a tile: port 0 press, 2 word port of T2, 4 word port of T4 (R97, R104). -/
  | tileDone (port tile status data : Nat)
  /-- SWITCH_WARN at a panel's shuttle port: the next edge begins the switch cycle (R76, R81). -/
  | switchWarn (panel : Nat)
  /-- SWITCHED_IN at a panel's shuttle port, with the slot of the running context and FRESH_IN (R76, R81). -/
  | switchedIn (panel slot : Nat) (fresh : Bool)
  /-- A posted write sent on a link towards a partner, and whether it is sent poisoned (R141). `spid` here and below is the LINK_OWN_ID
  that a PBR link's flits carry, 0 on any other link (R268). -/
  | posted (link spid partner addr : Nat) (bytes : List Byte) (poison : Bool)
  /-- QE_DONE at a panel's queue interface: status and message length of its enqueue (R163). -/
  | panelQueue (panel status len : Nat)
  /-- QD_VALID at a panel's queue interface: QD_FIRST, QD_LAST, status, message length, data (R163). -/
  | panelCell (panel : Nat) (first last : Bool) (status len data : Nat)
  /-- A completion sent to a link: tag, status (0 successful, 1 unsupported request, 4 completer abort), poison, data. -/
  | completion (link spid tag status : Nat) (poison : Bool) (bytes : List Byte)
  /-- A CXL.mem response or snoop to a partner: op 0 Cmp, 1 Cmp-S, 2 Cmp-E, 3 MemData, 4 BISnpInv, 5 BISnpData,
  6 BIConflictAck (R189, R190). The line is the attached-memory line it concerns, in a snoop the HPA line that names it to the
  partner (R263). -/
  | cxl (link spid partner op line tag data : Nat) (poison : Bool)
  /-- The PAM4 levels of a codeword, a marker or a training frame that a lane in Lace link mode sends (R279, R281, R282). -/
  | levels (lane : Nat) (l : List Nat)
  /-- A Lace flit sent on a link, 256 bytes with its CRC-64 (R288). -/
  | flit (link : Nat) (bytes : List Byte)
  /-- A configuration request sent on a link: address word, write data (R261). -/
  | config (link spid tag addr : Nat) (write : Bool) (data : Nat)
  /-- A packet delivered to a panel by its shim (R272): panel, kind, link, partner, the cut-short flag, bytes. -/
  | shimRx (panel kind link partner : Nat) (err : Bool) (bytes : List Byte)
  /-- A packet of the fabric shim sent on its link (R272): kind, link, partner, bytes. -/
  | shimTx (link spid kind partner : Nat) (bytes : List Byte)
  /-- A request for L0p at a width of a link (R275). -/
  | l0p (link width : Nat)
  /-- A read of the boot flash from a byte offset on (R324, R314). -/
  | flashRead (offset : Nat)
  /-- Bytes sent on the configuration chain (R326). -/
  | chain (bytes : List Byte)
  /-- A read request the device sends to a partner: link, partner, tag, address, length. -/
  | hostRead (link spid partner tag addr len : Nat)
  /-- A PMBus write of VOUT_COMMAND: map entry and mV (R438). -/
  | pmbus (entry mv : Nat)
  /-- An answer on Ethernet: 1 ARP reply, 2 ICMP echo reply, and the address it is for (R354). -/
  | net (kind ip : Nat)
  /-- MCTP packets for the I3C controller: the in-band interrupt, and the private reads that take them (R351, R352; log 59). -/
  | i3c (packets : List (List Byte))
  /-- An MCTP packet sent on a PCIe or CXL link, routed by ID to a requester (R353). -/
  | vdm (link spid requester : Nat) (packet : List Byte)
  /-- An IPv4 packet sent on Ethernet, and the address of its next hop (R354, R355). -/
  | ip (hop : Nat) (packet : List Byte)
  /-- The answer to an SPDM request: source, request code, status of R343, bytes (R386). -/
  | spdm (src : Source) (code status : Nat) (bytes : List Byte)
  /-- What a JTAG data register captures (R491). -/
  | capture (value : Nat)
  /-- What the management core's NV port answers (R425): 0 done, 1 busy. -/
  | nvPort (status : Nat)
  /-- Data delivered to the management core by its base channel (R137): status class and data. -/
  | coreData (status data : Nat)
  /-- A NOTIFY request: target, tag, bytes of its body (R368). -/
  | notify (target tag : Nat) (bytes : List Byte)
  deriving DecidableEq, Repr

/-- One internal journal source: up to 8 entries held, its open run of losses (R362). -/
structure JHold where
  recs : List JRec
  lossBefore : Bool
  deriving DecidableEq, Repr

/-- The change journal (R359–R364). -/
structure Journal where
  ring : Tab Nat
  count : Nat
  seq : Nat
  reserve : Nat
  lost : Nat
  holds : Tab JHold
  waiting : List (JRec × Out)
  bootLost : List Nat
  copied : Nat
  copyHeld : Bool
  deriving DecidableEq, Repr

/-- A slot of a panel (R66). -/
inductive SlotState where
  | invalid | loading | valid | staged | active
  deriving DecidableEq, Repr

/-- The states of a panel (R68). -/
inductive PanelState where
  | empty | held | loading | running | test
  deriving DecidableEq, Repr

/-- The LC flip-flops of a panel or of a slot's state store (R39, R66): 5,120 bits by local tile, FFA of LC j in bit 2j and FFB in
bit 2j + 1; a tile that is not listed holds zeros. -/
abbrev Image := Tab Nat

/-- An arithmetic block (R42): its accumulator, the products MUL2 last delivered, and the operands of the operations in its
pipeline, youngest first. -/
structure Arith where
  acc : Nat
  products : Nat
  pipe : List (Option Nat)
  deriving DecidableEq, Repr

/-- An arithmetic block that has been cleared (R43). -/
def Arith.zero : Arith := ⟨0, 0, []⟩

/-- Why a slot is being staged: for STAGE, for a switch, for SELECT in HELD, for activation, for a table (R88), or the
restage of the active slot after SAFE_STOP (R436). -/
inductive StageFor where
  | plain | switching | select | activation | table | restage
  deriving DecidableEq, Repr

/-- An accepted switch (R75): `scheduled` once its target is staged, `table` when a time-slice table asked for it, `edges` the panel
clock edges since it was scheduled (R76). -/
structure Switch where
  slot : Nat
  fresh : Bool
  scheduled : Bool
  table : Bool
  edges : Nat
  deriving DecidableEq, Repr

/-- Where a time-slice table stands (R88): not running; its first request is due; that request became a switch; the current entry
counts; its next request became a switch; its next entry runs with no switch. -/
inductive SlicePhase where
  | stopped | first | starting | counting | switching | noSwitch
  deriving DecidableEq, Repr

/-- How a PANELn or FABRIC reset acts on a panel (R59). -/
inductive PanelReset where
  | clocked | parked | gated
  deriving DecidableEq, Repr

/-- One panel: its slots, configuration frames (key slot × 4,096 + tile × 50 + frame), flip-flop stores, the registers of its tiles,
shuttle and time-slice state (spec/02, spec/03). `arith` is keyed tile × 4 + block; `boundary` holds the two boundary registers of
the incoming ports, by tile × 4 + side, the second register of port i in bit 128 + i (R48); `stitchReg` the T3 registers it
drives and `stitchSync` the synchronising registers at its ends, the second of stitch i in bit 512 + i, by tile (R50); `nextDivisor`
the ratio that the clock divider takes at its next edge (R57); `tileMem`
the bytes by tile × 65,536 + memory × 32,768 + byte and `memOut` the read data and output registers, by
tile × 8 + memory × 4 + port × 2 (R44); `phase` counts FCLK edges for the clock divider; `clamped` until the first panel clock edge in
RUNNING (R55); `switchedIn` and `freshIn` for the first cycle after a switch (R81); `sreqWas` the SREQ_VALID of the cycle before and
`sreq` the captured requests on their way, each with the panel it is for (R82). -/
structure Panel where
  pstate : PanelState
  entryState : PanelState
  slots : Tab SlotState
  frames : Tab Nat
  flops : Tab Image
  live : Image
  arith : Tab Arith
  boundary : Tab Nat
  stitchReg : Tab Nat
  stitchSync : Tab Nat
  tileMem : Tab Nat
  memOut : Tab Nat
  parked : Bool
  divisor : Nat
  nextDivisor : Nat
  phase : Nat
  clamped : Bool
  staging : Option (Nat × StageFor)
  switch : Option Switch
  switchedIn : Bool
  freshIn : Bool
  sreqWas : Bool
  sreq : List (Nat × Nat × Bool)
  tileBusy : Bool
  releaseWait : Option Bool
  reset : Option PanelReset
  slice : SlicePhase
  sliceEntry : Nat
  sliceNext : Nat
  sliceStageDue : Bool
  readPos : Nat
  padSync : Nat
  deriving DecidableEq, Repr

/-- A panel after COLD reset or POR (R59, R65, R92). -/
def Panel.init : Panel :=
  { pstate := .empty, entryState := .empty, slots := [], frames := [], flops := [], live := [], arith := []
    boundary := [], stitchReg := [], stitchSync := [], tileMem := [], memOut := [], parked := false, divisor := 1
    nextDivisor := 1, phase := 0, clamped := true, staging := none, switch := none, switchedIn := false, freshIn := false
    sreqWas := false, sreq := [], tileBusy := false, releaseWait := none, reset := none
    slice := .stopped, sliceEntry := 0, sliceNext := 0, sliceStageDue := false, readPos := 0, padSync := 0 }

/-- The states of a lane (R231). -/
inductive LaneState where
  | disabled | detect | train | lock | exchange | active | loopback
  deriving DecidableEq, Repr

/-- A serial lane (R231–R253). Powers 0 ON, 1 DOZE, 2 OFF. `peerIndex` and `logical` of R283; `good` the consecutive
good training frames, `linkRate` the rate taken, `switchSeen` a switch frame was received, `equalizing` the second phase
of R284; taps, `request` and `status` as sent in its frames, `serving` the partner request being answered, `strange` one
already counted, `settled` its own request was answered and not yet released; `doneSeen` the consecutive frames with
TRAIN_DONE; marker lock and consecutive bad markers of R242; the measured skew; a margining operation in progress. -/
structure Lane where
  lstate : LaneState
  txPower : Nat
  rxPower : Nat
  rate : Nat
  inverted : Bool
  peerIndex : Option Nat
  logical : Nat
  inLink : Bool
  dropped : Bool
  givenUp : Bool
  failRun : Nat
  good : Nat
  linkRate : Nat
  switchSeen : Bool
  equalizing : Bool
  pre2 : Int
  pre1 : Int
  post1 : Int
  request : Nat
  status : Nat
  serving : Nat
  strange : Nat
  settled : Bool
  doneSeen : Nat
  markerLane : Option Nat
  locked : Bool
  markerBad : Nat
  skew : Nat
  margining : Bool
  prbs : Nat
  scrambler : Nat
  level : Nat
  frameBits : Nat
  switches : Nat
  doneSent : Nat
  badSlot : Nat
  deriving DecidableEq, Repr

/-- A lane after reset (R250, R253): DISABLED, both directions off, preset P0 in force. -/
def Lane.init : Lane :=
  { lstate := .disabled, txPower := 2, rxPower := 2, rate := 0, inverted := false, peerIndex := none, logical := 0
    inLink := false, dropped := false, givenUp := false, failRun := 0, good := 0, linkRate := 0, switchSeen := false
    equalizing := false, pre2 := 0, pre1 := 0, post1 := 0, request := 0, status := 0, serving := 0, strange := 0
    settled := false, doneSeen := 0, markerLane := none, locked := false, markerBad := 0, skew := 0
    margining := false, prbs := 0, scrambler := 0, level := 0, frameBits := 0, switches := 0, doneSent := 0
    badSlot := 0 }

/-- The data of a completion of the device's whose last flit has not come (R293): its bytes so far, whether one was poisoned, and the
first status other than OK. -/
structure LacePart where
  data : List Byte
  bad : Bool
  status : Nat
  deriving DecidableEq, Repr

/-- A completion of which nothing has come. -/
def LacePart.none : LacePart := ⟨[], false, 0⟩

/-- A sequenced Lace flit the device sends: type, virtual channel, destination partner, payload (R288, R289). -/
structure TxFlit where
  ty : Nat
  vc : Nat
  partner : Nat
  payload : List Byte
  deriving DecidableEq, Repr

/-- Power of the device's transmit direction of a Lace link (R301, R302): awake; a DOZE or OFF flit waits for its
acknowledgement; asleep; or awake again and waiting for RX_READY. -/
inductive LaceTx where
  | awake | dozeSent | dozing | offSent | off | waking
  deriving DecidableEq, Repr

/-- The Lace state of a link (spec/11). `nonce` and `peerNonce` settle the lead; `txNext`, `rxNext` and `acked` are the
sequence state; `replay` the unacknowledged flits with their SEQ, `sendq` those waiting for credit or room; `credit` the
credits held, `peerTotal` the last CREDITS taken and `freed` the buffers freed since the last CAP; `held` the buffers in
use; `waiting` a NAK is outstanding; `replayFrom`, `replays` and `replayAt` the last replay; `capSeen` a valid CAP was
taken, `startSent` the START flit was sent, and the byte stream is striped from then on; `sleepRx` a DOZE (1) or OFF (2) flit was accepted;
`narrow` a narrowing was asked of both ends under NARROW_LINKS and `narrowCounted` the partner's refusal counted; `rxNow` the
present receive width, `wantTx` the transmit width that waits for RX_READY, `txGoal` the one that the last WIDTH flit names and
`widths` those of WIDTH flits in the byte stream with the bytes up to their end; `signal` a sleeping receiver has seen the signal
return; `requests` the VC0 flits held and `users` the user flits that the shim has no room for; `withheld` the VC0 buffers whose
credit waits in QUIESCING; `flushes` the FLUSH tags that wait with the age before which writes must be performed; `parts` the
completions whose last flit has not come; `heard` a sequenced flit was accepted, `unreported` how many since the last flit sent,
`nakDue` the next flit carries NAK; `own` and `ownBlocks` the stream that every lane carries before the first striped slot, by
bytes not yet sent and blocks sent, `acksSent` and `ackSeen` the CAP flits with ACK 1, `startAt` the bytes up to the end of the START
flit, `starts` the logical lanes it was received on; `stream` the bytes of the byte stream not yet sent in a block, `blocks` the
blocks sent since the first striped slot; `slotBits` the bits that have passed of the present codeword slot, `since` the slots since
the last marker, `markers` the next marker's count. -/
structure Lace where
  nonce : Nat
  peerNonce : Nat
  rxWidth : Nat
  txWidth : Nat
  peerWidth : Nat
  peerTypes : Nat
  capSeen : Bool
  startSent : Bool
  retraining : Bool
  idling : Bool
  scheduled : Bool
  txNext : Nat
  rxNext : Nat
  acked : Nat
  replay : List (Nat × TxFlit)
  sendq : List TxFlit
  rotation : Nat
  creditStep : Nat
  credit : Tab Nat
  peerTotal : Tab Nat
  freed : Tab Nat
  held : Tab Nat
  waiting : Bool
  replayFrom : Nat
  replays : Nat
  replayAt : Nat
  tx : LaceTx
  sleepRx : Nat
  narrow : Bool
  narrowCounted : Bool
  rxNow : Nat
  wantTx : Nat
  requests : List (List Byte)
  flushes : List (Nat × Nat)
  parts : Tab LacePart
  stream : List Byte
  blocks : Nat
  since : Nat
  markers : Nat
  slotBits : Nat
  own : List Byte
  ownBlocks : Nat
  acksSent : Nat
  ackSeen : Bool
  startAt : Nat
  starts : List Nat
  txGoal : Nat
  widths : List (Nat × Nat)
  signal : Bool
  users : List (List Byte)
  withheld : Nat
  heard : Bool
  unreported : Nat
  nakDue : Bool
  deriving DecidableEq, Repr

/-- A Lace link that has not been enabled. -/
def Lace.init : Lace :=
  { nonce := 0, peerNonce := 0, rxWidth := 0, txWidth := 0, peerWidth := 0, peerTypes := 0, capSeen := false
    startSent := false, retraining := false, idling := false, scheduled := false, txNext := 0
    rxNext := 0, acked := 4095, replay := [], sendq := [], rotation := 0, creditStep := 0, credit := []
    peerTotal := [], freed := [], held := [], waiting := false, replayFrom := 0, replays := 0, replayAt := 0
    tx := .awake, sleepRx := 0, narrow := false, narrowCounted := false, rxNow := 0, wantTx := 0
    requests := [], flushes := [], parts := [], stream := [], blocks := 0, since := 0, markers := 0, slotBits := 0
    own := [], ownBlocks := 0, acksSent := 0, ackSeen := false, startAt := 0, starts := [], txGoal := 0, widths := []
    signal := false, users := [], withheld := 0, heard := false, unreported := 0, nakDue := false }

/-- Who waits for the completion of a non-posted request the device has sent (R269): a mover, a configuration request of
R261 and the source of a read, a shim's request of a kind (R272: 1 TLP, 6 D2H, 7 M2S), or the loader. -/
inductive Asker where
  | mover (m : Nat)
  | rootCfg (src : Source) (write : Bool) (value : Nat)
  | shim (kind : Nat)
  | loader
  deriving DecidableEq, Repr

/-- One link, named by its first lane. `l0p` is the width it runs at under L0p, 0 outside it; `narrowed` says that the action in
force is settled on it (R275); `ide` lists the IDE streams in the Secure state (R270), `ideStale` the keys of the store that a
failure has made useless until they are programmed anew. In PCIe and CXL modes `ltssm` is the standard's state (R235), `configured`
the width of the configured link, 0 while there is none, and `flipped` that its lanes run in reverse order (R230). -/
structure Link where
  active : Bool
  width : Nat
  rate : Nat
  flitMode : Bool
  flit68 : Bool
  asks : List (Nat × Asker)
  lace : Lace
  l0p : Nat
  narrowed : Bool
  ide : List Nat
  ideStale : List Nat
  ltssm : Nat
  configured : Nat
  flipped : Bool
  deriving DecidableEq, Repr

/-- A link that is not ACTIVE. -/
def Link.down : Link :=
  { active := false, width := 0, rate := 0, flitMode := false, flit68 := false, asks := []
    lace := Lace.init, l0p := 0, narrowed := false, ide := [], ideStale := [], ltssm := 0
    configured := 0, flipped := false }

/-- A request held by a press or word port (R97, R104). `phase` 0 waits for the press budget, 1 waits at the bank
arbiter, 2 has its completion. `crossed` once a switch or parking has passed it (R79). -/
structure PortReq where
  row : Nat
  word : Nat
  write : Bool
  persist : Bool
  be : Nat
  data : Nat
  age : Nat
  phase : Nat
  crossed : Bool
  status : Nat
  deriving DecidableEq, Repr

/-- A request on a group's base channel (R109): the owner code of its requester, a byte address within one word, whether
its data is poisoned (R267), an AtomicOp's operation (1 FetchAdd, 2 Swap, 3 CAS), size and compare value (R262), the link
and tag its answer goes to, and when it was presented. -/
structure BaseReq where
  code : Nat
  addr : Nat
  write : Bool
  be : Nat
  data : Nat
  poison : Bool
  atomic : Option (Nat × Nat × Nat)
  link : Nat
  tag : Nat
  age : Nat
  deriving DecidableEq, Repr

/-- A host read of the tier in progress: its byte address and length, the words read so far, whether one was poisoned. -/
structure HostRead where
  link : Nat
  tag : Nat
  addr : Nat
  len : Nat
  words : List (Nat × Nat)
  poisoned : Bool
  deriving DecidableEq, Repr

/-- A darn table entry (R133). -/
structure DarnEntry where
  valid : Bool
  migrating : Bool
  cause : Nat
  spareCe : Nat
  row : Nat
  word : Nat
  deriving DecidableEq, Repr

/-- One bank's arbiter: owner and handover (R111, R120), initialisation engine (R117), rinse pointer and lag (R134,
R136), darn entries (R130). -/
structure Bank where
  owner : Nat
  newOwner : Nat
  handover : Bool
  wipe : Bool
  wipePending : Bool
  initRow : Nat
  rinsePtr : Nat
  rinseLag : Nat
  rinseWraps : Nat
  darn : Tab DarnEntry
  deriving DecidableEq, Repr

/-- A bank after COLD reset (R113, R142). -/
def Bank.init : Bank :=
  { owner := 0, newOwner := 0, handover := false, wipe := false, wipePending := true, initRow := 0
    rinsePtr := 0, rinseLag := 0, rinseWraps := 0, darn := [] }

/-- A repair queue entry (R127): the corrected words of one row. `stale` once a write has replaced one of them or a
wipe has run. -/
structure Repair where
  bank : Nat
  row : Nat
  words : List (Nat × Nat)
  stale : Bool
  deriving DecidableEq, Repr

/-- A repeat tracker entry (R129). -/
structure Track where
  addr : Nat
  count : Nat
  first : Nat
  armed : Bool
  deriving DecidableEq, Repr

/-- The memory tier (spec/04, spec/05): bytes by byte address, check bits by word address, written bits by row, the
banks, the ports' requests, press registers, repair queues and trackers. Spare words lie above the byte address space
(log 9). -/
structure Mem where
  bytes : List Host.Cell
  checks : Tab Nat
  written : Tab Bool
  banks : Tab Bank
  press : Tab (List PortReq)
  word2 : Tab (List PortReq)
  word4 : Tab (List PortReq)
  channel : Tab (List BaseReq)
  atBank : Tab (List BaseReq)
  lastServed : Tab Nat
  hostReads : List HostRead
  preg : Tab Nat
  rotation : Nat
  age : Nat
  cycle : Nat
  repairs : Tab (List Repair)
  trackers : Tab (List Track)
  barred : List Nat
  sramBad : List Nat
  deriving DecidableEq, Repr

/-- The memory tier after COLD reset or POR. -/
def Mem.init : Mem :=
  { bytes := [], checks := [], written := [], banks := [], press := [], word2 := [], word4 := []
    channel := [], atBank := [], lastServed := [], hostReads := [], preg := [], rotation := 0, age := 0, cycle := 0
    repairs := [], trackers := [], barred := [], sramBad := [] }

/-- The press-level actions in force (R401). -/
structure Throttle where
  budget : Bool
  narrow : Bool
  ddrCap : Bool
  deriving DecidableEq, Repr

/-- An enqueue that was accepted (R156): its producer class and who it is, its length, the cells reserved for it in
message order. -/
structure Enq where
  cls : Nat
  who : Nat
  len : Nat
  cells : List Nat
  deriving DecidableEq, Repr

/-- A dequeue (R158). `kind` 0 BAR2 value, 1 BAR2 buffer, 2 panel interface, 3 mover; `complete` once its last cell is
delivered. -/
structure Deq where
  kind : Nat
  who : Nat
  tag : Nat
  addr : Nat
  limit : Nat
  len : Nat
  delivered : Nat
  poisoned : Bool
  complete : Bool
  first : Nat
  deriving DecidableEq, Repr

/-- A queue: its setup word (R152 word 1), the fields of its state word (word 0), and what is in progress. -/
structure Queue where
  setup : Nat
  lastValue : Nat
  lastRead : Nat
  idleFired : Bool
  overflow : Bool
  underrun : Bool
  halted : Bool
  msgs : Nat
  cells : Nat
  tail : Nat
  head : Nat
  enqTotal : Nat
  deqTotal : Nat
  enqs : List Enq
  deq : Option Deq
  waiting : List Deq
  deriving DecidableEq, Repr

/-- A queue in a wiped control bank (R147, R152). -/
def Queue.init : Queue :=
  { setup := 0, lastValue := 0, lastRead := 0, idleFired := false, overflow := false, underrun := false
    halted := false, msgs := 0, cells := 0, tail := 0, head := 0, enqTotal := 0, deqTotal := 0
    enqs := [], deq := none, waiting := [] }

/-- A link entry (R151), and the bits of its 38 stored bits and 7 check bits that have changed in the array since it was
written. -/
structure CellLink where
  next : Nat
  first : Bool
  len : Nat
  flips : Nat
  deriving DecidableEq, Repr

/-- A pool slot (R147). -/
structure PoolSlot where
  valid : Bool
  draining : Bool
  bank : Nat
  deriving DecidableEq, Repr

/-- A panel's enqueue in assembly (R163): `discard` takes and drops the cells of a refused or abandoned message. -/
structure PanelEnq where
  queue : Nat
  enq : Enq
  taken : Nat
  discard : Bool
  deriving DecidableEq, Repr

/-- The flags of a BAR2 page (R167). -/
structure QueuePage where
  emptyRead : Bool
  lastStatus : Nat
  lastLength : Nat
  deriving DecidableEq, Repr

/-- An interrupt vector (R174, R176): its table entry, its pending bit, and whether a write of it is queued; one that is both is held for
its port. -/
structure IntVector where
  addr : Nat
  data : Nat
  control : Nat
  pending : Bool
  queued : Bool
  deriving DecidableEq, Repr

/-- A line write a mover has to make to attached memory: line address, byte enables, data. -/
structure LineWrite where
  line : Nat
  be : Nat
  data : Nat
  deriving DecidableEq, Repr

/-- A DMA mover (R169–R173). `desc` is the descriptor in progress, `moved` its bytes moved, `enq` the enqueue it fills,
`lines` the lines of attached memory read for its unit, `host` the bytes its partner returned for its unit, `asked` a
read it has issued and not had answered, `writes` and `writing` the line writes to enter the directory and those in it,
`ended` a descriptor whose last unit has moved and whose line writes have not all been made. -/
structure Mover where
  base : Nat
  size : Nat
  tail : Nat
  head : Nat
  enable : Bool
  halted : Bool
  cause : Nat
  haltIndex : Nat
  bytesDone : Nat
  desc : Option Nat
  moved : Nat
  enq : Option Enq
  lines : Tab (Option Nat)
  reading : List Nat
  host : Option (List Byte)
  asked : Bool
  writes : List LineWrite
  writing : Nat
  ended : Bool
  deriving DecidableEq, Repr

/-- A mover after reset (R172). -/
def Mover.init : Mover :=
  { base := 0, size := 0, tail := 0, head := 0, enable := false, halted := false, cause := 0, haltIndex := 0
    bytesDone := 0, desc := none, moved := 0, enq := none, lines := [], reading := [], host := none, asked := false
    writes := [], writing := 0, ended := false }

/-- The queue manager, movers and vectors (spec/06). -/
structure Qm where
  rebuilding : Bool
  slots : Tab PoolSlot
  queues : Tab Queue
  used : Tab Bool
  links : Tab (Option CellLink)
  rot : Nat
  exhausted : Bool
  panelEnq : Tab (Option PanelEnq)
  panelDeq : Tab (Option Nat)
  pages : Tab QueuePage
  staging : Nat
  cmdStatus : Nat
  vectors : Tab IntVector
  blocked : List Nat
  movers : Tab Mover
  deriving DecidableEq, Repr

/-- The queue manager after COLD reset or POR (R177). -/
def Qm.init : Qm :=
  { rebuilding := false, slots := [], queues := [], used := [], links := [], rot := 0, exhausted := false
    panelEnq := [], panelDeq := [], pages := [], staging := 0, cmdStatus := 0, vectors := [], blocked := []
    movers := [] }

/-- The states of a DDR5 channel (R211). -/
inductive ChanState where
  | unpopulated | idle | training | ready | selfRefresh | failed
  deriving DecidableEq, Repr

/-- A request on its way to a DDR5 controller, or a read it has accepted (R210). `txn` is the directory transaction it
belongs to, `source` 1 CXL.mem or 2 LOCAL; `data` of a read numbers the read within its transaction; `stored` is the line as it stood when the read was accepted, and `overtaken`
says that a write to the line has been accepted since. -/
structure DdrReq where
  txn : Nat
  line : Nat
  write : Bool
  be : Nat
  data : Nat
  poison : Bool
  source : Nat
  stored : Nat × Nat
  overtaken : Bool
  deriving DecidableEq, Repr

/-- A DDR5 channel (R211–R225). `resume` says which training runs; `hot` and `fast` list the slots at or above 95 °C and
refreshed at twice the rate; `allow` is the burst allowance of the current window under DDR_CAP. -/
structure DdrChan where
  cstate : ChanState
  result : Nat
  saved : Bool
  resume : Bool
  dimms : Nat
  log2Ranks : Nat
  density : Bool
  dimmGb : Nat
  speed : Nat
  margin : Nat
  hot : List Nat
  fast : List Nat
  reads : List DdrReq
  scrubPos : Nat
  scrubPasses : Nat
  allow : Option Nat
  used : Nat
  deriving DecidableEq, Repr

/-- A channel after POR (R222). -/
def DdrChan.init : DdrChan :=
  { cstate := .idle, result := 0, saved := false, resume := false, dimms := 0, log2Ranks := 0, density := false
    dimmGb := 0, speed := 0, margin := 0, hot := [], fast := [], reads := [], scrubPos := 0, scrubPasses := 0
    allow := none, used := 0 }

/-- Attached memory: channels, requests issued to the controllers, the lines stored as data and the error pattern of
their 80 B codeword (R214, log 12), and which first-of-a-kind events were written since COLD reset (R210). -/
structure Ddr where
  chans : Tab DdrChan
  issued : List DdrReq
  lines : Tab (Option (Nat × Nat))
  seen : List Nat
  deriving DecidableEq, Repr

/-- Attached memory after POR. -/
def Ddr.init : Ddr := { chans := [], issued := [], lines := [], seen := [] }

/-- A back-invalidate snoop of a transaction (R190, R191): BISnpData or BISnpInv, how often it was issued, and when. -/
structure Snoop where
  partner : Nat
  data : Bool
  issues : Nat
  issuedAt : Nat
  deriving DecidableEq, Repr

/-- Where a directory transaction stands (R186): it waits for its line; its set is being read; no way was eligible; its
BI_PENDING entry is to be written; it waits for snoop responses; its final entry is to be written; it waits only for
its data. -/
inductive DirPhase where
  | waiting | lookup | retry | pend | snooping | final | data
  deriving DecidableEq, Repr

/-- A directory transaction (R186–R197). `cls` is the class of R188; `metaState` 1 I, 2 S, 3 A; `mover` the mover of a LOCAL
request. `way` is the way taken, `taken` its entry before; `old` and `new` the line's own entry before and after, `resp`
the NDR response (0 Cmp, 1 Cmp-S, 2 Cmp-E, 3 none), `victim` the victim line and `victimOld` its entry. -/
structure DirTxn where
  id : Nat
  cls : Nat
  partner : Nat
  link : Nat
  tag : Nat
  mover : Nat
  line : Nat
  metaState : Nat
  be : Nat
  wdata : Nat
  poison : Bool
  needData : Bool
  phase : DirPhase
  way : Nat
  taken : Nat
  old : Nat
  new : Nat
  resp : Nat
  victim : Option Nat
  victimOld : Nat
  snoops : List Snoop
  reread : Bool
  awaited : Nat
  got : Option (Nat × Bool)
  events : Nat
  deriving DecidableEq, Repr

/-- The directory engine (spec/07). `sweep` is the kind of the sweep that runs, `unknown` the unregistered partners
whose event was written, `lost` the words and ways lost and not yet rewritten, `purging` the partners of a
PURGE, `stopped` that the next ENABLE starts a RESUME sweep (R202). -/
structure Dir where
  txns : List DirTxn
  nextId : Nat
  pointers : Tab Nat
  sweep : Option Nat
  purging : List Nat
  unknown : List Nat
  lost : List Nat
  stopped : Bool
  /-- The next set that the sweep in progress reads (R199). -/
  sweepNext : Nat
  /-- A RESUME sweep starts when the sweep in progress has ended (R199; log 155). -/
  resumeDue : Bool
  deriving DecidableEq, Repr

/-- The directory engine after reset (R202). -/
def Dir.init : Dir :=
  { txns := [], nextId := 0, pointers := [], sweep := none, purging := [], unknown := [], lost := [], stopped := false
    sweepNext := 0, resumeDue := false }

/-- The states of the loader (R315). -/
inductive LoadState where
  | idle | header | frames | verify | done | failed | fallback
  deriving DecidableEq, Repr

/-- A SHA-256 in progress: the chaining value, the bytes of the block not yet full, the bytes hashed. -/
structure Hash where
  chain : List Nat
  tail : List Byte
  count : Nat
  deriving DecidableEq, Repr

/-- The configuration loader (spec/12). `asker` and `cmd` are the command's source and value; `set` is the PANEL_SET of
an accepted header, 0 while there is none; `written` the frames written by the load; `ended` the digest of an end record
that was taken; `abort` an ABORT that waits for the record boundary, `stop` no further attempt of a boot load; `buf` the
bytes that a port or the chain has delivered and no record has taken; `asked` bytes of a HOST stream asked for; `nextSeq`
the next SEG_SEQ, `begun` a segment was taken; `sending` the CHAIN_MASK and SELVEDGE of a CHAIN_SEND; `imageEnd` a SYNC mismatch has
ended the chain image of the attempt. -/
structure Loader where
  lstate : LoadState
  result : Nat
  boot : Bool
  attempt : Nat
  source : Nat
  selvedge : Bool
  defaulted : Bool
  slot : Nat
  asker : Source
  cmd : Nat
  preamble : Bool
  preambleBad : Bool
  chainImage : Bool
  port : Nat
  partner : Nat
  addr : Nat
  set : Nat
  count : Nat
  signed : Bool
  length : Nat
  frames : Nat
  written : Tab Bool
  hash : Hash
  ended : Option (List Byte)
  sigRec : List Byte
  abort : Bool
  stop : Bool
  buf : List Byte
  asked : Nat
  nextSeq : Nat
  begun : Bool
  sending : Option (Nat × Bool)
  imageEnd : Bool
  deriving DecidableEq, Repr

/-- The loader after reset (R316, R336). -/
def Loader.init : Loader :=
  { lstate := .idle, result := 0, boot := false, attempt := 0, source := 0, selvedge := false, defaulted := false
    slot := 0, asker := ⟨0x23, 0⟩, cmd := 0, preamble := false, preambleBad := false, chainImage := false, port := 0
    partner := 0, addr := 0, set := 0, count := 0, signed := false, length := 0, frames := 0, written := []
    hash := ⟨[], [], 0⟩, ended := none, sigRec := [], abort := false, stop := false, buf := [], asked := 0, nextSeq := 0
    begun := false, sending := none, imageEnd := false }

/-- A bank group under the MEMORY engine (R459): banks of its range ended, the next row of the bank in test, whether a
slice holds that bank, when the last slice ended. -/
structure TestGroup where
  ended : Nat
  row : Nat
  slice : Bool
  last : Option Nat
  deriving DecidableEq, Repr

/-- A group before its first slice. -/
def TestGroup.none : TestGroup := ⟨0, 0, false, Option.none⟩

/-- The self-test engines (spec/18). States are the codes of R470; `aborting` waits for the slices in progress; `panels`
the panels in TEST; `laneCut`
some lanes ended ABORTED. -/
structure SelfTest where
  memory : Nat
  logic : Nat
  lane : Nat
  fuse : Nat
  first : Nat
  count : Nat
  destructive : Bool
  aborting : Bool
  groups : Tab TestGroup
  panels : Nat
  set : Nat
  tile : Bool
  laneCut : Bool
  deriving DecidableEq, Repr

/-- Self-test after reset (R467). -/
def SelfTest.init : SelfTest :=
  { memory := 0, logic := 0, lane := 0, fuse := 0, first := 0, count := 0, destructive := false, aborting := false
    groups := [], panels := 0, set := 0, tile := false, laneCut := false }

/-- A packet between a port and its fabric shim (R272): its kind, link, partner and tag, whether its sender waits for a
completion, its bytes, whether the loss of its link cut it short (R276). -/
structure ShimPacket where
  kind : Nat
  link : Nat
  partner : Nat
  tag : Nat
  nonPosted : Bool
  bytes : List Byte
  cut : Bool
  deriving DecidableEq, Repr

/-- A port's fabric shim (R271): its FIFOs toward the panel and toward the port, and whether a discard was recorded since the
panel last ran (R274). -/
structure Shim where
  rx : List ShimPacket
  tx : List ShimPacket
  dropped : Bool
  deriving DecidableEq, Repr

/-- A shim with nothing held. -/
def Shim.init : Shim := ⟨[], [], false⟩

/-- An error in a link's standard error registers: 1 AER Poisoned TLP Received (R267), 2 CXL RAS (R266); the severity register in
force, and the fields of the message for the header log. -/
structure ErrRec where
  link : Nat
  kind : Nat
  severity : Nat
  header : List Nat
  deriving DecidableEq, Repr

/-- The thermal sequencer (spec/15), in the AON domain. `sampled` lists the tiers whose sensors have a reading; `up`, `down` and `lit`
are the dwell counts and level flags of R396 by level × 256 + sensor; `apart` the consecutive samples by which a site's inferred
value exceeded its reading by more than 8 °C; `faulted` the thermistors in fault and `good` their samples in range; the
counts of INLET_HIGH and of COOLANT_OK; `coolantOk` the confirmed level of the pin. -/
structure Thermal where
  sampled : List Nat
  up : Tab Nat
  down : Tab Nat
  lit : Tab Bool
  apart : Tab Nat
  faulted : List Nat
  good : Tab Nat
  inletHigh : Bool
  inletUp : Nat
  inletDown : Nat
  coolantOk : Bool
  coolantLow : Nat
  coolantHigh : Nat
  coolantLost : Bool
  pwrOff : Bool
  tripped : Bool
  deriving DecidableEq, Repr

/-- The thermal sequencer after POR (R409). -/
def Thermal.init : Thermal :=
  { sampled := [], up := [], down := [], lit := [], apart := [], faulted := [], good := [], inletHigh := false
    inletUp := 0, inletDown := 0, coolantOk := false, coolantLow := 0, coolantHigh := 0, coolantLost := false
    pwrOff := false, tripped := false }

/-- The orderly-stop sequencer (R403): the step in progress (0 none, else 3, 4 or 5), the cause, and t0. -/
structure Stop where
  step : Nat
  cause : Nat
  began : Nat
  deriving DecidableEq, Repr

/-- A commit group of the NV engine (R424): its kind is 0 the stop save, 1 the SEQ reserve, 2 the fray records, 3 the fray state,
4 the mend summary, 5 a journal entry, 6 firmware; its pairs with their data; and when it began. -/
structure NvJob where
  kind : Nat
  pairs : List (Nat × Nat)
  began : Nat
  deriving DecidableEq, Repr

/-- The NV store and its engine (R421–R425): slots of 256 bits by pair × 2 + slot, the group in progress, the work that
waits, and STOP_SAVE_DONE. -/
structure Nv where
  slots : Tab Nat
  job : Option NvJob
  waits : List NvJob
  saved : Bool
  deriving DecidableEq, Repr

/-- The cycle tracker of an interface (R418), in 1/16 °C. -/
structure Fray where
  valid : Bool
  down : Bool
  peak : Int
  ext : Int
  deriving DecidableEq, Repr

/-- Bond wear (spec/16): the trackers and the mend map entries that differ from 0x00, by interface × 2^17 + group. -/
structure Wear where
  fray : Tab Fray
  mend : Tab Nat
  deriving DecidableEq, Repr

/-- A fuse write in progress (R376): what it programs (0 the life cycle, 1–8 a key word, 9 revocation, 10 MIN_SVN, 11
SEC_PIN_MASK, 12 a word named by JTAG, 13 life-cycle bits by JTAG), the target of kind 12, the value, and its entry and answer. -/
structure FuseOp where
  kind : Nat
  addr : Nat
  value : Nat
  answer : Option JRec
  deriving DecidableEq, Repr

/-- The fuses (R374, R375): three copies of six life-cycle bits (bit 3b + c), key words 0–7 (hash, CRC-16 in bits 271:256, COMMIT
in bit 272), revocation bits, MIN_SVN, SEC_PIN_MASK, and the words the spec does not name, by JTAG address. -/
structure Fuses where
  life : Nat
  keys : Tab Nat
  revoked : Nat
  minSvn : Nat
  secPins : Nat
  other : Tab Nat
  deriving DecidableEq, Repr

/-- The security engine and the management core's start (spec/14). `keys`, `revoked` and `minSvn` are what the boot ROM latched; `window` the
staging window, which is the management core's SRAM; `windowBad` an uncorrectable error in it; `sessions` the secured sessions by
source, true once FINISH has passed; `trap` an unhandled precise trap, `dead` the watchdog has expired. -/
structure Sec where
  fuses : Fuses
  keys : Tab Nat
  revoked : Nat
  minSvn : Nat
  op : Option FuseOp
  jtagFuse : Nat
  challenge : List Byte
  trngBad : Bool
  /-- The life-cycle code from which the identity key in force was derived (R379, R386). -/
  identity : Option Nat
  window : Tab Byte
  closed : Bool
  verifying : Bool
  digest : List Byte
  svn : Nat
  result : Nat
  lastStatus : Nat
  sessions : List (Source × Bool)
  trap : Bool
  dead : Bool
  deriving DecidableEq, Repr

/-- What the power manager last read of a regulator (R437). -/
structure Regulator where
  vout : Nat
  iout : Nat
  temp : Nat
  status : Nat
  deriving DecidableEq, Repr

/-- Supplies, clocks and the PMBus host (spec/17). `inRange` and `removed` list rail codes; `setNow` the VCC_CORE setpoint in force;
`unread` and `badMode` the map entries whose VOUT_MODE has not been read and is not ULINEAR16; `raw` the panel powers with
k = 1; `highNoted` and `lowSince` for POWER_HIGH; `drifted` the process monitors reported; `relock` the FCLKs in a
commanded relock; `clkUp` the domains whose start has been seen; `calib` the temperatures at the PLLs' last band calibration (R445);
`volts` the rail monitors' last conversions in mV (R452). -/
structure Power where
  inRange : List Nat
  removed : List Nat
  memcfgLost : Bool
  refLost : Bool
  setNow : Nat
  regs : Tab Regulator
  unread : List Nat
  badMode : List Nat
  raw : Tab Nat
  highNoted : Bool
  lowSince : Option Nat
  drifted : List Nat
  aonTrim : Nat
  relock : List Nat
  clkUp : List Nat
  calib : List (Nat × Int)
  volts : List Nat
  deriving DecidableEq, Repr

/-- The power manager after POR. -/
def Power.init : Power :=
  { inRange := [], removed := [], memcfgLost := false, refLost := false, setNow := 750, regs := [], unread := []
    badMode := [], raw := [], highNoted := false, lowSince := none, drifted := [], aonTrim := 0
    relock := [], clkUp := [], calib := [], volts := [] }

/-- A GPIO pin (R481): a hold window is open; the driver enable and level at the pad; the synchronised pad level. -/
structure Pin where
  hold : Bool
  drive : Bool
  level : Bool
  seen : Bool
  deriving DecidableEq, Repr

/-- Pins, eyelets and JTAG (spec/19): pins that differ from reset, frozen eyelets and their levels, the TAP's instruction and the captured data
register, the management core halted by CORE_DEBUG, the last time SYNC_TIME was latched. -/
structure Pins where
  gpio : Tab Pin
  frozen : List (Nat × Bool)
  ir : Nat
  halted : Bool
  syncAt : Option Nat
  deriving DecidableEq, Repr

/-- A request held by a transport or being served (R347): its source, opcode, TAG and body, whether a reserved bit of its
header is set (R6), and the MCTP message tag that its response carries (R351). -/
structure SalynReq where
  src : Source
  op : Nat
  tag : Nat
  body : List Byte
  badHead : Bool
  mtag : Nat
  deriving DecidableEq, Repr

/-- A request accepted and not yet answered, kept in acceptance order: the object it names, whether firmware is to reply, whether it
repeats an earlier one (R349), when it was accepted, `reply` once its response is ready, the status that its checks gave at
acceptance (R14), whether a row made it and not a message, and whether its response waits for its journal entry (R363). -/
structure OpenReq where
  req : SalynReq
  idx : Nat
  sub : Nat
  toFirmware : Bool
  again : Bool
  time : Nat
  reply : Option Out
  verdict : Status
  direct : Bool
  journal : Bool
  deriving DecidableEq, Repr

/-- An MCTP message in reassembly (R351): its medium, source EID, tag with its owner bit, the next sequence number, the bytes so
far. -/
structure Part where
  medium : Nat
  eid : Nat
  tag : Nat
  next : Nat
  bytes : List Byte
  deriving DecidableEq, Repr

/-- A request kept for repeats (R349): source, tag, opcode, SHA-256 of its body, its response once it has one, when accepted. -/
structure Answered where
  src : Source
  tag : Nat
  op : Nat
  digest : List Byte
  reply : Option (List Byte)
  time : Nat
  deriving DecidableEq, Repr

/-- An IPv4 datagram in reassembly (R355): source address, identification, the pieces so far, the length once known, when begun. -/
structure Frag where
  ip : Nat
  id : Nat
  pieces : List (Nat × List Byte)
  total : Option Nat
  began : Nat
  deriving DecidableEq, Repr

/-- A notify target's queue (R368): pending records with the time each was delivered, those lost since the last NOTIFY, its tag count,
and the unacknowledged NOTIFY with its resends. -/
structure Target where
  records : List (Nat × Nat)
  lost : Nat
  tag : Nat
  sent : Option (Nat × List Byte × Nat)
  deriving DecidableEq, Repr

/-- A notify target with nothing pending. -/
def Target.init : Target := { records := [], lost := 0, tag := 0, sent := none }

/-- The Salyn engine (spec/13): requests held by transports 1–3, the transport the rotation takes next, requests not yet
answered, answered ones, transport settings written and not yet in force, notify targets, MCTP endpoint IDs by medium (1 I3C,
128 + first lane a link), messages in reassembly. -/
structure Salyn where
  held : Tab (List SalynReq)
  turn : Nat
  accepted : List OpenReq
  done : List Answered
  settings : List (Nat × Nat)
  targets : Tab Target
  eids : Tab Nat
  parts : List Part
  /-- Datagrams in reassembly (R355). -/
  frags : List Frag
  /-- The dynamic address of the I3C controller (R368). -/
  controller : Nat
  deriving DecidableEq, Repr

/-- The Salyn engine after reset (R370). -/
def Salyn.init : Salyn :=
  { held := [], turn := 1, accepted := [], done := [], settings := [], targets := [], eids := [], parts := []
    frags := [], controller := 0 }

/-- A publication (R332): epoch, digest, and the parts it was computed from. -/
structure Publication where
  epoch : Nat
  digest : List Byte
  slots : List (List Byte)
  settings : List Byte
  firmware : List Byte
  deriving DecidableEq, Repr

structure State where
  dev : Dev
  jrn : Journal
  /-- The panels 0–31 that differ from their reset value. -/
  panels : Tab Panel
  /-- Queue arrivals raised and not yet presented: queue, panel, slot, FRESH (R83). -/
  arrivals : List (Nat × Nat × Nat × Bool)
  links : Tab Link
  mem : Mem
  qm : Qm
  throttle : Throttle
  /-- Clock domains whose PLL has lost lock (R442). -/
  clkLost : List Nat
  /-- The last reset was BASE_WARM, so MEM runs through BOOT and AWAIT_FW (R442). -/
  memKept : Bool
  /-- The life-cycle state in force, latched at COLD reset and POR (R375). -/
  lifecycle : Nat
  /-- A BASE_WARM reset is in progress, from its entry to its release (R85, R417). -/
  warmRuns : Bool
  ddr : Ddr
  dir : Dir
  lanes : Tab Lane
  /-- Lanes owned by self-test (R246, R465). -/
  testLanes : List Nat
  /-- PORT0 presents the boot function (R260). -/
  bootFn : Bool
  ld : Loader
  st : SelfTest
  shims : Tab Shim
  /-- The configuration dwords that the device's functions hold (R259), by link × 8,192 + function × 4,096 + offset. -/
  cfg : Tab Nat
  /-- The HDM decoder registers (R263), by link × 32 + decoder × 8 + register. -/
  hdm : Tab Nat
  /-- The CXL RAS severity register of a link (R266). -/
  ras : Tab Nat
  /-- What was written to the other registers of the CXL blocks (R259), by link × 2^17 + offset. -/
  block : Tab Nat
  /-- Errors recorded in a link's standard error registers. -/
  errLog : List ErrRec
  /-- The IDE keys held (R387): link × 32 + stream × 4 + key set × 2 + direction, and the key. -/
  ideKeys : Tab Nat
  /-- The bitstream public keys in force (R385). -/
  bsKeys : Tab (List Byte)
  th : Thermal
  stop : Stop
  nv : Nv
  wear : Wear
  sec : Sec
  pwr : Power
  pins : Pins
  sal : Salyn
  pub : Publication
  /-- The dictionary registers that differ from their reset value, keyed by index × 256 + subindex. -/
  reg : Tab Nat
  /-- The model's own counter of free values drawn (log 1). -/
  freeCount : Nat
  out : List Out
  /-- Commands whose T0 requester waits at the memory tier, with its owner code, oldest first (R107, R108, R111; log 146). -/
  stalled : List (Nat × Instr)
  pending : List Instr
  deriving DecidableEq, Repr

/-- The device as POR leaves it (R370). -/
def Dev.init : Dev :=
  { state := .off, stopAsserted := false, aonTime := 0, publishDue := true, evtLog := [], evtCount := 0
    evtHolds := [], evtLost := 0, held := false, resetLow := false, resetDue := [] }

/-- The journal as POR leaves it (R363, R370). -/
def Journal.init : Journal :=
  { ring := [], count := 0, seq := 0, reserve := 0, lost := 0, holds := [], waiting := [], bootLost := []
    copied := 0, copyHeld := false }

/-- No press-level action is in force. -/
def Throttle.none : Throttle := ⟨false, false, false⟩

/-- The NV store as shipped: every slot reads as `nvDefault` gives it (log 19). -/
def Nv.init : Nv := { slots := [], job := none, waits := [], saved := false }

/-- The fuses as shipped: devices leave the factory in DEVELOP (R374), with nothing else programmed (log 44). -/
def Fuses.init : Fuses := { life := 511, keys := [], revoked := 0, minSvn := 0, secPins := 0, other := [] }

/-- The security engine after a reset, its fuses apart. -/
def Sec.init (f : Fuses) : Sec :=
  { fuses := f, keys := [], revoked := 0, minSvn := 0, op := none, jtagFuse := 0, challenge := [], trngBad := false
    identity := none
    window := [], closed := false, verifying := false, digest := [], svn := 0, result := 0, lastStatus := 0
    sessions := [], trap := false, dead := false }

/-- Pins and TAP after POR: IDCODE is the instruction of Test-Logic-Reset (R489). -/
def Pins.init : Pins := { gpio := [], frozen := [], ir := 1, halted := false, syncAt := none }

/-- No publication has been made; the parts read as zeros (log 45). -/
def Publication.init : Publication :=
  { epoch := 0, digest := List.replicate 32 0, slots := [], settings := List.replicate 32 0
    firmware := List.replicate 32 0 }

/-- The machine right after reset: POR is asserted, so the device is OFF with everything at its POR value (R34, R446); the NV
store and the fuses are as shipped. POR_RELEASE takes it to AON. -/
def State.reset : State :=
  { dev := Dev.init, jrn := Journal.init, panels := [], arrivals := [], links := [], mem := Mem.init, qm := Qm.init
    throttle := Throttle.none, clkLost := [], memKept := false, lifecycle := 2, warmRuns := false, ddr := Ddr.init
    dir := Dir.init, lanes := [], testLanes := [], bootFn := false, ld := Loader.init, st := SelfTest.init, shims := []
    cfg := [], hdm := [], ras := [], block := [], errLog := [], ideKeys := [], bsKeys := [], th := Thermal.init, stop := ⟨0, 0, 0⟩, nv := Nv.init
    wear := ⟨[], []⟩, sec := Sec.init Fuses.init, pwr := Power.init, pins := Pins.init, sal := Salyn.init
    pub := Publication.init, reg := [], freeCount := 0, out := [], stalled := [], pending := [] }

end Sys2Proof.Machine
end

