-- ==== Sys2Proof/Machine/Tab.lean ====
section
/-! DEFINITION. Reading and writing sparse tables in their one canonical form. -/

namespace Sys2Proof

variable {α : Type}

/-- The value at key `k`; `d k` where the table lists none. -/
def Tab.look (d : Nat → α) : Tab α → Nat → α
  | [], k => d k
  | (a, x) :: t, k => if k = a then x else if k < a then d k else Tab.look d t k

/-- The entries whose key lies above `k`. -/
def Tab.above : Tab α → Nat → Tab α
  | [], _ => []
  | (a, x) :: t, k => if k < a then (a, x) :: t else Tab.above t k

/-- Write `v` at key `k`. Writing what an unlisted key reads as removes the entry, so equal
tables are equal data. -/
def Tab.put [DecidableEq α] (d : Nat → α) : Tab α → Nat → α → Tab α
  | [], k, v => if v = d k then [] else [(k, v)]
  | (a, x) :: t, k, v =>
    if k < a then (if v = d k then (a, x) :: t else (k, v) :: (a, x) :: t)
    else if k = a then (if v = d k then Tab.above t k else (k, v) :: Tab.above t k)
    else (a, x) :: Tab.put d t k v

/-- Every key of the table lies above `k`. -/
def Tab.allAbove (k : Nat) : Tab α → Bool
  | [] => true
  | (a, _) :: t => decide (k < a) && Tab.allAbove k t

/-- The canonical form: keys strictly rising, no entry equal to its default. -/
def Tab.wf [DecidableEq α] (d : Nat → α) : Tab α → Bool
  | [] => true
  | (a, x) :: t => Tab.allAbove a t && !decide (x = d a) && Tab.wf d t

/-- Keep the entries whose key passes the test: what a reset does to a bank of registers. -/
def Tab.keep (p : Nat → Bool) : Tab α → Tab α
  | [] => []
  | (a, x) :: t => if p a then (a, x) :: Tab.keep p t else Tab.keep p t

end Sys2Proof
end

