-- ==== Sys2Proof/Machine/Ops.lean ====
section
/-! DEFINITION. The named operations every command uses: dictionary registers, counters, event records (R28, R29),
the holds of the change journal (R362), free values, and what the device sends. -/

namespace Sys2Proof.Machine

/-- The codes of the device states (R33). -/
def DevState.code : DevState → Nat
  | .off => 0 | .aon => 1 | .boot => 2 | .awaitFw => 3 | .managed => 4
  | .operational => 5 | .quiescing => 6 | .safeStop => 7 | .fault => 8

/-- The status codes of R343. -/
def Status.code : Status → Nat
  | .ok => 0x00 | .noObject => 0x11 | .noSubindex => 0x12 | .readOnly => 0x21 | .writeOnly => 0x22
  | .typeMismatch => 0x31 | .lengthMismatch => 0x32 | .valueRange => 0x33 | .lengthExceeds => 0x34
  | .stateConflict => 0x41 | .busyInTest => 0x42 | .ownerMismatch => 0x43
  | .lifecycleDenied => 0x51 | .awaitingFirmware => 0x52 | .internal => 0x61

/-- The dictionary register `idx:sub` (R36 and every object table). -/
def State.rd (s : State) (idx sub : Nat) : Nat := Tab.look objDefault s.reg (objKey idx sub)

/-- Store a value in the dictionary register `idx:sub`; a change to a covered setting makes a publication fall due (R27,
R365). -/
def State.wr (s : State) (idx sub v : Nat) : State :=
  { s with
    reg := Tab.put objDefault s.reg (objKey idx sub) v
    dev := { s.dev with publishDue := s.dev.publishDue || (covered idx sub && s.rd idx sub != v) } }

/-- Add `n` to a saturating U32 counter object (R373). -/
def State.bump (s : State) (idx sub n : Nat) : State := s.wr idx sub (satAdd maxU32 (s.rd idx sub) n)

/-- Add `n` to a U64 counter object, which saturates as the others do (R144, R179, R204, R224). -/
def State.count64 (s : State) (idx sub n : Nat) : State :=
  s.wr idx sub (satAdd (2 ^ 64 - 1) (s.rd idx sub) n)

/-- Record something the device sends (log 7). -/
def State.emit (s : State) (o : Out) : State := { s with out := s.out ++ [o] }

/-- The next free value (log 1). -/
def State.freeNow (s : State) : Nat := Config.freeValue s.freeCount

/-- Move on to the next free value. -/
def State.drawn (s : State) : State := { s with freeCount := s.freeCount + 1 }

/-- An event source with nothing waiting. -/
def EvtHold.empty : EvtHold := ⟨[], 0⟩

/-- The hold of an event source. -/
def State.hold (s : State) (source : Nat) : EvtHold :=
  Tab.look (fun _ => EvtHold.empty) s.dev.evtHolds source

/-- A record enters its source's hold; a full hold (8 records) loses it and counts (R29). -/
def EvtHold.post (h : EvtHold) (subsys event inst : Nat) : EvtHold :=
  if h.recs.length < 8 then ⟨h.recs ++ [⟨subsys, event, inst % 65536, h.lost⟩], 0⟩
  else ⟨h.recs, h.lost + 1⟩

/-- How many records are lost when a record is posted now (R29). -/
def EvtHold.loses (h : EvtHold) : Nat := if h.recs.length < 8 then 0 else 1

/-- A subsystem raises an event at the source `source` (R29). EVENT_LOST_TOTAL counts a lost record (R36). -/
def State.eventAt (s : State) (source subsys event inst : Nat) : State :=
  { s with dev := { s.dev with
      evtHolds := Tab.put (fun _ => EvtHold.empty) s.dev.evtHolds source
        ((s.hold source).post subsys event inst)
      evtLost := satAdd maxU32 s.dev.evtLost (s.hold source).loses } }

/-- A subsystem raises an event under its own code (R19). -/
def State.event (s : State) (subsys event inst : Nat) : State := s.eventAt subsys subsys event inst

/-- The source key of a panel's user event port, a separate source (R61). -/
def userPort (panel : Nat) : Nat := 0x100 + panel

/-- An internal journal source with nothing waiting. -/
def JHold.empty : JHold := ⟨[], false⟩

/-- The hold of an internal journal source (R362). -/
def State.jhold (s : State) (code : Nat) : JHold :=
  Tab.look (fun _ => JHold.empty) s.jrn.holds code

/-- Set the hold of an internal journal source. -/
def State.setJhold (s : State) (code : Nat) (h : JHold) : State :=
  { s with jrn := { s.jrn with holds := Tab.put (fun _ => JHold.empty) s.jrn.holds code h } }

/-- An internal source hands an entry to the journal: held, or lost when 8 wait, with one JOURNAL_LOST event at the
first loss of a run (R362). -/
def State.journalInternal (s : State) (r : JRec) : State :=
  let h := s.jhold r.source.code
  if h.recs.length < 8 then s.setJhold r.source.code ⟨h.recs ++ [r], h.lossBefore⟩
  else
    let s1 := { s with jrn := { s.jrn with lost := satAdd maxU32 s.jrn.lost 1 } }
    let s2 := s1.setJhold r.source.code ⟨h.recs, true⟩
    if h.lossBefore then s2 else s2.event 0x10 0x02 r.source.code

/-- Firmware runs from the transition to MANAGED until the next COLD or BASE_WARM reset or POR (R357). -/
def State.fwRuns (s : State) : Bool :=
  !s.dev.held &&
  match s.dev.state with
  | .managed | .operational | .quiescing | .safeStop => true
  | _ => false

/-- Change the digest-covered content: a publication falls due (R27). -/
def State.digestChange (s : State) : State := { s with dev := { s.dev with publishDue := true } }

/-- Move the device to a state and write STATE_CHANGE (R34, R30). -/
def State.goto (s : State) (d : DevState) : State :=
  State.event { s with dev := { s.dev with state := d } } 0x00 0x01
    (256 * s.dev.state.code + d.code)

/-- STOP_CAUSE or FAULT_CAUSE, and LAST_CAUSE (R34, R36). -/
def State.cause (s : State) (event c : Nat) : State := (s.event 0x00 event c).wr 0x1010 4 c

/-- The link that starts at a lane. -/
def State.link (s : State) (lane : Nat) : Link := Tab.look (fun _ => Link.down) s.links lane

/-- Store the link that starts at a lane. -/
def State.setLink (s : State) (lane : Nat) (x : Link) : State :=
  { s with links := Tab.put (fun _ => Link.down) s.links lane x }

/-- Whether the link that starts at a lane is ACTIVE. -/
def State.linkActive (s : State) (lane : Nat) : Bool := (s.link lane).active

end Sys2Proof.Machine
end

