-- ==== Sys2Proof/Machine/Rs.lean ====
section
/-! DEFINITION. Reed–Solomon codes over GF(2^m): the line code of attached memory (R214) and the lane code of Lace (R279). -/

namespace Sys2Proof

/-- A code: the width and polynomial of its field, the power of its root that is the first root of the generator, and its check
symbols. -/
structure RsCode where
  width : Nat
  poly : Nat
  first : Nat
  checks : Nat

/-- The product of two field elements. -/
def RsCode.mul (c : RsCode) (x y : Nat) : Nat := gfMul c.width c.poly c.width x y

/-- The root to the power `n`. -/
def RsCode.root (c : RsCode) (n : Nat) : Nat := gfShift c.width c.poly n 1

/-- The inverse of a field element: the product of its squares up to the last. -/
def RsCode.inv (c : RsCode) (x : Nat) : Nat :=
  ((List.range (c.width - 1)).foldl (fun (p : Nat × Nat) _ =>
    withNat (c.mul p.1 p.1) fun q => (q, c.mul p.2 q)) (x, 1)).2

/-- The value of a polynomial at a point, highest coefficient first. -/
def RsCode.eval (c : RsCode) (x : Nat) (l : List Nat) : Nat :=
  l.foldl (fun acc a => withNat (c.mul acc x ^^^ a) fun r => r) 0

/-- The syndromes of a word, its symbols from the highest position (R214, R279). -/
def RsCode.syndromes (c : RsCode) (l : List Nat) : List Nat :=
  (List.range c.checks).map (fun i => c.eval (c.root (c.first + i)) l)

/-- The product of a polynomial with x + `a`, lowest coefficient first. -/
def RsCode.timesRoot (c : RsCode) (a : Nat) (l : List Nat) : List Nat :=
  List.zipWith (· ^^^ ·) (0 :: l) (l.map (c.mul a) ++ [0])

/-- The polynomial whose roots are `l`, lowest coefficient first. -/
def RsCode.fromRoots (c : RsCode) (l : List Nat) : List Nat := l.foldl (fun p a => c.timesRoot a p) [1]

/-- The generator, lowest coefficient first. -/
def RsCode.generator (c : RsCode) : List Nat := c.fromRoots ((List.range c.checks).map (fun i => c.root (c.first + i)))

/-- One step of the division by the generator: `r` the remainder, highest coefficient first, `g` the generator without its
leading 1, highest first. -/
def RsCode.divideStep (c : RsCode) (g r : List Nat) (a : Nat) : List Nat :=
  let f := a ^^^ r.headD 0
  List.zipWith (· ^^^ ·) (r.drop 1 ++ [0]) (g.map (c.mul f))

/-- The check symbols of a message, both from the highest position. -/
def RsCode.checkSymbols (c : RsCode) (msg : List Nat) : List Nat :=
  msg.foldl (c.divideStep (c.generator.reverse.drop 1)) (List.replicate c.checks 0)

/-- The values at the positions `ps` whose syndromes are `s`, where they have values there: each value is taken out by the
polynomial that is 0 at every other position. -/
def RsCode.valuesAt (c : RsCode) (ps s : List Nat) : List Nat :=
  ps.map (fun p =>
    let x := c.root p
    let m := c.fromRoots ((ps.filter (· ≠ p)).map c.root)
    let top := (List.zipWith c.mul m s).foldl (· ^^^ ·) 0
    c.mul top (c.inv (c.mul (c.root (c.first * p)) (c.eval x m.reverse))))

/-- The syndromes of the values `vs` at the positions `ps`. -/
def RsCode.syndromesAt (c : RsCode) (ps vs : List Nat) : List Nat :=
  (List.range c.checks).map (fun i =>
    (List.zipWith (fun p v => c.mul v (c.root ((c.first + i) * p))) ps vs).foldl (· ^^^ ·) 0)

/-- The first discrepancy of a locator at step `n` of Berlekamp and Massey. -/
def RsCode.discrepancy (c : RsCode) (s loc : List Nat) (n : Nat) : Nat :=
  ((List.range loc.length).map (fun i => if i ≤ n then c.mul (loc.getD i 0) (s.getD (n - i) 0) else 0)).foldl (· ^^^ ·) 0

/-- The sum of two polynomials, lowest coefficient first. -/
def polyAdd : List Nat → List Nat → List Nat
  | [], l => l
  | l, [] => l
  | a :: t, b :: u => (a ^^^ b) :: polyAdd t u

/-- Berlekamp and Massey's search of the shortest locator: the locator and its length so far, the one before, its discrepancy
and how long ago. -/
def RsCode.locate (c : RsCode) (s : List Nat) : Nat → Nat → List Nat → Nat → List Nat → Nat → Nat → List Nat × Nat
  | 0, _, loc, len, _, _, _ => (loc, len)
  | k + 1, n, loc, len, prev, b, m =>
    let d := c.discrepancy s loc n
    if d = 0 then c.locate s k (n + 1) loc len prev b (m + 1)
    else
      let f := c.mul d (c.inv b)
      let next := polyAdd loc (List.replicate m 0 ++ prev.map (c.mul f))
      if 2 * len ≤ n then c.locate s k (n + 1) next (n + 1 - len) loc d 1
      else c.locate s k (n + 1) next len prev b (m + 1)

/-- The positions and values of at most half as many errors as there are check symbols, in a word of `n` symbols, from its
syndromes; none where there is no such pattern. -/
def RsCode.errors (c : RsCode) (n : Nat) (s : List Nat) : Option (List (Nat × Nat)) :=
  if s.all (· = 0) then some []
  else
    let l := c.locate s c.checks 0 [1] 0 [1] 1 1
    let ps := (List.range n).filter (fun p => c.eval (c.inv (c.root p)) l.1.reverse = 0)
    let vs := c.valuesAt ps s
    if 2 * l.2 ≤ c.checks && ps.length = l.2 && c.syndromesAt ps vs = s then some (ps.zip vs) else none

/-- A received word, its symbols from the highest position, with its errors corrected; none where it cannot be. -/
def RsCode.correct (c : RsCode) (l : List Nat) : Option (List Nat) :=
  (c.errors l.length (c.syndromes l)).map (fun es =>
    es.foldl (fun w e => w.modify (l.length - 1 - e.1) (· ^^^ e.2)) l)

end Sys2Proof
end

