-- ==== Sys2Proof/Machine/LaceLine.lean ====
section
/-! DEFINITION. What a lane of a Lace link carries (R229, R279–R281): codewords of the RS(544,514) code, the codeword control, the block
layout, the scrambler, Gray coding, precoding and the alignment marker. -/

namespace Sys2Proof.Machine

/-- The lane code (R279): RS(544,514) over GF(2^10). Field polynomial and first root are those of clause 91 (log 164). -/
def laceCode : RsCode := ⟨10, 0x409, 0, 30⟩

/-- A PAM4 level from two bits, Gray coded (R229). -/
def grayLevel (p : Nat) : Nat := p % 4 ^^^ p % 4 / 2

/-- The two bits of a level. -/
def grayBits (g : Nat) : Nat := g % 4 ^^^ g % 4 / 2

/-- 1/(1 + D) mod 4 precoding (R229), `last` the level sent before. -/
def precode : Nat → List Nat → List Nat
  | _, [] => []
  | last, g :: t => (4 + g - last) % 4 :: precode ((4 + g - last) % 4) t

/-- The receiver takes the precoding out (R229). -/
def unprecode : Nat → List Nat → List Nat
  | _, [] => []
  | last, p :: t => (p + last) % 4 :: unprecode p t

/-- The load of a lane's scrambler (R279): 0x7FFF_FFF0 plus its logical number. -/
def scramblerLoad (logical : Nat) : Nat := 0x7FFFFFF0 + logical

/-- The scrambler x^31 + x^28 + 1: the next bit and state (R279; log 164). -/
def scramblerStep (s : Nat) : Nat × Nat :=
  let b := flag (s.testBit 30 != s.testBit 27)
  (b, (2 * s + b) % 2 ^ 31)

/-- `n` scrambler bits, the first lowest, with the state after them. -/
def scramblerBits : Nat → Nat → Nat × Nat
  | 0, s => (0, s)
  | n + 1, s =>
    let r := scramblerBits n (scramblerStep s).2
    ((scramblerStep s).1 + 2 * r.1, r.2)

/-- FLIT_OFFSET of the block `n` of a link's byte stream (R279): where the first flit begins in it. -/
def flitOffset (n : Nat) : Nat := (256 - 640 * n % 256) % 256

/-- The 514 message symbols of a block (R279): the control, then the block scrambled from a state. -/
def messageSymbols (offset : Nat) (block : List Byte) (scr : Nat) : List Nat :=
  let m := offset % 256 + 2 ^ 20 * (leValue block ^^^ (scramblerBits 5120 scr).1)
  (List.range 514).map (fun i => m / 2 ^ (10 * i) % 2 ^ 10)

/-- A codeword (R279): the message symbols and then the 30 check symbols, in the order in which they are sent. -/
def codeword (offset : Nat) (block : List Byte) (scr : Nat) : List Nat :=
  messageSymbols offset block scr ++ laceCode.checkSymbols (messageSymbols offset block scr)

/-- The five PAM4 levels of a symbol, bits 1:0 first (R279). -/
def symbolLevels (v : Nat) : List Nat := (List.range 5).map (fun i => grayLevel (v / 4 ^ i))

/-- FLIT_OFFSET and block of a received codeword (R279, R280): none where it cannot be corrected. -/
def readCodeword (l : List Nat) (scr : Nat) : Option (Nat × List Byte) :=
  (laceCode.correct l).map (fun w =>
    let m := (w.take 514).foldr (fun a n => a + 2 ^ 10 * n) 0
    (m % 256, leBytes 640 (m / 2 ^ 20 ^^^ (scramblerBits 5120 scr).1)))

/-- The alignment marker of a lane (R281). -/
def markerBits (logical count : Nat) : Nat :=
  let v := 2 ^ 56 * 0xA5C33C5A0F96E187 + 2 ^ 52 * logical + 2 ^ 48 * (15 - logical) + 2 ^ 32 * (count % 2 ^ 16)
  v + crc16 (msbBits 104 (v / 2 ^ 16))

/-- The levels of a value of `n` bits (R281, R282): most significant bit first, two bits per level, Gray coded. -/
def bitLevels (n v : Nat) : List Nat := (List.range (n / 2)).map (fun i => grayLevel (v / 4 ^ (n / 2 - 1 - i)))

/-- The levels that a lane sends and the last of them before the next: precoded at 112 Gb/s (R229). -/
def lineLevels (rate last : Nat) (l : List Nat) : List Nat × Nat :=
  if rate = 10 then (precode last l, (precode last l).getLast?.getD last) else (l, last)

/-- A pair with its wires exchanged: each level is mirrored (R230). -/
def mirror (inverted : Bool) (l : List Nat) : List Nat := if inverted then l.map (fun g => (3 - g % 4)) else l

/-- What a receiver makes of arriving levels, the first of which came before those it takes (R229, R230): the pair's inversion undone and,
at 112 Gb/s, the precoding removed. -/
def heardLevels (rate : Nat) (inverted : Bool) (l : List Nat) : List Nat :=
  match mirror inverted l with
  | [] => []
  | last :: t => if rate = 10 then unprecode last t else t

/-- The value of Gray coded levels, the most significant bits first. -/
def levelBits (l : List Nat) : Nat := l.foldl (fun n g => 4 * n + grayBits g) 0

/-- The value that arriving levels carry and the polarity it is found at (R230): the first of the two at which it checks. -/
def heardValue (good : Nat → Bool) (rate : Nat) (l : List Nat) : Option (Nat × Bool) :=
  ([false, true].map (fun i => (levelBits (heardLevels rate i l), i))).find? (fun v => good v.1)

/-- The symbols of a codeword from its levels, five to a symbol, bits 1:0 first (R279): at most `n`. -/
def levelSymbols : Nat → List Nat → List Nat
  | 0, _ => []
  | n + 1, l => ((l.take 5).reverse.foldl (fun v g => 4 * v + grayBits g) 0) :: levelSymbols n (l.drop 5)

/-- The next bits of a PRBS13 sequence, the first most significant, with the state after them (R282: PRBS13Q; log 165). -/
def prbsBits : Nat → Nat → Nat → Nat × Nat
  | 0, v, x => (v, x)
  | n + 1, v, x =>
    let b := flag (((x.testBit 0 != x.testBit 1) != x.testBit 11) != x.testBit 12)
    prbsBits n (2 * v + b) ((2 * x + b) % 2 ^ 13)

/-- The training frame that a lane sends (R282): the fields of its own state, the pattern given. -/
def trainingFrame (index rateMax rateNow : Nat) (switch : Bool) (nonce request status pattern : Nat) : Nat :=
  let v := 2 ^ 448 * 0x3CA55AC3F00F0FF0 + 2 ^ 444 * index + 2 ^ 440 * rateMax + 2 ^ 436 * rateNow + 2 ^ 435 * flag switch
    + 2 ^ 416 * nonce + 2 ^ 400 * request + 2 ^ 384 * status + 2 ^ 16 * (pattern % 2 ^ 368)
  v + crc16 (msbBits 496 (v / 2 ^ 16))

/-- The bits that a lane sends in one microsecond at a Lace rate (R228). -/
def rateBits (rate : Nat) : Nat :=
  match rate with
  | 8 => 32000
  | 9 => 64000
  | 10 => 112000
  | _ => 0

end Sys2Proof.Machine
end

