-- ==== Sys2Proof/Machine/LaceTx.lean ====
section
/-! DEFINITION. The sending side of the Lace link (spec/11): flits and their header (R288), credits, sequence numbers and
the replay buffer (R296, R297), and completions on any link (R261, R293). -/

namespace Sys2Proof.Machine

/-- The port of a lane or link. -/
def portOf (lane : Nat) : Nat := lane / 16

/-- MODE of a port: 0 OFF, 1 PCIE, 2 CXL, 3 LACE (R255). -/
def State.portMode (s : State) (p : Nat) : Nat := bits (s.rd 0x5100 p) 31 30

/-- Whether a link runs the Lace link. -/
def State.isLace (s : State) (link : Nat) : Bool := s.portMode (portOf link) = 3

/-- A CXL link with port-based routing (R255, R268). -/
def State.pbrLink (s : State) (link : Nat) : Bool := s.portMode (portOf link) = 2 && (s.rd 0x5100 (portOf link)).testBit 27

/-- The SPID of the flits that the device sends on a link (R268): LINK_OWN_ID on a PBR link; no other link's carry one. -/
def State.spid (s : State) (link : Nat) : Nat := if s.pbrLink link then s.rd 0x5111 link else 0

/-- A word of a base SRAM whose read failed waits to be taken (R141; log 11). -/
def State.sramMarked (s : State) (sram : Nat) : Bool := s.mem.sramBad.contains sram

/-- The operation that takes a marked word of a base SRAM has acted on it. -/
def State.sramTaken (s : State) (sram : Nat) : State :=
  { s with mem := { s.mem with sramBad := s.mem.sramBad.erase sram } }

/-- Data leaves through a port: the first after an error in the port buffers is sent poisoned (R141; log 11). -/
def State.sendData (s : State) (poison : Bool) (o : Bool → Out) : State :=
  if s.sramMarked 1 then (s.sramTaken 1).emit (o true) else s.emit (o poison)

/-- A CXL.mem message is sent on a link; one for a lost link is discarded (R276). -/
def State.sendCxl (s : State) (link partner op line tag data : Nat) (poison : Bool) : State :=
  if !s.linkActive link then s
  else if op = 3 then s.sendData poison (.cxl link (s.spid link) partner op line tag data)
  else s.emit (.cxl link (s.spid link) partner op line tag data poison)

/-- Change the Lace state of a link. -/
def State.setLace (s : State) (link : Nat) (x : Lace) : State := s.setLink link { s.link link with lace := x }

/-- The header of a flit (R288). -/
def flitHeader (ty partner seq vc creditVc credits ackSeq : Nat) (ackValid nak : Bool) (len : Nat) : Nat :=
  len + 2 ^ 8 * flag nak + 2 ^ 9 * flag ackValid + 2 ^ 10 * ackSeq + 2 ^ 22 * (credits % 256) + 2 ^ 30 * creditVc
    + 2 ^ 33 * vc + 2 ^ 36 * seq + 2 ^ 48 * partner + 2 ^ 60 * ty

/-- A flit of 256 bytes: header, payload filled with zeros, CRC-64 (R288). -/
def flitBytes (header : Nat) (payload : List Byte) : List Byte :=
  let body := leBytes 8 header ++ (payload ++ List.replicate (240 - payload.length) 0)
  body ++ leBytes 8 (crc64 body)

/-- A count of a virtual channel. -/
def vcCount (t : Tab Nat) (vc : Nat) : Nat := Tab.look (fun _ => 0) t vc

/-- Set a count of a virtual channel. -/
def setVc (t : Tab Nat) (vc n : Nat) : Tab Nat := Tab.put (fun _ => 0) t vc n

/-- The header of the flit that a link sends next (R288, R296, R298): acknowledgement, valid once a flit was accepted, NAK where it is due,
and one VC's credit total. -/
def Lace.header (x : Lace) (ty partner seq vc len : Nat) : Nat :=
  flitHeader ty partner seq vc x.creditStep (vcCount x.freed x.creditStep) (if x.heard then (4095 + x.rxNext) % 4096 else 0)
    x.heard x.nakDue len

/-- The state of a link after a flit's header is made: CREDIT_VC steps on, what was accepted is reported, a due NAK is sent (R296–R298). -/
def Lace.stepped (x : Lace) : Lace := { x with creditStep := (x.creditStep + 1) % 8, unreported := 0, nakDue := false }

/-- The width that a WIDTH flit names (R289). -/
def widthNamed (ty : Nat) (payload : List Byte) : Option Nat :=
  if ty = 1 && leValue (payload.take 1) = 5 then some (leValue (slice payload 1 1)) else none

/-- A flit joins the byte stream (R280); where a WIDTH flit ends in it is kept, since the new width holds from the slot after (R303). -/
def State.putFlit (s : State) (link ty partner seq vc : Nat) (payload : List Byte) : State :=
  let x := (s.link link).lace
  let l := flitBytes (x.header ty partner seq vc payload.length) payload
  let y := { x.stepped with stream := x.stream ++ l }
  let z := match widthNamed ty payload with
    | some w => { y with widths := y.widths ++ [(y.stream.length, w)] }
    | none => y
  (s.setLace link z).emit (.flit link l)

/-- A NULL flit (R289): acknowledgement, NAK and credit fields only. None is sent while the transmitter dozes or is off (R301). -/
def State.sendNull (s : State) (link : Nat) : State :=
  let x := (s.link link).lace
  if x.tx = .dozing || x.tx = .off then s else s.putFlit link 0 (s.rd 0x5131 link) 0 0 []

/-- A flit joins the stream that every lane carries before the first striped slot (R285). -/
def State.ownFlit (s : State) (link ty : Nat) (payload : List Byte) : State :=
  let x := (s.link link).lace
  let l := flitBytes (x.header ty (s.rd 0x5131 link) 0 0 payload.length) payload
  (s.setLace link { x.stepped with own := x.own ++ l }).emit (.flit link l)

/-- A receive buffer of a virtual channel is freed: CREDITS counts it, modulo 256 (R288, R296). VC0 credits are withheld in QUIESCING
(R292). -/
def State.freeBuffer (s : State) (link vc : Nat) : State :=
  let x := (s.link link).lace
  if vcCount x.held vc ≤ (if vc = 0 then x.withheld else 0) then s
  else if vc = 0 && s.dev.state = .quiescing then s.setLace link { x with withheld := x.withheld + 1 }
  else
    s.setLace link { x with
      held := setVc x.held vc (vcCount x.held vc - 1), freed := setVc x.freed vc ((vcCount x.freed vc + 1) % 256) }

/-- The receive buffers of a virtual channel that the device advertises (R296). -/
def vcBuffers (vc : Nat) : Nat := if vc < 2 then 64 else 8

/-- The payload of a CAP flit (R286). -/
def State.capPayload (s : State) (link : Nat) (ack start : Bool) : List Byte :=
  let x := (s.link link).lace
  let credits := (List.range 8).foldl (fun n v => n + (vcBuffers v - vcCount x.held v) * 2 ^ (16 * v)) 0
  leBytes 26 (0x01 + 0x01 * 2 ^ 8 + 2 ^ 16 * flag ack + 2 ^ 17 * flag start + 2 ^ 24 * x.rxWidth
    + 2 ^ 32 * (s.rd 0x5111 link % 4096) + 2 ^ 48 * x.rxNext + 2 ^ 64 * s.rd 0x5138 (portOf link) + 2 ^ 80 * credits)

/-- A CAP flit is sent on every lane of the exchange; the totals of freed buffers start again from it (R286, R287, R288). -/
def State.sendCap (s : State) (link : Nat) (ack start : Bool) : State :=
  let s1 := s.setLace link { (s.link link).lace with freed := [] }
  s1.ownFlit link 1 (s1.capPayload link ack start)

/-- Whether a flit takes a credit of its VC (R289). -/
def TxFlit.credited (f : TxFlit) : Bool := 2 ≤ f.ty

/-- Whether a link may send a flit now: one that takes a credit needs one (R296). -/
def Lace.mayTake (x : Lace) (f : TxFlit) : Bool := !f.credited || vcCount x.credit f.vc ≠ 0

/-- An RX_READY flit (R289). -/
def TxFlit.isReady (f : TxFlit) : Bool := f.ty = 1 && leValue (f.payload.take 1) = 4

/-- What the transmitter's power lets it send (R301, R302): RX_READY alone where a DOZE or OFF flit waits for its acknowledgement or the
transmitter for the partner's RX_READY; nothing while it sleeps. -/
def Lace.maySend (x : Lace) (f : TxFlit) : Bool :=
  match x.tx with
  | .awake => true
  | .dozing | .off => false
  | _ => f.isReady

/-- The flit to be sent next (R296): LINK, then VC1, then VC0 and VC2 to VC7 in rotation. -/
def Lace.pick (x : Lace) : Option TxFlit :=
  let q := x.sendq.filter x.maySend
  match q.find? (fun f => f.ty = 1) with
  | some f => some f
  | none =>
    match q.find? (fun f => f.vc = 1 && x.mayTake f) with
    | some f => some f
    | none =>
      ((List.range 8).map (fun k => (x.rotation + k) % 8)).findSome? (fun v =>
        q.find? (fun f => f.vc = v && f.vc ≠ 1 && x.mayTake f))

/-- Whether a link sends sequenced flits now: ACTIVE, and fewer than 128 unacknowledged (R297). -/
def State.laceSends (s : State) (link : Nat) : Bool :=
  (s.link link).active && (s.link link).lace.replay.length < 128

/-- Send what waits on a Lace link, up to `n` flits (R296, R297). -/
def State.pump (s : State) (link : Nat) : Nat → State
  | 0 => s
  | n + 1 =>
    let x := (s.link link).lace
    if s.laceSends link then
      match x.pick with
      | some f =>
        let y := { x with
          sendq := x.sendq.erase f
          rotation := if f.ty = 1 || f.vc = 1 then x.rotation else (f.vc + 1) % 8
          credit := if f.credited then setVc x.credit f.vc (vcCount x.credit f.vc - 1) else x.credit
          replay := x.replay ++ [(x.txNext, f)]
          txNext := (x.txNext + 1) % 4096 }
        ((s.setLace link y).putFlit link f.ty f.partner x.txNext f.vc f.payload).pump link n
      | none => s
    else s

/-- A flit whose header has POISON (bit 111), set (R291, R293). -/
def TxFlit.poisoned (f : TxFlit) : TxFlit :=
  { f with payload := leBytes f.payload.length (leValue f.payload ||| 2 ^ 111) }

/-- A sequenced flit is handed to a Lace link; the first WRITE or COMPLETION after an error in the port buffers is sent poisoned
(R141; log 11). -/
def State.sendFlit (s : State) (link : Nat) (f : TxFlit) : State :=
  let bad := s.sramMarked 1 && (f.ty = 2 || f.ty = 4)
  let s1 := if bad then s.sramTaken 1 else s
  let x := (s1.link link).lace
  (s1.setLace link { x with sendq := x.sendq ++ [if bad then f.poisoned else f] }).pump link 16

/-- The request header of R291. -/
def requestHeader (tag : Nat) (poison : Bool) (space op len addr : Nat) : Nat :=
  addr % 2 ^ 48 + 2 ^ 91 * len + 2 ^ 104 * op + 2 ^ 108 * space + 2 ^ 111 * flag poison + 2 ^ 112 * tag

/-- The completion header of R293. -/
def completionHeader (tag : Nat) (poison last : Bool) (status len off : Nat) : Nat :=
  2 ^ 78 * off + 2 ^ 91 * len + 2 ^ 108 * status + 2 ^ 110 * flag last + 2 ^ 111 * flag poison + 2 ^ 112 * tag

/-- The COMPLETION flits of a request (R293): 224 B each but the last, which has LAST. -/
def State.sendCompletions (s : State) (link tag status : Nat) (poison : Bool) (off : Nat) (l : List Byte) : Nat → State
  | 0 => s
  | n + 1 =>
    let here := l.take 224
    let last := l.length ≤ 224
    let f : TxFlit := ⟨4, 1, s.rd 0x5131 link,
      leBytes 16 (completionHeader tag poison last status here.length off) ++ here⟩
    let s1 := s.sendFlit link f
    if last then s1 else s1.sendCompletions link tag status poison (off + 224) (l.drop 224) n

/-- A completion to a link's partner: `status` 0 successful, 1 Unsupported Request, 4 Completer Abort. On a Lace link it
is sent as COMPLETION flits, with ABORT in place of Completer Abort (R292). A completion for a lost link is discarded
(R276). Data of a PCIe or CXL completion are sent poisoned after an error in the port buffers (R141; log 11). -/
def State.complete (s : State) (link tag status : Nat) (poison : Bool) (l : List Byte) : State :=
  if !((s.link link).active || (s.link link).lace.retraining) then s
  else if s.isLace link then
    s.sendCompletions link tag (if status = 4 then 2 else status) poison 0 (if status = 0 then l else []) 20
  else if l.isEmpty then s.emit (.completion link (s.spid link) tag status poison l)
  else s.sendData poison (fun b => .completion link (s.spid link) tag status b l)

/-- The WRITE flits of a posted write (R292): at most 224 B each. -/
def State.sendWrites (s : State) (link partner space addr : Nat) (l : List Byte) : Nat → State
  | 0 => s
  | n + 1 =>
    if l.isEmpty then s
    else
      let here := l.take 224
      (s.sendFlit link ⟨2, 0, partner, leBytes 16 (requestHeader 0 false space 0 here.length addr) ++ here⟩).sendWrites
        link partner space (addr + here.length) (l.drop 224) n

/-- A posted write to a partner on a link (R176, R292): on a Lace link SPACE is address bits 50:48. -/
def State.sendPosted (s : State) (link partner addr : Nat) (l : List Byte) : State :=
  if s.isLace link then s.sendWrites link partner (bits addr 50 48) (addr % 2 ^ 48) l 4
  else s.sendData false (.posted link (s.spid link) partner addr l)

/-- A read of a partner's memory on a link (R292). -/
def State.sendRead (s : State) (link partner tag addr n : Nat) : State :=
  if s.isLace link then
    s.sendFlit link ⟨3, 0, partner, leBytes 16 (requestHeader tag false (bits addr 50 48) 0 n addr)⟩
  else s.emit (.hostRead link (s.spid link) partner tag addr n)

end Sys2Proof.Machine
end

