-- ==== Sys2Proof/Machine/Net.lean ====
section
/-! DEFINITION. The packets of the management transports (spec/13 R351–R355): MCTP packets of DSP0236, and IPv4 and UDP on
Ethernet. -/

namespace Sys2Proof.Machine

/-- An MCTP packet (R351; log 59): header version 1, destination and source EID, first and last of its message, sequence number, tag
with its owner bit. -/
def mctpPacket (dest eid : Nat) (som eom : Bool) (seq tag : Nat) (payload : List Byte) : List Byte :=
  leBytes 4 (1 + 2 ^ 8 * (dest % 256) + 2 ^ 16 * (eid % 256) + 2 ^ 24 * tag + 2 ^ 28 * seq + 2 ^ 30 * flag eom + 2 ^ 31 * flag som)
    ++ payload

/-- The packets of a message, of 64 B each and the last up to that (R351). -/
def mctpPackets (dest eid tag seq : Nat) (som : Bool) (m : List Byte) : Nat → List (List Byte)
  | 0 => []
  | n + 1 =>
    if m.length ≤ 64 then [mctpPacket dest eid som true seq tag m]
    else mctpPacket dest eid som false seq tag (m.take 64) :: mctpPackets dest eid tag ((seq + 1) % 4) false (m.drop 64) n

/-- A packet's fields: header version, destination and source EID, first and last packet of its message, sequence number, tag with its
owner bit, payload. -/
structure Packet where
  version : Nat
  dest : Nat
  eid : Nat
  som : Bool
  eom : Bool
  seq : Nat
  tag : Nat
  payload : List Byte
  deriving DecidableEq, Repr

/-- The fields of a packet's bytes. -/
def packetOf (l : List Byte) : Packet :=
  let h := leValue (l.take 4)
  ⟨h % 16, bits h 15 8, bits h 23 16, h.testBit 31, h.testBit 30, bits h 29 28, bits h 27 24, l.drop 4⟩

/-- The sum of the 16-bit words of bytes, most significant byte first. -/
def wordSum : List Byte → Nat
  | a :: b :: t => 256 * a.toNat + b.toNat + wordSum t
  | [a] => 256 * a.toNat
  | [] => 0

/-- The one's complement sum of 16-bit words. -/
def onesSum (l : List Byte) : Nat :=
  let n := wordSum l
  let m := n % 65536 + n / 65536
  m % 65536 + m / 65536

/-- The checksum of IPv4 and UDP. -/
def netCheck (l : List Byte) : Nat := 65535 - onesSum l

/-- The pseudo header of a UDP checksum. -/
def pseudoHeader (src dst n : Nat) : List Byte := beBytes 4 src ++ beBytes 4 dst ++ [0, 17] ++ beBytes 2 n

/-- A UDP datagram with its checksum, which is always sent (R354). -/
def udpDatagram (src dst sport dport : Nat) (m : List Byte) : List Byte :=
  let n := 8 + m.length
  let head := beBytes 2 sport ++ beBytes 2 dport ++ beBytes 2 n
  let c := netCheck (pseudoHeader src dst n ++ head ++ [0, 0] ++ m)
  head ++ beBytes 2 (if c = 0 then 65535 else c) ++ m

/-- An IPv4 packet without options that carries UDP: identification, MORE, offset in units of 8 B. -/
def ipPacket (src dst id off : Nat) (more : Bool) (l : List Byte) : List Byte :=
  let front := [0x45, 0] ++ beBytes 2 (20 + l.length) ++ beBytes 2 id ++ beBytes 2 (8192 * flag more + off) ++ [64, 17]
  front ++ beBytes 2 (netCheck (front ++ [0, 0] ++ beBytes 4 src ++ beBytes 4 dst)) ++ beBytes 4 src ++ beBytes 4 dst ++ l

/-- The fragments of a datagram, of 1,480 B each and the last up to that (R355). -/
def ipFragments (src dst id off : Nat) (l : List Byte) : Nat → List (List Byte)
  | 0 => []
  | n + 1 =>
    if l.length ≤ 1480 then [ipPacket src dst id off false l]
    else ipPacket src dst id off true (l.take 1480) :: ipFragments src dst id (off + 185) (l.drop 1480) n

/-- The IPv4 packets of a datagram (R355). -/
def ipPackets (src dst id : Nat) (l : List Byte) : List (List Byte) := ipFragments src dst id 0 l (l.length + 1)

/-- An IPv4 packet's fields: source and destination address, identification, offset in bytes, MORE, protocol, data. -/
structure IpPacket where
  src : Nat
  dst : Nat
  id : Nat
  off : Nat
  more : Bool
  proto : Nat
  data : List Byte
  deriving DecidableEq, Repr

/-- The IPv4 packet of an untagged Ethernet frame to an address: version 4, without options, with a good header checksum and all its
bytes (R354). -/
def ipOfFrame (mac : Nat) (f : List Byte) : Option IpPacket :=
  let l := f.drop 14
  let n := beValue (slice l 2 2)
  if beValue (f.take 6) = mac ∧ beValue (slice f 12 2) = 0x0800 ∧ leValue (l.take 1) = 0x45 ∧ 20 ≤ n ∧ n ≤ l.length ∧
      onesSum (l.take 20) = 65535 then
    some ⟨beValue (slice l 12 4), beValue (slice l 16 4), beValue (slice l 4 2), beValue (slice l 6 2) % 8192 * 8,
      (beValue (slice l 6 2)).testBit 13, leValue (slice l 9 1), slice l 20 (n - 20)⟩
  else none

/-- The source port and the payload of a UDP datagram for a port, its checksum good where it is nonzero (R354). -/
def udpOf (src dst port : Nat) (d : List Byte) : Option (Nat × List Byte) :=
  let n := beValue (slice d 4 2)
  if 8 ≤ n ∧ n = d.length ∧ beValue (slice d 2 2) = port ∧
      (beValue (slice d 6 2) = 0 ∨ onesSum (pseudoHeader src dst n ++ d) = 65535) then
    some (beValue (d.take 2), d.drop 8)
  else none

/-- The bytes of a datagram from its pieces, from an offset on; none while a piece is missing (R355). -/
def joinPieces (pieces : List (Nat × List Byte)) (start total : Nat) : Nat → Option (List Byte)
  | 0 => none
  | n + 1 =>
    if total ≤ start then some []
    else
      match pieces.find? (fun p => p.1 ≤ start && start < p.1 + p.2.length) with
      | some p =>
        let l := p.2.drop (start - p.1)
        (joinPieces pieces (start + l.length) total n).map (fun t => l ++ t)
      | none => none

end Sys2Proof.Machine
end

