-- ==== Sys2Proof/Machine/Sha256.lean ====
section
/-! DEFINITION. SHA-256 (FIPS 180-4), the digest of R330, R331, R349, R360 and R366. The spec names the standard and
does not restate it: PRESUMED (log 8). -/

namespace Sys2Proof

/-- The round constants of FIPS 180-4. -/
def shaK : List Nat := [
   0x428A2F98, 0x71374491, 0xB5C0FBCF, 0xE9B5DBA5, 0x3956C25B, 0x59F111F1,
   0x923F82A4, 0xAB1C5ED5, 0xD807AA98, 0x12835B01, 0x243185BE, 0x550C7DC3,
   0x72BE5D74, 0x80DEB1FE, 0x9BDC06A7, 0xC19BF174, 0xE49B69C1, 0xEFBE4786,
   0x0FC19DC6, 0x240CA1CC, 0x2DE92C6F, 0x4A7484AA, 0x5CB0A9DC, 0x76F988DA,
   0x983E5152, 0xA831C66D, 0xB00327C8, 0xBF597FC7, 0xC6E00BF3, 0xD5A79147,
   0x06CA6351, 0x14292967, 0x27B70A85, 0x2E1B2138, 0x4D2C6DFC, 0x53380D13,
   0x650A7354, 0x766A0ABB, 0x81C2C92E, 0x92722C85, 0xA2BFE8A1, 0xA81A664B,
   0xC24B8B70, 0xC76C51A3, 0xD192E819, 0xD6990624, 0xF40E3585, 0x106AA070,
   0x19A4C116, 0x1E376C08, 0x2748774C, 0x34B0BCB5, 0x391C0CB3, 0x4ED8AA4A,
   0x5B9CCA4F, 0x682E6FF3, 0x748F82EE, 0x78A5636F, 0x84C87814, 0x8CC70208,
   0x90BEFFFA, 0xA4506CEB, 0xBEF9A3F7, 0xC67178F2]

/-- The initial hash value of FIPS 180-4. -/
def shaInit : List Nat := [
   0x6A09E667, 0xBB67AE85, 0x3C6EF372, 0xA54FF53A, 0x510E527F, 0x9B05688C,
   0x1F83D9AB, 0x5BE0CD19]

/-- 32-bit rotation to the right. -/
def rotr (n x : Nat) : Nat := x / 2 ^ n + x % 2 ^ n * 2 ^ (32 - n)

/-- Addition modulo 2^32. -/
def add32 (l : List Nat) : Nat := l.foldl (fun a b => (a + b) % 4294967296) 0

/-- One round over the eight working variables, with message word `w` and constant `k`. -/
def shaRound (v : List Nat) (w k : Nat) : List Nat :=
  match v with
  | [a, b, c, d, e, f, g, h] =>
    let big1 := rotr 6 e ^^^ rotr 11 e ^^^ rotr 25 e
    let ch := (e &&& f) ^^^ ((4294967295 - e) &&& g)
    let big0 := rotr 2 a ^^^ rotr 13 a ^^^ rotr 22 a
    let maj := (a &&& b) ^^^ (a &&& c) ^^^ (b &&& c)
    withNat (add32 [h, big1, ch, k, w]) fun tmp =>
    withNat (add32 [tmp, big0, maj]) fun first =>
    withNat (add32 [d, tmp]) fun fifth => [first, a, b, c, fifth, e, f, g]
  | _ => v

/-- `n` more message words, newest first. -/
def shaExpand : Nat → List Nat → List Nat
  | 0, ws => ws
  | n + 1, ws =>
    let w2 := ws.getD 1 0
    let w15 := ws.getD 14 0
    let s0 := rotr 7 w15 ^^^ rotr 18 w15 ^^^ w15 / 8
    let s1 := rotr 17 w2 ^^^ rotr 19 w2 ^^^ w2 / 1024
    withNat (add32 [s1, ws.getD 6 0, s0, ws.getD 15 0]) fun w => shaExpand n (w :: ws)

/-- The rounds over message words with their constants. -/
def shaRounds : List Nat → List (Nat × Nat) → List Nat
  | v, [] => v
  | v, x :: t => shaRounds (shaRound v x.1 x.2) t

/-- The numbers of a list, each with its value taken first, before what needs them. -/
def withNats : List Nat → (List Nat → α) → α
  | [], k => k []
  | x :: t, k => withNat x fun y => withNats t fun l => k (y :: l)

/-- Taking the values first changes nothing. -/
@[simp] theorem withNats_eq (l : List Nat) (k : List Nat → α) : withNats l k = k l := by
  induction l generalizing k with
  | nil => rfl
  | cons x t ih => simp [withNats, ih]

/-- One block of 64 bytes into the hash value. -/
def shaBlock (h : List Nat) (block : List Byte) : List Nat :=
  withNats ((List.range 16).map (fun i => beValue (slice block (4 * i) 4))) fun ws =>
  withNats h fun v =>
  List.zipWith (fun a b => (a + b) % 4294967296) v (shaRounds v ((shaExpand 48 ws.reverse).reverse.zip shaK))

/-- Fold `n` blocks. -/
def shaBlocks : Nat → List Nat → List Byte → List Nat
  | 0, h, _ => h
  | n + 1, h, l => shaBlocks n (shaBlock h (l.take 64)) (l.drop 64)

/-- The padded message. -/
def shaPad (l : List Byte) : List Byte :=
  l ++ [0x80] ++ List.replicate ((119 - l.length % 64) % 64) 0 ++ beBytes 8 (8 * l.length)

/-- SHA-256 of bytes: 32 bytes, byte 0 first as the algorithm produces it (R338). -/
def sha256 (l : List Byte) : List Byte :=
  let p := shaPad l
  (shaBlocks (p.length / 64) shaInit p).flatMap (beBytes 4)

/-- The digest of a hash in progress: its chaining value, the bytes of the block not yet full, and the bytes hashed. -/
def shaFinish (chain : List Nat) (tail : List Byte) (count : Nat) : List Byte :=
  let p := tail ++ [0x80] ++ List.replicate ((119 - count % 64) % 64) 0 ++ beBytes 8 (8 * count)
  (shaBlocks (p.length / 64) chain p).flatMap (beBytes 4)

end Sys2Proof
end

