-- ==== Sys2Proof/Machine/Engine.lean ====
section
/-! DEFINITION. The dictionary engine: which transports are served (R350), the checks of R13 in their order, the
change journal (R359–R363), and the one wrapper every dictionary command goes through. -/

namespace Sys2Proof.Machine

/-- Whether a source's transport is served in the present device state (R350); firmware's own requests are served
while firmware runs (R347, R357); none while its clock is gated (R442). -/
def State.served (s : State) (src : Source) : Bool :=
  !s.dev.held && !s.clkLost.contains 3 &&
  match src.code with
  | 0x01 =>
    match s.dev.state with
    | .off | .aon | .fault => false
    | _ => true
  | 0x02 =>
    match s.dev.state with
    | .awaitFw => decide (src.addr % 128 / 16 = 0) && s.linkActive (src.addr % 128)
    | .managed | .operational | .quiescing => s.rd 0x1100 9 = 1 && s.linkActive (src.addr % 128)
    | _ => false
  | 0x03 => s.fwRuns && !s.clkLost.contains 25 && s.rd 0x1100 4 = 1 && s.rd 0x1100 5 != 0
  | 0x10 => s.fwRuns
  | _ => false

/-- The boot objects that may be written (R357); reads of 0x1200 are boot objects too. -/
def bootObject (idx sub : Nat) (write : Bool) : Bool :=
  idx = 0x1000 || idx = 0x1010 && sub = 1 || idx = 0x1011 && sub = 1 || idx = 0x2020 || idx = 0x1300
    || idx = 0x1200 && !write

/-- Whether a value of a STR or a sized BLOB may be shorter than the size of its row (R340): only the firmware
window takes a piece of up to 4,096 B (R381). -/
def Obj.sized (o : Obj) : Bool := o.ty != .str && !(o.idxLo = 0x1300 && o.subLo = 5)

/-- Writes to 0x3000–0x6FFF, and to the objects of R451 but RESET_COMMAND, are refused in QUIESCING and SAFE_STOP (R33,
R451). -/
def State.writesHeld (s : State) (idx : Nat) : Bool :=
  (s.dev.state = .quiescing || s.dev.state = .safeStop)
    && (0x3000 ≤ idx && idx ≤ 0x6FFF || 0x2000 ≤ idx && idx ≤ 0x2102 && idx ≠ 0x2020)

/-- The checks of R13 on a write, in their order, down to R33; the object's own state check comes after them. `life`
is the life-cycle check, `fits` the object's own value check beyond its plain range. -/
def State.writeStatus (s : State) (idx sub ty : Nat) (bytes : List Byte) (life fits : Bool) : Status :=
  match objFind idx sub with
  | none => if objIndexed idx then .noSubindex else .noObject
  | some o =>
    if !s.fwRuns && !bootObject idx sub true then .awaitingFirmware
    else if o.acc = .ro || o.acc = .const then .readOnly
    else if !life then .lifecycleDenied
    else if ty ≠ o.ty.code then .typeMismatch
    else if o.size < bytes.length then .lengthExceeds
    else if o.sized && bytes.length < o.size then .lengthMismatch
    else if bytes.length = 0 then .valueRange
    else if o.ty = .bool && 1 < leValue bytes then .valueRange
    else if o.largest ≠ 0 && (leValue bytes < o.least || o.largest < leValue bytes) then .valueRange
    else if !fits then .valueRange
    else if s.writesHeld idx then .stateConflict
    else .ok

/-- A value in a journal entry: itself when 16 B or less, otherwise the first 16 B of its SHA-256 (R360). -/
def journalForm (l : List Byte) : Nat := if l.length ≤ 16 then leValue l else leValue ((sha256 l).take 16)

/-- FLAGS of a journal entry (R360). -/
def JRec.flags (r : JRec) (lossBefore : Bool) : Nat :=
  (match r.old with
    | some l => flag (decide (16 < l.length))
    | none => 4) + 2 * flag (decide (16 < r.new.length)) + 8 * flag lossBefore

/-- The entry without its CHECK field (R360). -/
def JRec.body (r : JRec) (time seq : Nat) (lossBefore : Bool) : Nat :=
  time % 2 ^ 64 + 2 ^ 64 * seq + 2 ^ 96 * (r.idx % 2 ^ 16) + 2 ^ 112 * (r.sub % 256) + 2 ^ 120 * (r.status % 256)
    + 2 ^ 128 * (r.source.code % 256) + 2 ^ 136 * r.flags lossBefore + 2 ^ 144 * (r.ty % 256)
    + 2 ^ 160 * (r.source.addr % 2 ^ 64) + 2 ^ 224 * (r.new.length % 2 ^ 16)
    + 2 ^ 256 * (match r.old with
      | some l => journalForm l
      | none => 0)
    + 2 ^ 384 * journalForm r.new

/-- CHECK of an entry: CRC-16 over bits 511:256 and 239:0 (R360). -/
def entryCheck (e : Nat) : Nat := crc16 (msbBits 256 (e / 2 ^ 256) ++ msbBits 240 e)

/-- The whole 512-bit entry (R360). -/
def JRec.entry (r : JRec) (time seq : Nat) (lossBefore : Bool) : Nat :=
  r.body time seq lossBefore + 2 ^ 240 * entryCheck (r.body time seq lossBefore)

/-- An entry is written to the ring; SEQ rises by 1 modulo 2^32 (R363). -/
def State.journalWrite (s : State) (r : JRec) (lossBefore : Bool) : State :=
  { s with jrn := { s.jrn with
      ring := Tab.put (fun _ => 0) s.jrn.ring (s.jrn.count % 4096)
        (r.entry s.dev.aonTime s.jrn.seq lossBefore)
      count := (s.jrn.count + 1) % 2 ^ 32
      seq := (s.jrn.seq + 1) % 2 ^ 32 } }

/-- Whether the journal can take an entry now: an entry whose SEQ would reach the reserve waits (R363). -/
def State.journalOpen (s : State) : Bool := s.jrn.waiting.isEmpty && s.jrn.seq != s.jrn.reserve

/-! Responses (R344, R347, R349–R355). -/

/-- Whether two source addresses are one requester (R349): on I3C by the dynamic address, on PCIe VDM by the link and the source
EID. -/
def sameSource (a b : Source) : Bool :=
  a.code = b.code &&
    match a.code with
    | 0x01 => a.addr % 128 = b.addr % 128
    | 0x02 => a.addr % 2 ^ 16 = b.addr % 2 ^ 16
    | _ => a.addr = b.addr

/-- A response message: the header of R344 and the body, which is empty where the status is not OK (R345). -/
def SalynReq.response (r : SalynReq) (status : Nat) (body : List Byte) : List Byte :=
  let l := if status = 0 then body else []
  leBytes 8 (2 ^ 16 + 1 + 2 ^ 8 * r.op + 2 ^ 24 * status + 2 ^ 32 * r.tag + 2 ^ 48 * l.length) ++ l

/-- Whether two requests repeat each other (R349). -/
def SalynReq.same (a b : SalynReq) : Bool := sameSource a.src b.src && a.tag = b.tag && a.op = b.op && a.body = b.body

/-- The medium of a source: I3C, or a link. -/
def mediumOf (src : Source) : Nat := if src.code = 1 then 1 else 128 + src.addr % 128

/-- The endpoint ID on a medium; 0 while none is assigned. -/
def State.eid (s : State) (medium : Nat) : Nat := Tab.look (fun _ => 0) s.sal.eids medium

/-- MCTP packets leave for a source (R351–R353, R295): on I3C to the controller, on a PCIe or CXL link by ID to the requester, on a
Lace link as type 7 flits for its partner. -/
def State.sendPackets (s : State) (src : Source) (l : List (List Byte)) : State :=
  let link := src.addr % 128
  if src.code = 1 then s.emit (.i3c l)
  else if s.isLace link then l.foldl (fun (t : State) p => t.sendFlit link ⟨7, 0, t.rd 0x5131 link, p⟩) s
  else l.foldl (fun (t : State) p => t.emit (.vdm link (t.spid link) (bits src.addr 31 16) p)) s

/-- An MCTP message leaves for a source, in packets of its transmission unit, with the tag of the message that it answers (R351). -/
def State.sendMctp (s : State) (src : Source) (mtag : Nat) (m : List Byte) : State :=
  s.sendPackets src (mctpPackets (bits src.addr 15 8) (s.eid (mediumOf src)) (mtag % 8) 0 true m m.length)

/-- The address of the next hop to an address (R373): the gateway for one outside the subnet. -/
def State.hop (s : State) (ip : Nat) : Nat :=
  if ip &&& s.rd 0x1100 6 = s.rd 0x1100 5 &&& s.rd 0x1100 6 then ip else s.rd 0x1100 7

/-- A message leaves as a UDP datagram for a source, from port 20731, in IPv4 fragments where it is longer than 1,472 B (R354, R355).
The identification is a free value (log 171). -/
def State.sendUdp (s : State) (src : Source) (m : List Byte) : State :=
  let ip := bits src.addr 47 16
  (ipPackets (s.rd 0x1100 5) ip (s.freeNow % 65536) (udpDatagram (s.rd 0x1100 5) ip 20731 (src.addr % 65536) m)).foldl
    (fun (t : State) p => t.emit (.ip (t.hop ip) p)) s.drawn

/-- A Salyn message leaves on its transport (R351, R354); firmware's own is the engine's own output. -/
def State.sendMessage (s : State) (src : Source) (mtag : Nat) (m : List Byte) : State :=
  match src.code with
  | 0x01 | 0x02 => s.sendMctp src mtag ([0x7E, 0x1F, 0x2C, 0x53] ++ m)
  | 0x03 => s.sendUdp src m
  | _ => s.emit (.message src m)

/-- A response that is ready leaves. -/
def State.sendOut (s : State) (r : SalynReq) (o : Out) : State :=
  match o with
  | .message src m => s.sendMessage src r.mtag m
  | _ => s.emit o

/-- A request is open. -/
def State.openReq (s : State) (o : OpenReq) : State := { s with sal := { s.sal with accepted := s.sal.accepted ++ [o] } }

/-- A request that a row makes, as it is accepted now: an opcode and an object, and the body of its message. -/
def State.rowReq (s : State) (src : Source) (op idx sub : Nat) (body : List Byte) : OpenReq :=
  ⟨⟨src, op, 0, body, false, 0⟩, idx, sub, false, false, s.dev.aonTime, none, .ok, true, false⟩

/-- Keep a request for repeats: a source's last 16 (R349). -/
def keepAnswered (l : List Answered) (a : Answered) : List Answered :=
  let m := l ++ [a]
  if 16 < (m.filter (fun x => sameSource x.src a.src)).length then
    (match m.find? (fun x => sameSource x.src a.src) with
      | some old => m.erase old
      | none => m)
  else m

/-- The responses that may leave now: those with no unanswered request of their source before them (R347). -/
def readyReplies : List Source → List OpenReq → List (SalynReq × Out) × List OpenReq
  | _, [] => ([], [])
  | wait, e :: t =>
    match e.reply with
    | some r =>
      if wait.any (sameSource e.req.src) then
        let x := readyReplies wait t
        (x.1, e :: x.2)
      else
        let x := readyReplies wait t
        ((e.req, r) :: x.1, x.2)
    | none =>
      let x := readyReplies (e.req.src :: wait) t
      (x.1, e :: x.2)

/-- Responses leave in acceptance order for each source (R347); one whose transport is not served is dropped (R350, R356). -/
def State.sendReplies (s : State) : State :=
  let x := readyReplies [] s.sal.accepted
  (x.1.filter (fun r => s.served r.1.src)).foldl (fun (t : State) r => t.sendOut r.1 r.2)
    { s with sal := { s.sal with accepted := x.2 } }

/-- A source has a request that is not answered. -/
def State.awaits (s : State) (src : Source) : Bool :=
  s.sal.accepted.any (fun e => e.reply.isNone && sameSource e.req.src src)

/-- A row's request is answered as it is accepted: after the earlier ones of its source (R347; log 183), and only on a transport that
is served (R350). -/
def State.say (s : State) (src : Source) (op idx sub : Nat) (o : Out) : State :=
  if s.awaits src then s.openReq { s.rowReq src op idx sub [] with reply := some o }
  else if s.served src then s.emit o
  else s

/-- What answers an open request: a message, or the status or value that a row's request is told. -/
def OpenReq.says (o : OpenReq) (status : Nat) (body : List Byte) : Out :=
  if o.direct then (if status = 0 ∧ o.req.op = 1 then .value o.req.src (body.drop 4) else .status o.req.src status)
  else .message o.req.src (o.req.response status body)

/-- An open request has its answer, and so have its repeats (R349). -/
def fillReply (o : OpenReq) (out : Out) (bytes : List Byte) : Bool → List OpenReq → List OpenReq
  | _, [] => []
  | found, e :: t =>
    if !found && e = o then { e with reply := some out } :: fillReply o out bytes true t
    else if e.again && e.reply.isNone && e.req.same o.req then
      { e with reply := some (.message e.req.src bytes) } :: fillReply o out bytes found t
    else e :: fillReply o out bytes found t

/-- The response of an open request is ready: it and its repeats are answered, and it is kept for later repeats (R349). -/
def State.reply (s : State) (o : OpenReq) (status : Nat) (body : List Byte) : State :=
  let r := o.req.response status body
  State.sendReplies { s with sal := { s.sal with
    accepted := fillReply o (o.says status body) r false s.sal.accepted
    done := s.sal.done.map (fun a =>
      if a.reply.isNone && sameSource a.src o.req.src && a.tag = o.req.tag && a.op = o.req.op && a.time = o.time
        && !o.direct && a.digest = sha256 o.req.body then { a with reply := some r } else a) } }

/-- A write reaches its status: its entry is written and then its answer is sent (R359). Both wait while the SEQ reserve is used up
(R363). -/
def State.answer (s : State) (r : JRec) (o : Out) : State :=
  if s.journalOpen then (s.journalWrite r false).say r.source 2 r.idx r.sub o
  else
    State.openReq { s with jrn := { s.jrn with waiting := s.jrn.waiting ++ [(r, o)] } }
      { s.rowReq r.source 2 r.idx r.sub [] with journal := true }

/-- The oldest open request of a source at an object, by its opcode. -/
def State.openAt (s : State) (src : Source) (op idx sub : Nat) : Option OpenReq :=
  s.sal.accepted.find? (fun e =>
    e.reply.isNone && !e.again && !e.toFirmware && !e.journal && sameSource e.req.src src && e.req.op = op && e.idx = idx
      && e.sub = sub)

/-- A value that was waited for goes to the READ that asked for it. -/
def State.giveValue (s : State) (src : Source) (idx sub ty : Nat) (bytes : List Byte) : State :=
  match s.openAt src 1 idx sub with
  | some o => s.reply o 0 (leBytes 1 ty ++ [0] ++ leBytes 2 bytes.length ++ bytes)
  | none => s

/-- A write that was waited for has its entry written and is answered (R359, R376). After a reset nothing waits for an answer
(R370). -/
def State.settleWrite (s : State) (r : JRec) : State :=
  match s.openAt r.source 2 r.idx r.sub with
  | some o => (s.journalWrite r false).reply o r.status []
  | none => s.journalWrite r false

/-- An entry that waited for the reserve has been written: the oldest answer of its source that waited for it is ready (R363). -/
def State.entryDone (s : State) (r : JRec) (o : Out) : State :=
  match s.sal.accepted.find? (fun e => e.journal && e.reply.isNone && sameSource e.req.src r.source) with
  | some e => State.sendReplies { s with sal := { s.sal with accepted := fillReply e o [] false s.sal.accepted } }
  | none => s

/-- The bytes of a numeric dictionary register. -/
def State.regBytes (s : State) (idx sub : Nat) : List Byte :=
  match objFind idx sub with
  | some o => leBytes o.size (s.rd idx sub)
  | none => []

/-- Whether the entry of a write carries no OLD value: WO objects, and rejections at checks 1 to 3 (R360). -/
def noOld (idx sub : Nat) (st : Status) : Bool :=
  match st with
  | .noObject | .noSubindex | .awaitingFirmware | .readOnly => true
  | _ =>
    match objFind idx sub with
    | some o => decide (o.acc = .wo)
    | none => true

/-- What a write does when the checks of R13 have passed: its own state check and its effect. -/
abbrev Effect := State → Status × State

/-- The status and the state that a write leaves, before it is journalled. -/
def State.tryWrite (s : State) (idx sub ty : Nat) (bytes : List Byte) (life fits : Bool) (eff : Effect) :
    Status × State :=
  match s.writeStatus idx sub ty bytes life fits with
  | .ok => eff s
  | st => (st, s)

/-- REQUEST_COUNT of a transport (R373). -/
def State.countRequest (s : State) (src : Source) : State :=
  if 1 ≤ src.code ∧ src.code ≤ 3 then s.bump 0x1101 src.code 1 else s

/-- Firmware serves an object for a source: it is not one the engine serves in hardware (R345, R357; log 3), nor firmware's own
request. -/
def firmwareServes (src : Source) (idx sub : Nat) (write : Bool) : Bool :=
  !bootObject idx sub write && src.code ≠ 0x10 && Config.firmwareServed idx

/-- An earlier write of an object has not reached its status (R359). -/
def State.firmwareBusy (s : State) (idx sub : Nat) : Bool :=
  s.sal.accepted.any (fun e => e.toFirmware && e.reply.isNone && e.req.op = 2 && e.idx = idx && e.sub = sub)

/-- The body of a WRITE (R345). -/
def writeBody (idx sub ty : Nat) (value : List Byte) : List Byte :=
  leBytes 2 idx ++ leBytes 1 sub ++ leBytes 1 ty ++ leBytes 2 value.length ++ [0, 0] ++ value

/-- The status of a write that its checks accept: INTERNAL where firmware serves the object and has stopped (R358). -/
def State.verdict (s : State) (fw : Bool) (st : Status) : Status :=
  match st with
  | .ok => if s.sec.dead && fw then .internal else .ok
  | _ => st

/-- One dictionary write from a source with a reply path: served (R350), checked (R13), applied whole or not at all (R341), journalled
and answered (R359). A source that is not served reaches nothing. A write that firmware serves waits for an earlier one of its
object (R359). -/
def State.command (s : State) (src : Source) (idx sub ty : Nat) (bytes old : List Byte) (life fits : Bool)
    (eff : Effect) : State :=
  if s.served src then
    let s1 := s.countRequest src
    let r := s1.tryWrite idx sub ty bytes life fits eff
    let fw := firmwareServes src idx sub true
    let st := s1.verdict fw r.1
    let t := if r.1 = st then r.2 else s1
    if s1.firmwareBusy idx sub && fw then
      (if st = .ok then s1 else t).openReq
        { s1.rowReq src 2 idx sub (writeBody idx sub ty bytes) with toFirmware := true, verdict := st }
    else
      t.answer ⟨idx, sub, st.code, src, ty, if noOld idx sub st then none else some old, bytes⟩ (.status src st.code)
  else s

/-- An effect that stores the value in its dictionary register. -/
def storeEffect (idx sub v : Nat) : Effect := fun s => (.ok, s.wr idx sub v)

/-- Refuse when a condition does not hold. -/
def guardEffect (c : Bool) (st : Status) (eff : Effect) : Effect := fun s => if c then eff s else (st, s)

end Sys2Proof.Machine
end

