-- ==== Sys2Proof/Machine/CxlRegs.lean ====
section
/-! DEFINITION. The registers of the standards that the spec gives a part of (spec/10): the CXL HDM decoders (R263), the CXL RAS
registers (R266), the MSI-X capability (R174, R176), the Register Locator (R259) and the CXL DVSEC (R264, R265). Where the
spec names a register and no layout, the layout is the standard's and its place in the space is free (log 161). -/

namespace Sys2Proof.Machine

/-- A flit received on a PBR link for another destination (R268). -/
def State.misrouted (s : State) (link dpid : Nat) : Bool := s.pbrLink link && dpid ≠ s.rd 0x5111 link

/-- A port's clock is not gated for want of lock (R442). -/
def State.portClock (s : State) (link : Nat) : Bool := !s.clkLost.contains (18 + portOf link)

/-- A received flit, where it is for the device (R268); one for another destination is discarded and counted. A port whose clock is
gated takes none (log 169). -/
def State.routed (s : State) (link dpid : Nat) (t : State) : State :=
  if !s.portClock link then s
  else if s.misrouted link dpid then s.bump 0x5114 link 1 else t

/-- The partner ID of a received request (R268): the SPID on a PBR link, else LINK_PARTNER_ID. -/
def State.partnerOf (s : State) (link spid : Nat) : Nat := if s.pbrLink link then spid % 4096 else s.rd 0x5110 link

/-! HDM decoders (R263): 4 per link, HPA to DPA. -/

/-- Register `r` of HDM decoder `n` of a link: 0 and 1 the base, 2 and 3 the size, 4 control, 5 and 6 the DPA skip; register 7 of
decoder 0 is the global control. -/
def State.hdmReg (s : State) (link n r : Nat) : Nat := Tab.look (fun _ => 0) s.hdm (32 * link + 8 * n + r)

/-- A 64-bit value of two registers, in units of 256 MiB. -/
def State.hdmWide (s : State) (link n r : Nat) : Nat :=
  2 ^ 28 * (s.hdmReg link n r / 2 ^ 28) + 2 ^ 32 * s.hdmReg link n (r + 1)

/-- Interleave ways (R263). -/
def State.hdmWays (s : State) (link n : Nat) : Nat := 2 ^ bits (s.hdmReg link n 4) 7 4

/-- Interleave granularity in bytes (R263). -/
def State.hdmGrain (s : State) (link n : Nat) : Nat := 256 * 2 ^ bits (s.hdmReg link n 4) 3 0

/-- A decoder's values that the device commits (R263): ways 1 to 16, granularity 256 B to 16 KiB. -/
def hdmFits (control : Nat) : Bool := bits control 7 4 ≤ 4 && bits control 3 0 ≤ 6

/-- A decoder decodes: committed, with HDM decoding enabled. -/
def State.hdmOn (s : State) (link n : Nat) : Bool :=
  (s.hdmReg link 0 7).testBit 1 && (s.hdmReg link n 4).testBit 9 && hdmFits (s.hdmReg link n 4)

/-- The DPA bytes that a decoder takes. -/
def State.hdmSpan (s : State) (link n : Nat) : Nat := s.hdmWide link n 2 / s.hdmWays link n

/-- The first DPA of a decoder: what the decoders before it take, with their skips and its own. -/
def State.hdmStart (s : State) (link n : Nat) : Nat :=
  (List.range n).foldl (fun a m => a + s.hdmWide link m 5 + s.hdmSpan link m) (s.hdmWide link n 5)

/-- The DPA of an HPA on a link (R263): none where no decoder takes it. -/
def State.dpaOf (s : State) (link hpa : Nat) : Option Nat :=
  ((List.range 4).find? (fun n =>
    s.hdmOn link n && s.hdmWide link n 0 ≤ hpa && hpa < s.hdmWide link n 0 + s.hdmWide link n 2)).map (fun n =>
      let off := hpa - s.hdmWide link n 0
      let g := s.hdmGrain link n
      s.hdmStart link n + off / (g * s.hdmWays link n) * g + off % g)

/-- The HPA of a DPA on a link: the device is the decoder's Interleave Set Position of its ways. -/
def State.hpaOf (s : State) (link dpa : Nat) : Option Nat :=
  ((List.range 4).find? (fun n =>
    s.hdmOn link n && s.hdmStart link n ≤ dpa && dpa < s.hdmStart link n + s.hdmSpan link n)).map (fun n =>
      let off := dpa - s.hdmStart link n
      let g := s.hdmGrain link n
      s.hdmWide link n 0 + (off / g * s.hdmWays link n + bits (s.hdmReg link n 4) 27 24) * g + off % g)

/-- The attached-memory line of an HPA line on a link. -/
def State.dpaLine (s : State) (link line : Nat) : Option Nat := (s.dpaOf link (64 * line)).map (fun a => a / 64)

/-- A dword of the HDM decoder registers, `off` bytes into their structure: 4 decoders, ways up to 16, and bits 10 and 11 of a
decoder's control report its commit. -/
def State.hdmDword (s : State) (link off : Nat) : Nat :=
  if off = 0 then 0x1302
  else if off = 4 then s.hdmReg link 0 7
  else if off < 0x10 then 0
  else
    let n := (off - 0x10) / 32
    let r := (off - 0x10) % 32 / 4
    let v := s.hdmReg link n r
    if r = 4 && v.testBit 9 then (if hdmFits v then v + 2 ^ 10 else v + 2 ^ 11) else if r = 7 then 0 else v

/-- The bits of a decoder register that hold what is written; the others are reserved or read-only, so a write leaves them 0 (R6). -/
def hdmMask (r : Nat) : Nat :=
  match r with
  | 0 | 2 | 5 => 0xF0000000
  | 4 => 0x0FFF73FF
  | 7 => 0x00000003
  | _ => 0xFFFFFFFF

/-- A dword of them is written. -/
def State.hdmPut (s : State) (link off v : Nat) : State :=
  let key := if off = 4 then 32 * link + 7 else 32 * link + 8 * ((off - 0x10) / 32) + ((off - 0x10) % 32 / 4)
  if off = 4 || 0x10 ≤ off && key % 8 ≠ 7 then { s with hdm := Tab.put (fun _ => 0) s.hdm key (v &&& hdmMask (key % 8)) } else s

/-! Error registers (R266, R267). -/

/-- An error of a kind is recorded on a link with the severity the host programmed and the header of what caused it: 1 AER Poisoned
TLP Received, 2 CXL RAS. -/
def State.logError (s : State) (link kind : Nat) (header : List Nat) : State :=
  { s with errLog := s.errLog ++ [⟨link, kind, Tab.look (fun _ => 0) s.ras link, header⟩] }

/-- A CXL.cachemem protocol error on a link (R266). -/
def State.cxlError (s : State) (link : Nat) (header : List Nat) : State :=
  ((s.bump 0x5113 link 1).logError link 2 header).event 0x0A 0x03 link

/-- The errors of a kind that a link's registers hold. -/
def State.errors (s : State) (link kind : Nat) : List ErrRec :=
  s.errLog.filter (fun e => e.link = link && e.kind = kind)

/-- Clear them. -/
def State.clearErrors (s : State) (link kind : Nat) : State :=
  { s with errLog := s.errLog.filter (fun e => !(e.link = link && e.kind = kind)) }

/-- A dword of the CXL RAS registers (R266): the status bit, the severity the host programmed, the header log of the first
error. -/
def State.rasDword (s : State) (link off : Nat) : Option Nat :=
  if off = 0 then some (2 ^ (Config.rasBit % 32) * flag (!(s.errors link 2).isEmpty))
  else if off = 8 then some (Tab.look (fun _ => 0) s.ras link)
  else if 0x18 ≤ off && off < 0x58 then
    some (match s.errors link 2 with
      | e :: _ => Config.headerLog e.header / 2 ^ (8 * (off - 0x18)) % 2 ^ 32
      | [] => 0)
  else none

/-- A dword of them is written: a status bit written 1 clears. -/
def State.rasPut (s : State) (link off v : Nat) : Option State :=
  if off = 0 then some (if v.testBit (Config.rasBit % 32) then s.clearErrors link 2 else s)
  else if off = 8 then some { s with ras := Tab.put (fun _ => 0) s.ras link v }
  else if 0x18 ≤ off && off < 0x58 then some s
  else none

/-! The CXL register blocks of BAR0 (R168, R259). -/

/-- The HDM decoder structure in the component registers (log 161). -/
def hdmAt : Nat := 0x1000 + 4 * (Config.hdmPlace % 0x100)

/-- The RAS structure in the component registers (log 161). -/
def rasAt : Nat := 0x1800 + 4 * (Config.rasPlace % 0x100)

/-- What the host wrote to a dword of the blocks that the spec says nothing more of. -/
def State.blockStored (s : State) (link off : Nat) : Nat := Tab.look (fun _ => 0) s.block (2 ^ 17 * link + off)

/-- A dword of the blocks as it reads. The mailbox and every register that only the standard gives read as a free value does,
which may depend on what was written (log 161). -/
def State.blockDword (s : State) (link off : Nat) : Nat :=
  if hdmAt ≤ off && off < hdmAt + 0x90 then s.hdmDword link (off - hdmAt)
  else
    match (if rasAt ≤ off then s.rasDword link (off - rasAt) else none) with
    | some v => v
    | none => Config.blockOther off (s.blockStored link off) s.freeNow % 2 ^ 32

/-- A dword of the blocks is written. -/
def State.blockPut (s : State) (link off v : Nat) : State :=
  let keep := { s with block := Tab.put (fun _ => 0) s.block (2 ^ 17 * link + off) v }
  if hdmAt ≤ off && off < hdmAt + 0x90 then s.hdmPut link (off - hdmAt) v
  else if rasAt ≤ off then (s.rasPut link (off - rasAt) v).getD keep
  else keep

/-! Configuration space (R259, R260). -/

/-- The key of a configuration dword. -/
def cfgKey (link fn off : Nat) : Nat := 8192 * link + 4096 * fn + off

/-- What the host wrote to a configuration dword. -/
def State.cfgStored (s : State) (link fn off : Nat) : Nat := Tab.look (fun _ => 0) s.cfg (cfgKey link fn off)

/-- The MSI-X capability of function 0 (R174; log 161). -/
def msixAt : Nat := 0x40 + 4 * (Config.msixPlace % 0x2D)

/-- The CXL device DVSEC (log 161). -/
def dvsecAt : Nat := 0x100 + 4 * (Config.dvsecPlace % 0x100)

/-- The Register Locator DVSEC (R259; log 161). -/
def locatorAt : Nat := 0x600 + 4 * (Config.locatorPlace % 0x100)

/-- The AER capability (R262, R267; log 161). -/
def aerAt : Nat := 0xB00 + 4 * (Config.aerPlace % 0x100)

/-- Where the message control of MSI-X is kept: its Function Mask is bit 30, its enable bit 31. -/
def msixKey (link : Nat) : Nat := cfgKey link 0 1

/-- Function 0 is masked on a link (R176): the Function Mask of its MSI-X capability. -/
def State.fnMasked (s : State) (link : Nat) : Bool := (Tab.look (fun _ => 0) s.cfg (msixKey link)).testBit 30

/-- The dwords of the MSI-X capability (R174): Table Size 2,048, the table at BAR0 offset 0x0010_0000, the PBA at
0x0012_0000. -/
def State.msixDword (s : State) (link off : Nat) : Nat :=
  if off = 0 then
    0x11 + 2 ^ 8 * (Config.cfgOther 0 msixAt 0 0 % 2 ^ 8) + 2 ^ 16 * 2047
      + 2 ^ 30 * (Tab.look (fun _ => 0) s.cfg (msixKey link) / 2 ^ 30)
  else if off = 4 then 0x00100000
  else 0x00120000

/-- The dwords of the Register Locator (R259): the component registers at BAR0 offset 0x0030_0000, the memory device registers at
0x0031_0000. -/
def locatorDword (off : Nat) : Option Nat :=
  match off with
  | 0x0C => some 0x00300100
  | 0x10 => some 0
  | 0x14 => some 0x00310300
  | 0x18 => some 0
  | _ => none

end Sys2Proof.Machine
end

