-- ==== Sys2Proof/Machine/Fabric.lean ====
section
/-! DEFINITION. The logic fabric (spec/02): panels, tile memories, clocks, stitches, user events, parking. -/

namespace Sys2Proof.Machine

/-- Panel `p`. -/
def State.panel (s : State) (p : Nat) : Panel := Tab.look (fun _ => Panel.init) s.panels p

/-- Store panel `p`. -/
def State.setPanel (s : State) (p : Nat) (x : Panel) : State :=
  { s with panels := Tab.put (fun _ => Panel.init) s.panels p x }

/-- Change every panel. -/
def State.mapPanels (s : State) (f : Nat → Panel → Panel) : State :=
  (List.range 32).foldl (fun t p => t.setPanel p (f p (t.panel p))) s

/-- The state of a slot (R66). -/
def Panel.slot (x : Panel) (k : Nat) : SlotState := Tab.look (fun _ => SlotState.invalid) x.slots k

/-- Set the state of a slot. -/
def Panel.setSlot (x : Panel) (k : Nat) (v : SlotState) : Panel :=
  { x with slots := Tab.put (fun _ => SlotState.invalid) x.slots k v }

/-- The slots in a state, rising. -/
def Panel.slotsIn (x : Panel) (v : SlotState) : List Nat := (List.range 8).filter (fun k => x.slot k = v)

/-- The slot in a state, where there is one. -/
def Panel.slotIn (x : Panel) (v : SlotState) : Option Nat := (x.slotsIn v).head?

/-- A configuration frame of a slot, by its local tile (row × 10 + column) and frame index (R54). -/
def Panel.frame (x : Panel) (slot tile frame : Nat) : Nat :=
  Tab.look (fun _ => 0) x.frames (4096 * slot + tile * 50 + frame)

/-- Write a configuration frame. -/
def Panel.setFrame (x : Panel) (slot tile frame v : Nat) : Panel :=
  { x with frames := Tab.put (fun _ => 0) x.frames (4096 * slot + tile * 50 + frame) v }

/-- The flip-flop state store of a slot (R66). -/
def Panel.store (x : Panel) (slot : Nat) : Image := Tab.look (fun _ => []) x.flops slot

/-- Write the flip-flop state store of a slot. -/
def Panel.setStore (x : Panel) (slot : Nat) (v : Image) : Panel :=
  { x with flops := Tab.put (fun _ => []) x.flops slot v }

/-- The entries 0 … n−1 of a function that are not 0, as a table in its canonical form. -/
def tabOf (n : Nat) (f : Nat → Nat) : Tab Nat :=
  (List.range n).filterMap (fun k =>
    match f k with
    | 0 => none
    | v + 1 => some (k, v + 1))

/-- The number whose bits 0 … n−1 a function gives. -/
def bitsOf (n : Nat) (f : Nat → Bool) : Nat := (List.range n).foldl (fun a i => a + flag (f i) * 2 ^ i) 0

/-- The LUT mask of an LC (R54: frame f holds LCs 64f to 64f + 63, 64 bits each). -/
def Panel.mask (x : Panel) (slot tile lc : Nat) : Nat := x.frame slot tile (lc / 64) / 2 ^ (64 * (lc % 64)) % 2 ^ 64

/-- The mode byte of an LC (R40; R54: frame 40 + g holds LCs 512g to 512g + 511). -/
def Panel.modeByte (x : Panel) (slot tile lc : Nat) : Nat := x.frame slot tile (40 + lc / 512) / 2 ^ (8 * (lc % 512)) % 256

/-- FFA_INIT and FFB_INIT of a tile's LCs, in the order of the state store (R40, R66). -/
def Panel.initTile (x : Panel) (slot tile : Nat) : Nat :=
  if (List.range 5).all (fun g => x.frame slot tile (40 + g) = 0) then 0
  else (List.range 2560).foldl (fun n j => n + x.modeByte slot tile j / 64 * 2 ^ (2 * j)) 0

/-- The flip-flops of a slot at their INIT values (R59, R70). -/
def Panel.initImage (x : Panel) (slot : Nat) : Image := tabOf 80 (x.initTile slot)

/-- The flip-flops of the active slot at their INIT values; zeros where the panel has none. -/
def Panel.initLive (x : Panel) : Image :=
  match x.slotIn .active with
  | some k => x.initImage k
  | none => []

/-- SUBSYS of a panel's fabric events (R63). -/
def fabricCode (p : Nat) : Nat := if p < 16 then 0x01 else 0x02

/-- A tile's panel (R37); `upper` on T4. -/
def panelOfTile (tile : Nat) (upper : Bool) : Nat :=
  tile / 40 / 8 * 4 + tile % 40 / 10 + (if upper then 16 else 0)

/-- A tile's local position in its panel: local row × 10 + local column (R37, R90). -/
def localTile (tile : Nat) : Nat := tile / 40 % 8 * 10 + tile % 40 % 10

/-- The tiles of a tier's panel, rising (R37). -/
def tilesOf (p : Nat) : List Nat :=
  (List.range 80).map (fun k => (p % 16 / 4 * 8 + k / 10) * 40 + p % 4 * 10 + k % 10)

/-- The half-configuration byte of stitch `i` in a frame 49 (R50, R54). -/
def stitchHalf (frame49 i : Nat) : Nat := frame49 / 2 ^ (8 * i) % 256

/-- DRIVE of a half (R50). -/
def stitchDrives (half : Nat) : Bool := half.testBit 0

/-- A stitch is reserved for a word port: stitches 384 to 511 of a tile pair whose word port is enabled (R52). -/
def stitchReserved (wordPort : Bool) (i : Nat) : Bool := wordPort && 384 ≤ i

/-- A stitch is in contention (R51): both halves drive in running panels, or a half drives a reserved stitch. -/
def stitchClash (low up reserved : Bool) : Bool := (low && up) || (reserved && (low || up))

/-- The stitches of a tile pair in contention (R51), from the two frames 49. -/
def tileContention (lowRun upRun wordPort : Bool) (low up : Nat) : Nat :=
  if low = 0 ∧ up = 0 then 0
  else ((List.range 512).filter (fun i =>
    stitchClash (lowRun && stitchDrives (stitchHalf low i)) (upRun && stitchDrives (stitchHalf up i))
      (stitchReserved wordPort i))).length

/-- The frame of a panel's active context. -/
def Panel.activeFrame (x : Panel) (tile frame : Nat) : Nat :=
  match x.slotIn .active with
  | some k => x.frame k tile frame
  | none => 0

/-- Whether a T4 tile's word port is enabled by the active context of its running panel (R52). -/
def Panel.wordPortOn (x : Panel) (tile : Nat) : Bool :=
  x.pstate = .running && Config.wordPortEnabled (x.activeFrame tile 48)

/-- The stitches in contention of a panel pair (R51). -/
def State.contention (s : State) (pair : Nat) : Nat :=
  let low := s.panel pair
  let up := s.panel (pair + 16)
  (List.range 80).foldl (fun n t => n + tileContention (low.pstate = .running) (up.pstate = .running)
    (up.wordPortOn t) (low.activeFrame t 49) (up.activeFrame t 49)) 0

/-- Contention of a panel's pair is evaluated again; a rise from 0 and a return to 0 write events (R51, R63). -/
def State.recount (s : State) (p : Nat) : State :=
  let pair := p % 16
  let old := s.rd 0x3202 pair
  let new := s.contention pair
  let s1 := s.wr 0x3202 pair new
  if old = 0 ∧ new ≠ 0 then s1.event 0x03 0x01 pair
  else if old ≠ 0 ∧ new = 0 then s1.event 0x03 0x02 pair
  else s1

/-- Change a panel's state. -/
def Panel.goto (x : Panel) (v : PanelState) : Panel := { x with pstate := v }

/-- The time-slice table of a panel stops counting; TSLICE_ENTRY keeps its value (R85). -/
def Panel.sliceStop (x : Panel) : Panel := { x with slice := .stopped, sliceStageDue := false }

/-- TSLICE_CONTROL fields (R87). -/
def State.sliceEnable (s : State) (p : Nat) : Bool := (s.rd 0x3105 p).testBit 15

/-- An FCLK ticks: its PLL is locked and the device state lets panel clocks run (R58, R442). -/
def State.fclkTicks (s : State) (k : Nat) : Bool :=
  !s.clkLost.contains (7 + k) && !s.dev.held &&
    match s.dev.state with
    | .managed | .operational | .quiescing => true
    | .boot | .awaitFw => s.memKept
    | _ => false

/-- Whether a panel's clock ticks: it runs, and its FCLK runs and is locked (R58, R76). -/
def State.panelTicks (s : State) (p : Nat) : Bool :=
  (s.panel p).pstate = .running && s.fclkTicks (s.rd 0x3200 p)

/-- The panel's active slot is being staged again after VCC_CORE was removed (R436). -/
def Panel.restaging (x : Panel) : Bool := match x.staging with
  | some (_, .restage) => true
  | _ => false

/-- A panel's clock runs (R58): in RUNNING, and in HELD with the panel reset asserted, except when the panel is parked or its active
plane is being restaged (R436); its FCLK runs and is locked. -/
def State.clockRuns (s : State) (p : Nat) : Bool :=
  let x := s.panel p
  (x.pstate = .running || x.pstate = .held && !x.parked && !x.restaging) && s.fclkTicks (s.rd 0x3200 p)

/-- A PANELn or FABRIC reset acts on the panel while its clock is gated, so that it runs on SHUT and starts it (R59). -/
def Panel.resetOnShut (x : Panel) : Bool := x.reset = some .gated || x.reset = some .parked

/-- A SHUT clock edge can occur (R33, R441, R442): while the shuttle's clock is needed in a state that runs it; after BASE_WARM through
BOOT and AWAIT_FW; in those states and in SAFE_STOP for the reset of a gated panel (R59). -/
def State.shutRuns (s : State) : Bool :=
  let forReset := (List.range 32).any (fun p => (s.panel p).resetOnShut)
  !s.clkLost.contains 6 &&
    match s.dev.state with
    | .managed | .operational | .quiescing => true
    | .boot | .awaitFw => s.memKept || (List.range 32).any (fun p => (s.panel p).tileBusy) || forReset
    | .safeStop => forReset
    | _ => false

/-- The table starts at entry 0 with its first request due (R88 step 1). -/
def Panel.sliceStart (x : Panel) : Panel :=
  { x with slice := .first, sliceEntry := 0, sliceNext := 0, sliceStageDue := false }

/-- What parking leaves of a panel (R60): the flip-flop state saved to the active slot, the arithmetic registers (R43) and the T3
registers it drives (R53) cleared, HELD with PARKED, its outputs clamped (R55). Under an asserted reset the state is not kept (R59). -/
def Panel.park (x : Panel) : Panel :=
  let x1 :=
    match x.slotIn .active with
    | some k => x.setStore k (if x.reset = none then x.live else x.initImage k)
    | none => x
  { x1.sliceStop with
    pstate := .held, parked := true, arith := [], stitchReg := [], clamped := true, switchedIn := false, freshIn := false
    sreqWas := false, reset := x.reset.map (fun _ => .parked) }

/-- RESET of a HELD or RUNNING panel ends with its clock; of a parked panel on SHUT; else gated (R59). -/
def Panel.resetKind (x : Panel) : PanelReset :=
  match x.pstate with
  | .running => .clocked
  | .held => if x.parked then .parked else .clocked
  | _ => .gated

/-- A PANELn or FABRIC reset acts on a panel (R59): flip-flops take their INIT values, the arithmetic registers and the T3 registers
it drives clear; slots, stores of other slots and tile memory are kept. -/
def Panel.assertReset (x : Panel) : Panel :=
  { x with live := x.initLive, arith := [], stitchReg := [], reset := some x.resetKind }

/-- The reset of a panel ends (R59): the store of a parked panel's active slot holds INIT values and PARKED clears. -/
def Panel.endReset (x : Panel) : Panel :=
  match x.reset with
  | none => x
  | some .parked =>
    { (match x.slotIn .active with
        | some k => x.setStore k (x.initImage k)
        | none => x) with parked := false, live := x.initLive, reset := none }
  | some .clocked => { x with live := x.initLive, reset := none }
  | some .gated => { x with reset := none }

/-- A panel enters RUNNING (R80 RELEASE, R60): its flip-flops restore from the active slot's store, or take INIT
values with FRESH; PARKED clears; an enabled table starts (R88). The clamp stays until the first edge of the panel clock (R55). -/
def Panel.run (x : Panel) (fresh table : Bool) : Panel :=
  let x1 := { x with
    pstate := .running, parked := false, releaseWait := none, clamped := true, phase := 0
    reset := x.reset.map (fun _ => .clocked)
    live := if fresh || x.reset.isSome then x.initLive
      else match x.slotIn .active with
        | some k => x.store k
        | none => [] }
  if table then x1.sliceStart else x1

/-- The shim of a port. -/
def State.shim (s : State) (port : Nat) : Shim := Tab.look (fun _ => Shim.init) s.shims port

/-- Store the shim of a port. -/
def State.setShim (s : State) (port : Nat) (x : Shim) : State :=
  { s with shims := Tab.put (fun _ => Shim.init) s.shims port x }

/-- The shim's panel takes a packet (R272); a user flit frees its receive buffer (R296). -/
def State.deliverShim (s : State) (panel : Nat) (k : ShimPacket) : State :=
  let s1 := s.emit (.shimRx panel k.kind k.link k.partner k.cut k.bytes)
  if k.kind = 8 then s1.freeBuffer k.link (bits (leValue (k.bytes.take 8)) 35 33) else s1

/-- A port's shim can take a packet toward its panel: the panel runs, or the FIFO of 64 has room (R271, R274). -/
def State.shimRoom (s : State) (port panel : Nat) : Bool :=
  (s.panel panel).pstate = .running || (s.shim port).rx.length < 64

/-- A packet goes to the panel of a port's shim: delivered while it runs, held in the FIFO while it does not; a full FIFO takes none
(R271, R274). -/
def State.shimTake (s : State) (port panel : Nat) (k : ShimPacket) : State :=
  if (s.panel panel).pstate = .running then s.deliverShim panel k
  else if s.shimRoom port panel then s.setShim port { s.shim port with rx := (s.shim port).rx ++ [k] }
  else s

/-- The user flits of a port's links that wait in their receive buffers go to the shim, as far as it has room (R290, R296). -/
def State.admitUsers (s : State) (port panel : Nat) : State :=
  (List.range 16).foldl (fun (t : State) i =>
    let l := 16 * port + i
    (t.link l).lace.users.foldl (fun (u : State) f =>
      let x := u.link l
      if u.shimRoom port panel then
        (u.setLink l { x with lace := { x.lace with users := x.lace.users.drop 1 } }).shimTake port panel
          ⟨8, l, u.rd 0x5110 l, 0, false, f, false⟩
      else u) t) s

/-- The shims that enter a panel deliver what they hold as it runs (R271, R274). -/
def State.flushShims (s : State) (panel : Nat) : State :=
  (List.range 6).foldl (fun (t : State) port =>
    if t.rd 0x5103 port = panel then
      ((t.shim port).rx.foldl (fun (u : State) k => u.deliverShim panel k)
        (t.setShim port { t.shim port with rx := [], dropped := false })).admitUsers port panel
    else t) s

/-- A panel enters RUNNING and contention is evaluated again; its shim delivers what it holds. -/
def State.runPanel (s : State) (p : Nat) (fresh : Bool) : State :=
  ((s.setPanel p ((s.panel p).run fresh (s.sliceEnable p))).recount p).flushShims p

/-- RELEASE, which waits for a tile memory clear in progress (R46, R80) and for a restage (R436). Of two that wait, the later one
counts (log 137). -/
def State.releasePanel (s : State) (p : Nat) (fresh : Bool) : State :=
  if (s.panel p).tileBusy || (s.panel p).restaging then s.setPanel p { s.panel p with releaseWait := some fresh }
  else s.runPanel p fresh

/-- TILE_MEM_CLEAR (R46): accepted in EMPTY or HELD with no clear in progress. -/
def tileMemClearEffect (p : Nat) : Effect := fun s =>
  match (s.panel p).pstate with
  | .test => (.busyInTest, s)
  | .empty | .held =>
    if (s.panel p).tileBusy then (.stateConflict, s)
    else (.ok, s.setPanel p { s.panel p with tileBusy := true })
  | _ => (.stateConflict, s)

/-- TILE_MEM_CLEAR, a write to 0x3205:panel (R46). -/
def execTileMemClear (src : Source) (panel value : Nat) (s : State) : Host.Outcome State Fault Refusal :=
  .next (s.command src 0x3205 panel 2 (leBytes 1 value) [] true true (tileMemClearEffect panel))

/-- A release that waited proceeds once nothing holds it (R46, R436), where the panel is still HELD in OPERATIONAL; elsewhere it is
dropped. -/
def State.waitedRelease (s : State) (p : Nat) : State :=
  let x := s.panel p
  match x.releaseWait with
  | some fresh =>
    if x.tileBusy || x.restaging then s
    else if x.pstate = .held ∧ s.dev.state = .operational then s.runPanel p fresh
    else s.setPanel p { x with releaseWait := none }
  | none => s

/-- TILE_MEM_CLEAR_DONE (R46): 1,024 SHUT cycles after acceptance the tile memories are 0; a release that waited
proceeds. -/
def execTileMemClearDone (panel : Nat) (s : State) : Host.Outcome State Fault Refusal :=
  let x := s.panel panel
  if x.tileBusy && s.shutRuns then
    .next ((s.setPanel panel { x with tileBusy := false, tileMem := [] }).waitedRelease panel)
  else .next s

/-- PANEL_CLOCK_SEL (R56): written in EMPTY, LOADING or HELD. -/
def panelClockSelEffect (p v : Nat) : Effect := fun s =>
  match (s.panel p).pstate with
  | .test => (.busyInTest, s)
  | .running => (.stateConflict, s)
  | _ => (.ok, s.wr 0x3200 p v)

/-- PANEL_CLOCK_SEL_WRITE, a write to 0x3200:panel (R56). -/
def execPanelClockSelWrite (src : Source) (panel sel : Nat) (s : State) : Host.Outcome State Fault Refusal :=
  .next (s.command src 0x3200 panel 2 (leBytes 1 sel) (s.regBytes 0x3200 panel) true true
    (panelClockSelEffect panel sel))

/-- USER_EVENT (R61): the port of a panel whose clock ticks; discarded and counted while the port is not enabled. -/
def execUserEvent (panel code : Nat) (s : State) : Host.Outcome State Fault Refusal :=
  if s.panelTicks panel then
    if s.rd 0x3203 panel = 1 then
      .next (s.eventAt (userPort panel) (fabricCode panel) 0x10 (256 * panel + code % 256))
    else .next (s.bump 0x3204 panel 1)
  else .next s

/-- The cycles that a panel's reset lasts can pass (R59): of the panel clock, or of SHUT where the panel clock is gated. -/
def State.resetPasses (s : State) (p : Nat) : Bool :=
  match (s.panel p).reset with
  | some .clocked => s.fclkTicks (s.rd 0x3200 p) && !(s.panel p).restaging
  | some _ => s.shutRuns
  | none => false

/-- PANEL_RESET_END (R59): 16 panel clock cycles, or 16 or 200 SHUT cycles, have passed. -/
def execPanelResetEnd (panel : Nat) (s : State) : Host.Outcome State Fault Refusal :=
  if s.resetPasses panel then .next (s.setPanel panel (s.panel panel).endReset) else .next s

/-- PANEL_FABRIC_STATUS (R65). CLAMPED is 1 until the first panel clock edge in RUNNING (R55). CLOCK_RUNNING reads 0 while the FCLK is gated (R442, R444), and in TEST, where the engine's clock
takes the panel clock's place (R58; log 131). -/
def State.panelFabricStatus (s : State) (p : Nat) : Nat :=
  let x := s.panel p
  let run := x.pstate = .running
  let sel := s.rd 0x3200 p
  let clock := (run || x.pstate = .held && !x.parked && !x.restaging) && !s.clkLost.contains (7 + sel)
  sel + 16 * (if x.divisor = 4 then 2 else if x.divisor = 2 then 1 else 0)
    + 256 * flag (clock && s.dev.state != .safeStop) + 512 * flag (!run || x.clamped) + 1024 * flag x.parked
    + 2048 * flag x.tileBusy

end Sys2Proof.Machine
end

