-- ==== Sys2Proof/Machine/Memory.lean ====
section
/-! DEFINITION. The memory tier (spec/04) and its integrity services (spec/05): words and rows with their code,
written bits, darn table, repair queues, trackers, rinse, ports, arbitration and ownership. -/

namespace Sys2Proof.Machine

/-- A bank's arbiter state. -/
def State.bank (s : State) (b : Nat) : Bank := Tab.look (fun _ => Bank.init) s.mem.banks b

/-- Store a bank's arbiter state. -/
def State.setBank (s : State) (b : Nat) (x : Bank) : State :=
  { s with mem := { s.mem with banks := Tab.put (fun _ => Bank.init) s.mem.banks b x } }

/-- The word address of a word (R93). -/
def wordAddr (bank row word : Nat) : Nat := 32768 * bank + row * 8 + word

/-- The bank of a word address. -/
def bankOf (a : Nat) : Nat := a / 32768

/-- The row of a word address. -/
def rowOf (a : Nat) : Nat := a / 8 % 4096

/-- The bank group of a bank (R95). -/
def groupOf (bank : Nat) : Nat := bank / 32

/-- What an unlisted word's check bits read as: those of zero data at its address; 0 in the spare array. -/
def defaultCheck (a : Nat) : Nat := if a < 2 ^ 26 then tierCheck a 0 else 0

/-- What an unlisted byte of the tier reads as: 0, as the initialisation engine leaves it (R117). -/
def memDefault (_ : Nat) : Byte := 0

/-- Bytes `addr … addr+n-1` as a little-endian number (R5). -/
def readBytes (m : List Host.Cell) (addr : Nat) : Nat → Nat
  | 0 => 0
  | n + 1 => (Tab.look memDefault m addr).toNat + 256 * readBytes m (addr + 1) n

/-- Store the low `n` bytes of a number at `addr …`. -/
def writeBytes (m : List Host.Cell) (addr : Nat) : Nat → Nat → List Host.Cell
  | 0, _ => m
  | n + 1, v => writeBytes (Tab.put memDefault m addr (BitVec.ofNat 8 v)) (addr + 1) n (v / 256)

/-- Where a spare word of the spare array is held: above the 2^26 words of the tier (log 9). -/
def spareAt (bank e : Nat) : Nat := 2 ^ 26 + bank * 8 + e

/-- The darn entry that is VALID for a word, if any (R130). -/
def Bank.spareOf (x : Bank) (a : Nat) : Option Nat :=
  (x.darn.find? (fun d => d.2.valid && d.2.row = rowOf a && d.2.word = a % 8)).map (·.1)

/-- Where the word with word address `a` is stored: its place, or the spare that replaces it (R130). -/
def State.place (s : State) (a : Nat) : Nat :=
  match (s.bank (bankOf a)).spareOf a with
  | some e => spareAt (bankOf a) e
  | none => a

/-- The stored data of a word. -/
def Mem.data (m : Mem) (pl : Nat) : Nat := readBytes m.bytes (pl * 32) 32

/-- The stored check bits of a word. -/
def Mem.chk (m : Mem) (pl : Nat) : Nat := Tab.look defaultCheck m.checks pl

/-- Store a word's data and check bits. -/
def Mem.store (m : Mem) (pl data check : Nat) : Mem :=
  { m with bytes := writeBytes m.bytes (pl * 32) 32 data, checks := Tab.put defaultCheck m.checks pl check }

/-- The written bit of a row (R114). -/
def State.isWritten (s : State) (bank row : Nat) : Bool :=
  Tab.look (fun _ => false) s.mem.written (4096 * bank + row)

/-- Set the written bit of a row. -/
def State.markWritten (s : State) (bank row : Nat) : State :=
  { s with mem := { s.mem with written := Tab.put (fun _ => false) s.mem.written (4096 * bank + row) true } }

/-- A bit of a row's link entry has changed in the array (R151): bits 0–37 the entry, 38–44 its check. -/
def State.upsetLink (s : State) (bank row b : Nat) : State :=
  match Tab.look (fun _ => none) s.qm.links (4096 * bank + row) with
  | some l =>
    { s with qm := { s.qm with
        links := Tab.put (fun _ => none) s.qm.links (4096 * bank + row) (some { l with flips := l.flips ^^^ 2 ^ b }) } }
  | none => s

/-- Stored bits of a row have changed in the array: `upsets` lists word × 288 + bit, data bits first; from 2,304 on they are the
bits of the row's link entry. -/
def State.upset (s : State) (bank row : Nat) : List Nat → State
  | [] => s
  | u :: t =>
    if 2304 ≤ u then (s.upsetLink bank row ((u - 2304) % 45)).upset bank row t else
    let pl := s.place (wordAddr bank row (u / 288 % 8))
    let b := u % 288
    let d := s.mem.data pl
    let c := s.mem.chk pl
    let m := if b < 256 then s.mem.store pl (d ^^^ 2 ^ b) c else s.mem.store pl d (c ^^^ 2 ^ (b - 256))
    State.upset { s with mem := m } bank row t

/-- The split-write mode is enabled on a bank (R139). -/
def State.splitOn (s : State) (bank : Nat) : Bool := s.rd 0x4310 2 = 1 && s.rd 0x4310 1 = bank

/-- LAST_ERROR of a group (R145). -/
def State.lastError (s : State) (req cls bits a : Nat) : State :=
  s.wr 0x4302 (groupOf (bankOf a)) (2 ^ 56 * req + 2 ^ 50 * cls + 2 ^ 48 * bits + a)

/-- The repeat tracker of a group. -/
def State.tracker (s : State) (g : Nat) : List Track := Tab.look (fun _ => []) s.mem.trackers g

/-- Store a group's tracker. -/
def State.setTracker (s : State) (g : Nat) (t : List Track) : State :=
  { s with mem := { s.mem with trackers := Tab.put (fun _ => []) s.mem.trackers g t } }

/-- The first free darn entry of a bank (R131). -/
def Bank.freeEntry (x : Bank) : Option Nat :=
  (List.range 8).find? (fun e => (Tab.look (fun _ => DarnEntry.mk false false 0 0 0 0) x.darn e).cause = 0)

/-- A darn entry that is free. -/
def darnFree : DarnEntry := ⟨false, false, 0, 0, 0, 0⟩

/-- Store a darn entry. -/
def Bank.setDarn (x : Bank) (e : Nat) (d : DarnEntry) : Bank :=
  { x with darn := Tab.put (fun _ => darnFree) x.darn e d }

/-- A migration of a word starts (R131): a free entry is taken with MIGRATING. -/
def State.startMigration (s : State) (a cause : Nat) (e : Nat) : State :=
  let b := bankOf a
  s.setBank b ((s.bank b).setDarn e ⟨false, true, cause, 0, rowOf a, a % 8⟩)

/-- A bank has no free entry for a hard fault (R131): counted, the first in each bank with its event and map bit. -/
def State.darnExhausted (s : State) (b : Nat) : State :=
  let s1 := s.bump 0x4300 0x0D 1
  let g := groupOf b
  if (s1.rd 0x4402 g).testBit (b % 32) then s1
  else (s1.wr 0x4402 g (setBit (s1.rd 0x4402 g) (b % 32) true)).event 0x08 0x04 b

/-- A hard fault of a word is declared (R129, R131). With WRITEBACK_ENABLE FALSE none is; a word whose migration failed,
or that is already darned or being migrated, declares none. -/
def State.hardFault (s : State) (a : Nat) : State :=
  let b := bankOf a
  let x := s.bank b
  if s.rd 0x4300 1 = 0 || s.mem.barred.contains a then s
  else if x.darn.any (fun d => d.2.row = rowOf a && d.2.word = a % 8) then s
  else
    let s1 := s.bump 0x4300 0x0C 1
    match x.freeEntry with
    | some e => s1.startMigration a 1 e
    | none => s1.darnExhausted b

/-- Free place for a new tracker entry: below 64, else without the oldest (R129). -/
def trackRoom (l : List Track) : List Track :=
  if l.length < 64 then l
  else
    match l.foldl (fun (m : Option Track) t => match m with
      | none => some t
      | some u => if t.first < u.first then some t else some u) none with
    | some u => l.erase u
    | none => l

/-- The tracker on a correction of word `a` (R129); suspended in split-write mode (R139). -/
def State.trackCorrection (s : State) (a : Nat) : State :=
  let g := groupOf (bankOf a)
  if s.splitOn (bankOf a) then s
  else
    let now := s.dev.aonTime
    let l := s.tracker g
    let window := 1000 * s.rd 0x4300 2
    let e2 : Track :=
      match l.find? (fun t => t.addr = a) with
      | none => ⟨a, 1, now, false⟩
      | some e =>
        if e.armed then
          (if window < now - e.first then ⟨a, 1, now, false⟩ else ⟨a, e.count + 1, e.first, false⟩)
        else e
    let rest := l.filter (fun t => t.addr ≠ a)
    if e2.count = s.rd 0x4300 3 then (s.setTracker g rest).hardFault a
    else s.setTracker g (trackRoom rest ++ [e2])

/-- The tracker on a performed write-back of word `a` (R129). With WRITEBACK_ENABLE FALSE no entry is armed. -/
def State.trackWriteback (s : State) (a : Nat) : State :=
  let g := groupOf (bankOf a)
  if s.rd 0x4300 1 = 0 then s
  else s.setTracker g ((s.tracker g).map (fun t => if t.addr = a then { t with armed := true } else t))

/-- A write has replaced the word `a`: repair entries that hold it are dropped at admission (R128). -/
def State.staleRepairs (s : State) (a : Nat) : State :=
  let g := groupOf (bankOf a)
  let l := Tab.look (fun _ => []) s.mem.repairs g
  let l2 := l.map (fun r => if r.words.any (fun w => decide (w.1 = a)) then { r with stale := true } else r)
  { s with mem := { s.mem with repairs := Tab.put (fun _ => []) s.mem.repairs g l2 } }

/-- The effect of a read's decode on counters, events, LAST_ERROR, the spare's count and the tracker (R129, R133,
R137, R144). `req` is the REQUESTER code of R145. -/
def State.noteWord (s : State) (req a : Nat) (c : WordClass) : State :=
  let b := bankOf a
  match c with
  | .clean => s
  | .correctable _ _ n =>
    let s1 := ((s.count64 0x4300 7 1).bump 0x4301 (groupOf b) 1).lastError req 1 n a
    let s2 :=
      match (s1.bank b).spareOf a with
      | some e =>
        let d := Tab.look (fun _ => darnFree) (s1.bank b).darn e
        s1.setBank b ((s1.bank b).setDarn e { d with spareCe := satAdd 255 d.spareCe 1 })
      | none => s1
    s2.trackCorrection a
  | .uncorrectable => ((s.count64 0x4300 8 1).lastError req 2 0 a).event 0x08 0x01 b
  | .address => ((s.count64 0x4300 9 1).lastError req 3 0 a).event 0x08 0x02 b

/-- The decode of a stored word against its word address (R124). -/
def State.decodeAt (s : State) (a : Nat) : WordClass :=
  tierDecode a (s.mem.data (s.place a)) (s.mem.chk (s.place a))

/-- The more severe of two statuses (R106): address, data, corrected, OK. -/
def worse (a b : Nat) : Nat := if a < b then b else a

/-- Write a whole word with fresh check bits (R126). `fold` is the word address folded into the code. -/
def State.putWordAs (s : State) (a fold data : Nat) : State :=
  State.staleRepairs { s with mem := s.mem.store (s.place a) (data % 2 ^ 256) (tierCheck fold (data % 2 ^ 256)) } a

/-- Write a whole word with fresh check bits (R126). -/
def State.putWord (s : State) (a data : Nat) : State := s.putWordAs a a data

/-- Write the words of a row, `n` of them from word `w` (R126). -/
def State.putWords (s : State) (bank row w : Nat) : Nat → Nat → State
  | 0, _ => s
  | n + 1, v => (s.putWord (wordAddr bank row w) v).putWords bank row (w + 1) n (v / 2 ^ 256)

/-- The first row from `r` on, of `n` rows, that no owner has written. -/
def State.skipWritten (s : State) (bank : Nat) : Nat → Nat → Nat
  | 0, r => r
  | n + 1, r => if s.isWritten bank r then s.skipWritten bank n (r + 1) else r

/-- A wipe of which every row has been written or zeroed is over (R117). -/
def State.wipeEnds (s : State) (bank : Nat) : State :=
  let x := s.bank bank
  if x.wipePending && bank < 1280 && 4096 ≤ s.skipWritten bank (4096 - x.initRow) x.initRow then
    (s.setBank bank { x with initRow := 0, wipePending := false }).event 0x06 0x02 bank
  else s

/-- A press write, or a row write: the row is stored and its written bit set (R115, R126), which can end a wipe (R117). -/
def State.putRow (s : State) (bank row data : Nat) : State :=
  ((s.putWords bank row 0 8 data).markWritten bank row).wipeEnds bank

/-- Queue a repair write-back of a row's corrected words (R127): one entry, or counted once a row when the queue is full
(log 148). -/
def State.queueRepair (s : State) (bank row : Nat) (ws : List (Nat × Nat)) : State :=
  if ws.isEmpty || s.rd 0x4300 1 = 0 then s
  else
    let g := groupOf bank
    let l := Tab.look (fun _ => []) s.mem.repairs g
    if l.length < 16 then
      { s with mem := { s.mem with repairs := Tab.put (fun _ => []) s.mem.repairs g (l ++ [⟨bank, row, ws, false⟩]) } }
    else s.bump 0x4300 0x0B 1

/-- What a read of a word or a row gives. -/
structure ReadResult where
  status : Nat
  data : Nat
  state : State

/-- What a word's class delivers: its data, corrected where it can be; the data of a poisoned word is free (log 10). -/
def State.delivered (s : State) (c : WordClass) (a : Nat) : Nat :=
  match c with
  | .correctable d _ _ => d
  | .clean => s.mem.data (s.place a)
  | _ => s.freeNow % 2 ^ 256

/-- Decode `n` words of a row from word `w`: the worst status, the delivered data and the corrected words. -/
def State.readWords (s : State) (req bank row w : Nat) : Nat → Nat × Nat × List (Nat × Nat) × State
  | 0 => (0, 0, [], s)
  | n + 1 =>
    let a := wordAddr bank row w
    let c := s.decodeAt a
    let d := s.delivered c a
    let s1 := (if c = .uncorrectable ∨ c = .address then s.drawn else s).noteWord req a c
    let r := s1.readWords req bank row (w + 1) n
    (worse c.status r.1, d + 2 ^ 256 * r.2.1, c.mended a ++ r.2.2.1, r.2.2.2)

/-- A read of a row whose written bit is 0 (R114): zero data, UNINIT, its count and its sticky bit. -/
def State.uninit (s : State) (bank : Nat) : State :=
  let g := groupOf bank
  let s1 := s.count64 0x4000 4 1
  if (s1.rd 0x4001 g).testBit (bank % 32) then s1
  else (s1.wr 0x4001 g (setBit (s1.rd 0x4001 g) (bank % 32) true)).event 0x06 0x01 bank

/-- A read of `n` words of a row from word `w`, with every effect of R114, R124, R127 and R129. The data of a poisoned
word is not to be used: a free value (log 10). -/
def State.readRow (s : State) (req bank row w n : Nat) : ReadResult :=
  if s.isWritten bank row then
    let r := s.readWords req bank row w n
    ⟨r.1, r.2.1, r.2.2.2.queueRepair bank row r.2.2.1⟩
  else ⟨2, 0, s.uninit bank⟩

/-- Merge the enabled bytes of `new` over `old` (R104). -/
def mergeBytes (be old new : Nat) : Nat → Nat
  | 0 => 0
  | n + 1 =>
    mergeBytes be old new n + (if be.testBit n then new / 256 ^ n % 256 else old / 256 ^ n % 256) * 256 ^ n

/-- A word write with byte enables (R104, R115, R126, R140): its completion status and the state. -/
def State.writeWord (s : State) (req a be data : Nat) : Nat × State :=
  let b := bankOf a
  let row := rowOf a
  if be = 0 then (0, s)
  else if be % 2 ^ 32 = 2 ^ 32 - 1 then
    let s1 := if s.isWritten b row then s else s.putRow b row 0
    let ov := s.rd 0x4310 7
    if req = 0x43 ∧ s.splitOn b ∧ ov.testBit 31 then
      (0, (s1.putWordAs a (ov % 2 ^ 26) data).wr 0x4310 7 (ov % 2 ^ 31))
    else (0, s1.putWord a data)
  else if !s.isWritten b row then (0, (s.putRow b row 0).putWord a (mergeBytes be 0 data 32))
  else
    let c := s.decodeAt a
    match c with
    | .clean => (0, s.putWord a (mergeBytes be (s.mem.data (s.place a)) data 32))
    | .correctable d _ _ =>
      let s1 := s.noteWord req a c
      let s2 := s1.putWord a (mergeBytes be d data 32)
      (1, (s2.count64 0x4300 0x0A 1).trackWriteback a)
    | _ => (c.status, s.noteWord req a c)

/-- The owner code of a panel (R110). -/
def panelCode (p : Nat) : Nat := p + 1

/-- Whether a requester owns the bank now; during a handover nobody is admitted (R23, R24, R111). -/
def State.owns (s : State) (code bank : Nat) : Bool := (s.bank bank).owner = code && !(s.bank bank).handover

/-- A request of a bank's new owner is held while the handover drains (R111 step 2). -/
def State.heldFor (s : State) (code bank : Nat) : Bool :=
  (s.bank bank).handover && (s.bank bank).newOwner = code

/-- A request from a requester that is not the owner is counted, with one event (R24). -/
def State.ownerFault (s : State) (bank : Nat) : State := (s.bump 0x4000 5 1).event 0x07 0x02 bank

/-- A reserved bank number is counted, with one event (R94). -/
def State.rangeFault (s : State) (code : Nat) : State := (s.bump 0x4000 6 1).event 0x07 0x03 code

/-- A read by a T0 requester through the base channel, of `n` words of a row (R24, R94, R114, R124): status 5 when not
performed. -/
def State.t0Read (s : State) (code a n : Nat) : ReadResult :=
  let b := bankOf a
  if 1280 ≤ b then ⟨5, 0, s.rangeFault code⟩
  else if s.owns code b then s.readRow code b (rowOf a) (a % 8) n
  else ⟨5, 0, s.ownerFault b⟩

/-- A write by a T0 requester of bytes within one word. -/
def State.t0Write (s : State) (code a be data : Nat) : Nat × State :=
  let b := bankOf a
  if 1280 ≤ b then (5, s.rangeFault code)
  else if s.owns code b then s.writeWord code a be data
  else (5, s.ownerFault b)

/-- Check bits that decode as uncorrectable for a word (R267): the spec leaves which, so they are a free value so long as
they do (log 1), and three inverted bits where it would not. -/
def State.poisonCheck (s : State) (a data : Nat) : Nat :=
  let c := s.freeNow % 2 ^ 32
  match tierDecode a data c with
  | .uncorrectable => c
  | _ => tierCheck a data ^^^ 7

/-- A poisoned write by a T0 requester (R267): the word is stored with check bits that decode as uncorrectable. -/
def State.t0WritePoison (s : State) (code a be data : Nat) : State :=
  let r := s.t0Write code a be data
  if r.1 < 3 ∧ be ≠ 0 then
    let pl := r.2.place a
    let d := r.2.mem.data pl
    State.drawn { r.2 with mem := r.2.mem.store pl d (r.2.poisonCheck a d) }
  else r.2

/-- A row write by a T0 requester. -/
def State.t0WriteRow (s : State) (code bank row data : Nat) : Nat × State :=
  if 1280 ≤ bank then (5, s.rangeFault code)
  else if s.owns code bank then (0, s.putRow bank row data)
  else (5, s.ownerFault bank)

/-- MEM runs (R441, R442). -/
def State.zeroing (s : State) : Bool := (List.range 1280).any (fun b => (s.bank b).wipePending)

/-- The MEM clock runs: in MANAGED to QUIESCING; in BOOT and AWAIT_FW while zeroing is in progress or after a
BASE_WARM reset; not while its PLL has lost lock (R442). -/
def State.memRuns (s : State) : Bool :=
  !s.clkLost.contains 15 && (!s.dev.held || s.memKept) &&
    match s.dev.state with
    | .managed | .operational | .quiescing => true
    | .boot | .awaitFw => s.memKept || s.zeroing
    | _ => false

/-- The requests of a port: 0 press, 2 word port of T2, 4 word port of T4. -/
def Mem.port (m : Mem) (port tile : Nat) : List PortReq :=
  Tab.look (fun _ => []) (if port = 0 then m.press else if port = 2 then m.word2 else m.word4) tile

/-- Store the requests of a port. -/
def Mem.setPort (m : Mem) (port tile : Nat) (l : List PortReq) : Mem :=
  if port = 0 then { m with press := Tab.put (fun _ => []) m.press tile l }
  else if port = 2 then { m with word2 := Tab.put (fun _ => []) m.word2 tile l }
  else { m with word4 := Tab.put (fun _ => []) m.word4 tile l }

/-- Store the requests of a port. -/
def State.setPort (s : State) (port tile : Nat) (l : List PortReq) : State :=
  { s with mem := s.mem.setPort port tile l }

/-- The panel behind a port. -/
def portPanel (port tile : Nat) : Nat := panelOfTile tile (port = 4)

/-- A request is accepted while the port holds fewer than 16 (R97, R104). -/
def State.acceptPort (s : State) (port tile : Nat) (r : PortReq) : State :=
  let l := s.mem.port port tile
  if l.length < 16 then
    s.setPort port tile (l ++ [{ r with age := s.mem.cycle }])
  else s

/-- The press register of a T2 tile (R97). -/
def State.preg (s : State) (tile : Nat) : Nat := Tab.look (fun _ => 0) s.mem.preg tile

/-- Load a press register. -/
def State.setPreg (s : State) (tile v : Nat) : State :=
  { s with mem := { s.mem with preg := Tab.put (fun _ => 0) s.mem.preg tile (v % 2 ^ 2048) } }

/-- A tile's panel runs, so the tile can raise a request (R55, R58). -/
def State.tileRuns (s : State) (port tile : Nat) : Bool := tile < 1280 && s.panelTicks (portPanel port tile)

/-- Every access in flight at the ports of a panel's tiles is passed by a switch or parking (R79, R60). -/
def State.crossAccesses (s : State) (p : Nat) : State :=
  let mark := fun (l : List PortReq) => l.map (fun r => { r with crossed := true })
  (tilesOf p).foldl (fun t tile =>
    if p < 16 then
      (t.setPort 0 tile (mark (t.mem.port 0 tile))).setPort 2 tile (mark (t.mem.port 2 tile))
    else t.setPort 4 tile (mark (t.mem.port 4 tile))) s

/-- PRESS_READ (R97, R100): a request of the tile's running panel is accepted at the press port. -/
def execPressRead (tile row : Nat) (persist : Bool) (s : State) : Host.Outcome State Fault Refusal :=
  if s.tileRuns 0 tile then
    .next (s.acceptPort 0 tile ⟨row % 4096, 0, false, persist, 0, 0, 0, 0, false, 0⟩)
  else .next s

/-- PRESS_WRITE (R99): the row data is the press register as it stands when the request is accepted. -/
def execPressWrite (tile row : Nat) (persist : Bool) (s : State) : Host.Outcome State Fault Refusal :=
  if s.tileRuns 0 tile then
    .next (s.acceptPort 0 tile ⟨row % 4096, 0, true, persist, 0, s.preg tile, 0, 0, false, 0⟩)
  else .next s

/-- The effective press budget (R102). -/
def State.pressBudget (s : State) : Nat :=
  if s.throttle.budget && 64 < s.rd 0x4000 1 then 64 else s.rd 0x4000 1

/-- The first request of a port that waits for budget: the allocator cycle from which it waits (R103). -/
def State.budgetAge (s : State) (tile : Nat) : Option Nat :=
  ((s.mem.port 0 tile).find? (fun r => r.phase = 0)).map (·.age)

/-- The tiles of a panel with a request waiting for budget, the longest wait first (R103). -/
def State.budgetTiles (s : State) (p : Nat) : List Nat :=
  let waiting := (tilesOf p).filterMap (fun t => (s.budgetAge t).map (fun a => (a, t)))
  (waiting.mergeSort (fun x y => x.1 < y.1 || x.1 = y.1 && x.2 ≤ y.2)).map (·.2)

/-- Grant the first waiting request of a tile. -/
def grantFirst : List PortReq → List PortReq
  | [] => []
  | r :: t => if r.phase = 0 then { r with phase := 1 } :: t else r :: grantFirst t

/-- PRESS_BUDGET_GRANT (R103): one MEM cycle of the allocator. At most the effective budget, at most one per tile;
panels in rotating order, within a panel the longest wait first; a cycle in which a request goes on waiting counts as a
stall. -/
def execPressBudgetGrant (s : State) : Host.Outcome State Fault Refusal :=
  if s.memRuns then
    let order := ((List.range 16).map (fun k => (s.mem.rotation + k) % 16)).flatMap s.budgetTiles
    let granted := order.take s.pressBudget
    let s1 := granted.foldl (fun t tile => t.setPort 0 tile (grantFirst (t.mem.port 0 tile))) s
    let s2 := { s1 with mem := { s1.mem with rotation := (s1.mem.rotation + 1) % 16, cycle := s1.mem.cycle + 1 } }
    if granted.length < order.length then .next (s2.count64 0x4000 8 1) else .next s2
  else .next s

/-- The request of a port that is presented to the bank: the first without a completion, once granted (R101). -/
def headReq (l : List PortReq) : Option PortReq :=
  match l.find? (fun r => r.phase ≠ 2) with
  | some r => if r.phase = 1 then some r else none
  | none => none

/-- The first request without a completion gets one. -/
def completeFirst (status data : Nat) : List PortReq → List PortReq
  | [] => []
  | r :: t =>
    if r.phase = 2 then r :: completeFirst status data t
    else { r with phase := 2, status := status, data := data } :: t

/-- Give the presented request of a port its completion. -/
def State.finish (s : State) (port tile status data : Nat) : State :=
  s.setPort port tile (completeFirst status data (s.mem.port port tile))

/-- A request presented by a panel that is not the owner is answered POISON_OWNER and takes no bank cycle (R24, R107);
a request of a handover's new owner is held (R111). -/
def State.answerForeign (s : State) (port bank : Nat) : State :=
  let code := panelCode (portPanel port bank)
  match headReq (s.mem.port port bank) with
  | some _ =>
    if s.owns code bank || s.heldFor code bank then s
    else (s.ownerFault bank).drawn.finish port bank 5 (s.freeNow % 2 ^ (if port = 0 then 2048 else 256))
  | none => s

/-- A port's presented request that its owner may have performed. -/
def State.ownHead (s : State) (port bank : Nat) : Option PortReq :=
  if s.owns (panelCode (portPanel port bank)) bank then headReq (s.mem.port port bank) else none

/-- Perform an owner's press request (R100, R107): one press transfer. -/
def State.performPress (s : State) (bank : Nat) (r : PortReq) : State :=
  let s0 := s.count64 0x4000 7 1
  if r.write then (s0.putRow bank r.row r.data).finish 0 bank 0 0
  else
    let q := s0.readRow (panelCode (portPanel 0 bank)) bank r.row 0 8
    q.state.finish 0 bank q.status q.data

/-- Perform an owner's word request (R105, R107). -/
def State.performWord (s : State) (port bank : Nat) (r : PortReq) : State :=
  let code := panelCode (portPanel port bank)
  if r.write then
    let q := s.writeWord code (wordAddr bank r.row r.word) r.be r.data
    q.2.finish port bank q.1 0
  else
    let q := s.readRow code bank r.row r.word 1
    q.state.finish port bank q.status q.data

/-- The requests of the base channel that wait at a bank's arbiter. -/
def State.atBank (s : State) (bank : Nat) : List BaseReq := Tab.look (fun _ => []) s.mem.atBank bank

/-- Store the base-channel requests of a bank's arbiter. -/
def State.setAtBank (s : State) (bank : Nat) (l : List BaseReq) : State :=
  { s with mem := { s.mem with atBank := Tab.put (fun _ => []) s.mem.atBank bank l } }

/-- Words a host read covers. -/
def HostRead.count (h : HostRead) : Nat := (h.addr + h.len - 1) / 32 + 1 - h.addr / 32

/-- The bytes of a host read whose words are all at hand. -/
def HostRead.bytes (h : HostRead) : List Byte :=
  slice ((List.range h.count).flatMap (fun k =>
    leBytes 32 (((h.words.find? (fun w => w.1 = h.addr / 32 + k)).map (·.2)).getD 0))) (h.addr % 32) h.len

/-- Answer a HOST read request (R24, R137, R168): a word arrives; when all have, the read completes, poisoned where one
of them is. -/
def State.answerBase (s : State) (r : BaseReq) (status data : Nat) : State :=
  if r.write then s
  else if r.atomic.isSome then
    match r.atomic with
    | some (_, size, _) => s.complete r.link r.tag 0 true (leBytes size data)
    | none => s
  else
    match s.mem.hostReads.find? (fun h => h.link = r.link && h.tag = r.tag) with
    | some h =>
      let g := { h with words := h.words ++ [(r.addr / 32, data)], poisoned := h.poisoned || decide (3 ≤ status) }
      let rest := s.mem.hostReads.erase h
      if g.words.length < g.count then { s with mem := { s.mem with hostReads := rest ++ [g] } }
      else State.complete { s with mem := { s.mem with hostReads := rest } } r.link r.tag 0 g.poisoned g.bytes
    | none => s

/-- The value an AtomicOp stores (R262): FetchAdd wraps at its size, Swap and CAS store the operand. -/
def atomicValue (op size old operand : Nat) : Nat := if op = 1 then (old + operand) % 256 ^ size else operand

/-- An AtomicOp at its bank (R262): the original value is returned; a CAS that does not match stores nothing; the store is the
read-modify-write of R126, and in a row not written the store of R115; a word that cannot be read is left and the completion is
poisoned (log 132). -/
def State.performAtomic (s : State) (r : BaseReq) (op size compare : Nat) : State :=
  let a := r.addr / 32
  let off := r.addr % 32
  let q := s.t0Read r.code a 1
  let old := q.data / 256 ^ off % 256 ^ size
  let base := if q.status = 2 then q.state else s
  let done :=
    if 3 ≤ q.status || op = 3 && old ≠ compare then q.state
    else (base.t0Write r.code a ((2 ^ size - 1) * 2 ^ off) (256 ^ off * atomicValue op size old r.data)).2
  done.complete r.link r.tag 0 (decide (3 ≤ q.status)) (leBytes size old)

/-- A base-channel request at its bank (R107, R109): performed for the owner, answered otherwise. -/
def State.performBase (s : State) (r : BaseReq) : State :=
  match r.atomic with
  | some (op, size, compare) => s.performAtomic r op size compare
  | none => if r.write then
    if r.poison then s.t0WritePoison r.code (r.addr / 32) r.be r.data
    else (s.t0Write r.code (r.addr / 32) r.be r.data).2
  else
    let q := s.t0Read r.code (r.addr / 32) 1
    q.state.answerBase r q.status q.data

/-- A repair write-back or a migration ranks above every owner (R107, R108); migration is suspended in split-write mode (R139). -/
def State.serviceWaits (s : State) (bank : Nat) : Bool :=
  (Tab.look (fun _ => []) s.mem.repairs (groupOf bank)).any (fun r => r.bank = bank)
    || (s.bank bank).darn.any (fun d => d.2.migrating) && !s.splitOn bank

/-- A T0 request that is not performed: a read returns poisoned data, which is free (R24, R94; log 10). -/
def State.refuseBase (s : State) (r : BaseReq) : State :=
  if r.write then s else s.drawn.answerBase r 5 (s.freeNow % 2 ^ 256)

/-- Base-channel requests at a bank whose requester is not the owner are answered and take no bank cycle (R24, R107). -/
def State.refuseAtBank (s : State) (bank : Nat) : List BaseReq → State
  | [] => s
  | r :: t =>
    if s.owns r.code bank || s.heldFor r.code bank then s.refuseAtBank bank t
    else (((s.setAtBank bank ((s.atBank bank).erase r)).ownerFault bank).refuseBase r).refuseAtBank bank t

/-- An owner's request waits at the bank (priorities 2 and 3 of R107); one that a handover holds or that R24 answers takes no
cycle. -/
def State.ownerWaits (s : State) (bank : Nat) : Bool :=
  (s.ownHead 0 bank).isSome || (s.ownHead 2 bank).isSome || (s.ownHead 4 bank).isSome
    || (s.atBank bank).any (fun r => s.owns r.code bank)

/-- The banks of the MEMORY engine's range in a group, and the bank its next or present slice tests (R459). -/
def State.testBank (s : State) (g : Nat) : Option Nat :=
  let lo := if s.st.first < 32 * g then 32 * g else s.st.first
  let hi := if s.st.first + s.st.count < 32 * g + 32 then s.st.first + s.st.count else 32 * g + 32
  let b := lo + (Tab.look (fun _ => TestGroup.none) s.st.groups g).ended
  if b < hi then some b else none

/-- A self-test slice holds a bank: every other request to it stalls (R108, R459). -/
def State.sliceOn (s : State) (bank : Nat) : Bool :=
  (Tab.look (fun _ => TestGroup.none) s.st.groups (groupOf bank)).slice && s.testBank (groupOf bank) = some bank

/-- BANK_ADMIT (R107): requests of other panels are answered under R24; then, unless a repair write-back or migration
takes the cycle, the highest owner request is admitted: press, word T2, word T4, base channel. `upsets` are stored bits
of the row read that have changed in the array. -/
def execBankAdmit (bank : Nat) (upsets : List Nat) (s : State) : Host.Outcome State Fault Refusal :=
  if s.memRuns && !s.sliceOn bank then
    let s1 := (((s.answerForeign 0 bank).answerForeign 2 bank).answerForeign 4 bank).refuseAtBank bank (s.atBank bank)
    if s1.serviceWaits bank then .next s1
    else
      match s1.ownHead 0 bank with
      | some r => .next ((s1.upset bank r.row upsets).performPress bank r)
      | none =>
        match s1.ownHead 2 bank with
        | some r => .next ((s1.upset bank r.row upsets).performWord 2 bank r)
        | none =>
          match s1.ownHead 4 bank with
          | some r => .next ((s1.upset bank r.row upsets).performWord 4 bank r)
          | none =>
            match s1.atBank bank with
            | r :: t =>
              if s1.heldFor r.code bank then .next s1
              else .next (((s1.setAtBank bank t).upset bank (rowOf (r.addr / 32)) upsets).performBase r)
            | [] => .next s1
  else .next s

/-- Deliver the oldest completion of a port (R97, R79): a completion that a switch has passed is delivered only with
PERSIST 1, and otherwise counts in INFLIGHT_DISCARDED. A delivered press read loads the press register (R98). -/
def State.deliver (s : State) (port tile : Nat) : State :=
  match s.mem.port port tile with
  | r :: t =>
    if r.phase = 2 then
      let s1 := s.setPort port tile t
      if r.crossed && !r.persist then s1.bump 0x3108 (portPanel port tile) 1
      else
        let s2 := if port = 0 && !r.write then s1.setPreg tile r.data else s1
        s2.emit (.tileDone port tile r.status (if r.write then 0 else r.data))
    else s
  | [] => s

/-- PRESS_COMPLETION (R100): delivered to a running panel; completions for a parked panel wait (R79). -/
def execPressCompletion (tile : Nat) (s : State) : Host.Outcome State Fault Refusal :=
  if s.tileRuns 0 tile then .next (s.deliver 0 tile) else .next s

/-- The press register with the enabled words replaced (R98). -/
def mergeWords (we old new : Nat) : Nat → Nat
  | 0 => 0
  | n + 1 =>
    mergeWords we old new n
      + (if we.testBit n then new / 2 ^ (256 * n) % 2 ^ 256 else old / 2 ^ (256 * n) % 2 ^ 256) * 2 ^ (256 * n)

/-- Whether the next completion of a press port loads its register. -/
def State.loadsPreg (s : State) (tile : Nat) : Bool :=
  match s.mem.port 0 tile with
  | r :: _ => r.phase = 2 && !r.write && (!r.crossed || r.persist)
  | [] => false

/-- PRESS_REG_WRITE (R98): the enabled words are loaded; in the cycle of a press read completion the completion is
loaded, the write discarded and the collision counted. -/
def execPressRegWrite (tile we data : Nat) (sameCycle : Bool) (s : State) : Host.Outcome State Fault Refusal :=
  if s.tileRuns 0 tile then
    if sameCycle && s.loadsPreg tile then .next ((s.deliver 0 tile).bump 0x4000 9 1)
    else .next (s.setPreg tile (mergeWords we (s.preg tile) data 8))
  else .next s

/-- A word port accepts requests: T2 always, T4 where frame 48 of the active context enables it (R104). -/
def State.wordPortOn (s : State) (port tile : Nat) : Bool :=
  s.tileRuns port tile && (port ≠ 4 || (s.panel (portPanel 4 tile)).wordPortOn (localTile tile))

/-- The port number of a word port on tier 2 or 4. -/
def wordPort (tier : Nat) : Nat := if tier = 4 then 4 else 2

/-- WORD_READ (R104). -/
def execWordRead (tile tier row word : Nat) (persist : Bool) (s : State) : Host.Outcome State Fault Refusal :=
  if s.wordPortOn (wordPort tier) tile then
    .next (s.acceptPort (wordPort tier) tile ⟨row % 4096, word % 8, false, persist, 0, 0, 0, 1, false, 0⟩)
  else .next s

/-- WORD_WRITE (R104): with every byte enable at 0 no bank operation is performed and the completion is OK. -/
def execWordWrite (tile tier row word be data : Nat) (persist : Bool) (s : State) :
    Host.Outcome State Fault Refusal :=
  if s.wordPortOn (wordPort tier) tile then
    .next (s.acceptPort (wordPort tier) tile
      ⟨row % 4096, word % 8, true, persist, be % 2 ^ 32, data % 2 ^ 256, 0, if be % 2 ^ 32 = 0 then 2 else 1,
        false, 0⟩)
  else .next s

/-- WORD_COMPLETION (R105, R79). -/
def execWordCompletion (tile tier : Nat) (s : State) : Host.Outcome State Fault Refusal :=
  if s.tileRuns (wordPort tier) tile then .next (s.deliver (wordPort tier) tile) else .next s

/-- The requests waiting for a group's base channel. -/
def State.channel (s : State) (g : Nat) : List BaseReq := Tab.look (fun _ => []) s.mem.channel g

/-- Store the requests waiting for a group's base channel. -/
def State.setChannel (s : State) (g : Nat) (l : List BaseReq) : State :=
  { s with mem := { s.mem with channel := Tab.put (fun _ => []) s.mem.channel g l } }

/-- A T0 requester presents a request on its group's base channel (R109); a reserved bank has none, and its request is
answered at once (R94). -/
def State.presentBase (s : State) (r : BaseReq) : State :=
  if 1280 ≤ bankOf (r.addr / 32) then (s.rangeFault r.code).refuseBase r else
  let g := groupOf (bankOf (r.addr / 32))
  let s1 := s.setChannel g (s.channel g ++ [{ r with age := s.mem.age }])
  { s1 with mem := { s1.mem with age := s1.mem.age + 1 } }

/-- The requester a group's base channel served last (R109): HOST before it has served one, so QM stands first (log 149). -/
def State.lastServed (s : State) (g : Nat) : Nat := Tab.look (fun _ => 0x44) s.mem.lastServed g

/-- The channel of a group has served a requester. -/
def State.setServed (s : State) (g code : Nat) : State :=
  { s with mem := { s.mem with lastServed := Tab.put (fun _ => 0x44) s.mem.lastServed g code } }

/-- The requesters of a group's channel in the order in which it looks for one: first the one after the requester served last
(R109). -/
def State.servedOrder (s : State) (g : Nat) : List Nat :=
  (List.range 5).map (fun k => 0x40 + (s.lastServed g - 0x40 + 1 + k) % 5)

/-- The request the base channel serves: the first requester code after the one served last (R109). -/
def State.channelPick (s : State) (g : Nat) : Option BaseReq :=
  (s.servedOrder g).findSome? (fun c => (s.channel g).find? (fun r => r.code = c))

/-- The channel of a group serves a request that waits for it (R109): it goes on to its bank's arbiter, where one of a requester
that does not own the bank is answered (R24). -/
def State.grantRequest (s : State) (g : Nat) (r : BaseReq) : State :=
  let s1 := (s.setChannel g ((s.channel g).erase r)).setServed g r.code
  let b := bankOf (r.addr / 32)
  if s1.owns r.code b || s1.heldFor r.code b then s1.setAtBank b (s1.atBank b ++ [r])
  else (s1.ownerFault b).refuseBase r

/-- BASE_CHANNEL_GRANT (R109): the channel of a group serves one requester in round-robin order. -/
def execBaseChannelGrant (group : Nat) (s : State) : Host.Outcome State Fault Refusal :=
  if s.memRuns then
    match s.channelPick group with
    | some r => .next (s.grantRequest group r)
    | none => .next s
  else .next s

/-- The channel of a group serves, before requester `code`, those that the rotation puts before it (R109). -/
def State.serveBefore (s : State) (g code : Nat) : List Nat → State
  | [] => s
  | c :: t =>
    if c = code then s
    else match (s.channel g).find? (fun r => r.code = c) with
      | some r => (s.grantRequest g r).serveBefore g code t
      | none => s.serveBefore g code t

/-- Whether an owner code may own bank `b` (R110). -/
def ownerFits (b code : Nat) : Bool :=
  code = 0 || code = panelCode (panelOfTile b false) || code = panelCode (panelOfTile b true)
    || 0x40 ≤ code && code ≤ 0x44

/-- The value check of BANK_OWNER (R110, R120). -/
def bankOwnerFits (b v : Nat) : Bool := bits v 31 24 = 0 && bits v 15 11 = 0 && ownerFits b (v % 256)

/-- The banks an owner holds or is being given. -/
def State.banksOf (s : State) (code : Nat) : Nat :=
  ((List.range 1280).filter (fun b => (s.bank b).owner = code || (s.bank b).handover && (s.bank b).newOwner = code)).length

/-- The state check and effect of a write to BANK_OWNER (R110–R112, R139). `inUse` says that QM or DIR reports the bank
in use, `tested` that self-test holds it, when every handover is refused (R462). -/
def bankOwnerEffect (b v : Nat) (inUse tested : Bool) : Effect := fun s =>
  let x := s.bank b
  let code := v % 256
  let same := code = x.owner
  if x.handover then (.stateConflict, s)
  else if s.splitOn b then (.stateConflict, s)
  else if inUse && !same || tested && !(same && !v.testBit 8) then (.stateConflict, s)
  else if !same && (code = 0x40 || code = 0x41) && 256 ≤ s.banksOf code then (.stateConflict, s)
  else if same && !v.testBit 8 then (.ok, s)
  else (.ok, s.setBank b { x with handover := true, newOwner := code, wipe := v.testBit 8 })

/-- BANK_OWNER as it reads (R120). -/
def Bank.ownerValue (x : Bank) : Nat :=
  x.owner + 512 * flag x.wipePending + 1024 * flag x.handover
    + 65536 * (if x.handover then x.newOwner else x.owner)

/-- A wipe of bank `b` voids a repair entry of it (R128). -/
def Repair.voidFor (b : Nat) (r : Repair) : Repair := if r.bank = b then { r with stale := true } else r

/-- A wipe (R116): every written bit of the bank is cleared and the initialisation engine starts from row 0. -/
def State.wipeBank (s : State) (b : Nat) : State :=
  let s1 := { s with mem := { s.mem with
    written := Tab.keep (fun k => decide (k / 4096 ≠ b)) s.mem.written
    repairs := s.mem.repairs.map (fun (q : Nat × List Repair) =>
      (q.1, q.2.map (Repair.voidFor b))) } }
  s1.setBank b { s1.bank b with wipePending := true, initRow := 0 }

/-- HANDOVER_DRAIN_DONE (R111 steps 4–5): OWNER takes the new code, a requested wipe runs, the event is written. -/
def execHandoverDrainDone (bank : Nat) (s : State) : Host.Outcome State Fault Refusal :=
  let x := s.bank bank
  if x.handover && s.memRuns && !s.sliceOn bank then
    let s1 := s.setBank bank { x with owner := x.newOwner, handover := false, wipe := false }
    let s2 := if x.wipe then s1.wipeBank bank else s1
    .next ((if x.newOwner = x.owner then s2 else s2.digestChange).event 0x07 0x01 bank)
  else .next s

/-- Write zero to the words of a row with valid check bits, leaving its written bit (R117). -/
def State.zeroWords (s : State) (bank row : Nat) : Nat → State
  | 0 => s
  | n + 1 =>
    let a := wordAddr bank row n
    let pl := s.place a
    State.zeroWords { s with mem := s.mem.store pl 0 (tierCheck a 0) } bank row n

/-- The row the initialisation engine zeroes next, 4,096 where none is left (R116, R117). -/
def State.initNext (s : State) (bank : Nat) : Nat :=
  s.skipWritten bank (4096 - (s.bank bank).initRow) (s.bank bank).initRow

/-- INIT_ENGINE_ROW (R117): the engine zeroes the next row that no owner has written, when no request of a higher place waits.
When every row has been written or zeroed WIPE_PENDING clears. -/
def execInitEngineRow (bank : Nat) (s : State) : Host.Outcome State Fault Refusal :=
  if s.memRuns && (s.bank bank).wipePending && bank < 1280 && !s.serviceWaits bank && !s.ownerWaits bank
      && !s.sliceOn bank then
    let k := s.initNext bank
    let s1 := if k < 4096 then s.zeroWords bank k 8 else s
    .next ((s1.setBank bank { s1.bank bank with initRow := k + 1 }).wipeEnds bank)
  else .next s

/-- Write the corrected words of a repair entry and arm their tracker entries (R127, R129). -/
def State.repairWords (s : State) : List (Nat × Nat) → State
  | [] => s
  | w :: t =>
    State.repairWords (State.trackWriteback
      { s with mem := s.mem.store (s.place w.1) w.2 (tierCheck w.1 w.2) } w.1) t

/-- The head of a group's repair queue is performed, or dropped when a write has replaced a word, a wipe has run, or its bank is
in split-write mode (R128). -/
def State.repairHead (s : State) (group : Nat) : State :=
  match Tab.look (fun _ => []) s.mem.repairs group with
  | r :: t =>
    if s.memRuns && !s.sliceOn r.bank then
      let s1 := { s with mem := { s.mem with repairs := Tab.put (fun _ => []) s.mem.repairs group t } }
      if r.stale || !s.isWritten r.bank r.row || s.splitOn r.bank then s1.bump 0x4300 0x0B 1
      else (s1.repairWords r.words).count64 0x4300 0x0A 1
    else s
  | [] => s

/-- REPAIR_WRITEBACK (R128). -/
def execRepairWriteback (group : Nat) (s : State) : Host.Outcome State Fault Refusal := .next (s.repairHead group)

/-- A migration that self-test asked for counts in MEM_DARNED when it is performed (R461). -/
def State.countDarned (s : State) (d : DarnEntry) : State := if d.cause = 3 then s.bump 0x7802 3 1 else s

/-- The word of the bank's migrating entry is read, and its corrected data written to the spare (R131); for an unwritten row the
entry becomes VALID with no copy; an unreadable word frees the entry. -/
def State.migrateWord (s : State) (bank : Nat) : State :=
  let x := s.bank bank
  match x.darn.find? (fun d => d.2.migrating) with
  | some (e, d) =>
    if s.memRuns && !s.splitOn bank && !s.sliceOn bank then
      let a := wordAddr bank d.row d.word
      let done := x.setDarn e { d with valid := true, migrating := false }
      if !s.isWritten bank d.row then ((s.setBank bank done).countDarned d).event 0x08 0x03 bank
      else
        let c := tierDecode a (s.mem.data a) (s.mem.chk a)
        let copy := fun (t : State) (v : Nat) =>
          State.event (State.countDarned { t with mem := t.mem.store (spareAt bank e) v (tierCheck a v) } d) 0x08 0x03 bank
        match c with
        | .clean => copy (s.setBank bank done) (s.mem.data a)
        | .correctable v _ _ => copy ((s.drawn.noteWord (s.freeNow % 256) a c).setBank bank done) v
        | _ =>
          let s1 := (s.drawn.noteWord (s.freeNow % 256) a c).setBank bank (x.setDarn e darnFree)
          State.event { s1 with mem := { s1.mem with barred := s1.mem.barred ++ [a] } } 0x08 0x05 bank
    else s
  | none => s

/-- DARN_MIGRATION (R131). -/
def execDarnMigration (bank : Nat) (s : State) : Host.Outcome State Fault Refusal := .next (s.migrateWord bank)

/-! The accesses of QM, DIR, PORTDMA and MGMT over a base channel (R95, R107, R109). -/

/-- The services that rank above a bank's owner take their cycles first (R107): `n` of them. -/
def State.servicesFirst (s : State) (bank : Nat) : Nat → State
  | 0 => s
  | n + 1 =>
    if s.serviceWaits bank then
      State.servicesFirst
        (if (Tab.look (fun _ => []) s.mem.repairs (groupOf bank)).isEmpty then s.migrateWord bank else s.repairHead (groupOf bank))
        bank n
    else s

/-- An access of a T0 requester wins its group's base channel, after those the rotation puts before it, and is admitted at its
bank behind the services (R107, R109): at most 16 write-backs and 8 migrations. -/
def State.baseTurn (s : State) (code bank : Nat) : State :=
  if 1280 ≤ bank then s
  else ((s.serveBefore (groupOf bank) code (s.servedOrder (groupOf bank))).setServed (groupOf bank) code).servicesFirst bank 24

/-- A read by QM, DIR, PORTDMA or MGMT over its base channel. -/
def State.tierRead (s : State) (code a n : Nat) : ReadResult := (s.baseTurn code (bankOf a)).t0Read code a n

/-- A write by QM, DIR, PORTDMA or MGMT over its base channel, of bytes within one word. -/
def State.tierWrite (s : State) (code a be data : Nat) : Nat × State := (s.baseTurn code (bankOf a)).t0Write code a be data

/-- A row write by QM, DIR, PORTDMA or MGMT over its base channel. -/
def State.tierWriteRow (s : State) (code bank row data : Nat) : Nat × State :=
  (s.baseTurn code bank).t0WriteRow code bank row data

/-- Whether a T0 requester's access to a bank is admitted or answered now (R107, R108, R111, R448): MEM runs, the tier gate is not closed, no slice holds a bank
that it owns or is being given, and no handover to it drains. -/
def State.bankOpen (s : State) (code bank : Nat) : Bool :=
  s.memRuns && !s.dev.held && !((s.owns code bank || s.heldFor code bank) && s.sliceOn bank) && !s.heldFor code bank

/-- No bank keeps a T0 requester waiting. -/
def State.tierOpen (s : State) (code : Nat) : Bool :=
  s.memRuns && s.mem.banks.all (fun x => s.bankOpen code x.1)

/-- A command from outside whose T0 requester waits at the tier is held, behind those of the same requester that are, and
presented again (R107, R108, R111; log 146). -/
def State.whenOpen (s : State) (ready : Bool) (code : Nat) (c : Instr) (t : State) : State :=
  if ready && !s.stalled.any (fun x => x.1 = code) then t else { s with stalled := s.stalled ++ [(code, c)] }

/-- The state check and effect of DARN_INSTALL (R132). -/
def darnInstallEffect (a : Nat) : Effect := fun s =>
  let x := s.bank (bankOf a)
  if (x.spareOf a).isSome then (.ok, s)
  else if x.darn.any (fun d => d.2.migrating) then (.stateConflict, s)
  else
    match x.freeEntry with
    | some e => (.ok, s.startMigration a 2 e)
    | none => (.stateConflict, s)

/-- DARN_INSTALL values that R132 rejects. -/
def darnInstallFits (v : Nat) : Bool := v < 2 ^ 26 && bankOf v < 1280

/-- DARN_INSTALL, a write to 0x4400:02 (R132). -/
def execDarnInstall (src : Source) (value : Nat) (s : State) : Host.Outcome State Fault Refusal :=
  .next (s.command src 0x4400 2 4 (leBytes 4 value) [] true (darnInstallFits value) (darnInstallEffect value))

/-- Whether every bank's pointer has wrapped more often than passes were counted (R134). -/
def State.passDone (s : State) : Bool :=
  (List.range 1280).all (fun b => decide (s.rd 0x4300 0x0E < (s.bank b).rinseWraps))

/-- A bank's row pointer goes on (R134): a wrap of the last pointer completes a pass. -/
def State.rinseOn (s : State) (b : Nat) : State :=
  let x := s.bank b
  let s1 := s.setBank b { x with
    rinsePtr := (x.rinsePtr + 1) % 4096
    rinseWraps := x.rinseWraps + (if x.rinsePtr = 4095 then 1 else 0) }
  if x.rinsePtr = 4095 ∧ s1.passDone then (s1.bump 0x4300 0x0E 1).event 0x08 0x08 ((s1.rd 0x4300 0x0E + 1) % 65536)
  else s1

/-- One bank falls due for its next row (R134, R136). A lag of 4,095 stays and the row beyond it is skipped. No row of a bank in
split-write mode falls due (R139; log 150). -/
def State.rinseDue (s : State) (b : Nat) : State :=
  let x := s.bank b
  if s.splitOn b then s
  else if x.rinseLag = 4095 then s.rinseOn b
  else
    let s1 := s.setBank b { x with rinseLag := x.rinseLag + 1 }
    let g := groupOf b
    if x.rinseLag + 1 = s.rd 0x4300 6 ∧ (s.rd 0x4303 g).testBit (b % 32) = false then
      (s1.wr 0x4303 g (setBit (s1.rd 0x4303 g) (b % 32) true)).event 0x08 0x06 b
    else s1

/-- RINSE_TICK (R134): every bank falls due for its next row, while rinse is on and MEM runs. -/
def execRinseTick (s : State) : Host.Outcome State Fault Refusal :=
  if s.memRuns && s.rd 0x4300 4 = 1 then .next ((List.range 1280).foldl State.rinseDue s) else .next s

/-- RINSE_ROW (R135, R136): the bank's due row is checked when nothing of a higher place waits, its lag falls, and a
wrap of the last pointer completes a pass. -/
def execRinseRow (bank : Nat) (upsets : List Nat) (s : State) : Host.Outcome State Fault Refusal :=
  let x := s.bank bank
  if s.memRuns && s.rd 0x4300 4 = 1 && 0 < x.rinseLag && bank < 1280 && !s.splitOn bank && !s.serviceWaits bank
      && !s.ownerWaits bank && !x.wipePending && !s.sliceOn bank then
    let s1 :=
      if s.isWritten bank x.rinsePtr then ((s.upset bank x.rinsePtr upsets).readRow 0xF1 bank x.rinsePtr 0 8).state else s
    let s2 := s1.count64 0x4300 0x10 1
    let s3 := s2.setBank bank { s2.bank bank with rinseLag := x.rinseLag - 1 }
    let g := groupOf bank
    let s4 :=
      if x.rinseLag = 1 ∧ (s3.rd 0x4303 g).testBit (bank % 32) then
        (s3.wr 0x4303 g (setBit (s3.rd 0x4303 g) (bank % 32) false)).event 0x08 0x07 bank
      else s3
    .next (s4.rinseOn bank)
  else .next s

/-- Whether the split-write objects are open in the life-cycle state in force (R139): not in BLANK, DEPLOYED or
SCRAPPED. -/
def State.splitLife (s : State) : Bool := s.lifecycle ≠ 0 && s.lifecycle ≠ 3 && s.lifecycle ≠ 5

/-- SPLIT_BANK (R139): refused while the mode is enabled. -/
def splitBankEffect (v : Nat) : Effect :=
  fun s => if s.rd 0x4310 2 = 1 then (.stateConflict, s) else (.ok, s.wr 0x4310 1 v)

/-- SPLIT_BANK_WRITE (R139). -/
def execSplitBankWrite (src : Source) (bank : Nat) (s : State) : Host.Outcome State Fault Refusal :=
  .next (s.command src 0x4310 1 3 (leBytes 2 bank) (s.regBytes 0x4310 1) s.splitLife true (splitBankEffect bank))

/-- SPLIT_ENABLE (R139). -/
def splitEnableEffect (on : Bool) : Effect := fun s =>
  if !on then (.ok, s.wr 0x4310 2 0)
  else
    let x := s.bank (s.rd 0x4310 1)
    if x.handover then (.stateConflict, s)
    else if x.owner ≠ 0x43 then (.ownerMismatch, s)
    else (.ok, s.wr 0x4310 2 1)

/-- SPLIT_ENABLE_WRITE (R139). -/
def execSplitEnableWrite (src : Source) (on : Bool) (s : State) : Host.Outcome State Fault Refusal :=
  .next (s.command src 0x4310 2 1 (leBytes 1 (flag on)) (s.regBytes 0x4310 2) s.splitLife true
    (splitEnableEffect on))

/-- The word that the split-write objects act on (R140). -/
def State.splitWord (s : State) : Nat := 32768 * s.rd 0x4310 1 + s.rd 0x4310 3 % 32768

/-- MGMT's accesses to the split bank through the split-write objects do not have to wait (R107, R108); a write that the device state
refuses is refused at once. -/
def State.splitOpen (s : State) (write : Bool) : Bool :=
  write && s.writesHeld 0x4310 || !s.fwRuns || s.bankOpen 0x43 (s.rd 0x4310 1)

/-- The split-write objects act while the mode is on and the word's row is written (R140). -/
def State.splitReady (s : State) : Bool :=
  s.rd 0x4310 2 = 1 && s.isWritten (s.rd 0x4310 1) (rowOf s.splitWord)

/-- SPLIT_DATA (R140): D0–D255 are written and the check bits left. -/
def splitDataEffect (v : Nat) : Effect := fun s =>
  if s.splitReady then
    let pl := s.place s.splitWord
    (.ok, { s with mem := s.mem.store pl (v % 2 ^ 256) (s.mem.chk pl) })
  else (.stateConflict, s)

/-- SPLIT_DATA, a write to 0x4310:04 (R140). -/
def execSplitData (src : Source) (data : List Byte) (s : State) : Host.Outcome State Fault Refusal :=
  .next (s.whenOpen (s.splitOpen true) 0x43 (.splitData src data)
    (s.command src 0x4310 4 10 data [] s.splitLife true (splitDataEffect (leValue data))))

/-- SPLIT_CHECK (R140): C0–C31 are written and the data left. -/
def splitCheckEffect (v : Nat) : Effect := fun s =>
  if s.splitReady then
    let pl := s.place s.splitWord
    (.ok, { s with mem := s.mem.store pl (s.mem.data pl) (v % 2 ^ 32) })
  else (.stateConflict, s)

/-- SPLIT_CHECK, a write to 0x4310:05 (R140). -/
def execSplitCheck (src : Source) (check : Nat) (s : State) : Host.Outcome State Fault Refusal :=
  .next (s.whenOpen (s.splitOpen true) 0x43 (.splitCheck src check)
    (s.command src 0x4310 5 4 (leBytes 4 check) [] s.splitLife true (splitCheckEffect check)))

/-- The 40 bytes of SPLIT_READ (R140). -/
def splitBytes (data check : Nat) (c : WordClass) : List Byte :=
  leBytes 32 data ++ leBytes 4 check ++ leBytes 1 c.status
    ++ leBytes 1 (match c with
      | .correctable _ _ n => n
      | _ => 0) ++ [0, 0]

/-- A read of an object: its checks (R13), and the value. -/
def State.readStatus (s : State) (idx sub : Nat) (life : Bool) : Status :=
  match objFind idx sub with
  | none => if objIndexed idx then .noSubindex else .noObject
  | some o =>
    if !s.fwRuns && !bootObject idx sub false then .awaitingFirmware
    else if o.acc = .wo then .writeOnly
    else if !life then .lifecycleDenied
    else .ok

/-- A read from a source with a reply path: served, checked, answered with the value; not journalled (R359). -/
def State.query (s : State) (src : Source) (idx sub : Nat) (life : Bool) (f : State → Status × List Byte × State) :
    State :=
  if s.served src then
    let s1 := s.countRequest src
    match s1.readStatus idx sub life with
    | .ok =>
      if s1.sec.dead && firmwareServes src idx sub false then s1.say src 1 idx sub (.status src Status.internal.code)
      else
        let r := f s1
        match r.1 with
        | .ok => r.2.2.say src 1 idx sub (.value src r.2.1)
        | st => r.2.2.say src 1 idx sub (.status src st.code)
    | st => s1.say src 1 idx sub (.status src st.code)
  else s

/-- A SPLIT_READ (R140): a decoded read that never traps, with the counters, events and LAST_ERROR of code 0xF2. Only its writes
are refused while the mode is off or the row is not written: of a row not written it reports UNINIT with zero data and the stored
C0–C31 (R114), of a bank that MGMT does not own POISON_OWNER (R24; log 151). It queues no repair (log 148). -/
def splitReadValue (s : State) : Status × List Byte × State :=
  let a := s.splitWord
  let b := s.rd 0x4310 1
  if !s.owns 0x43 b then
    (.ok, leBytes 36 (s.freeNow % 2 ^ 288) ++ [5, 0, 0, 0], (s.ownerFault b).drawn)
  else if s.isWritten b (rowOf a) then
    let pl := s.place a
    let c := s.decodeAt a
    (.ok, splitBytes (s.mem.data pl) (s.mem.chk pl) c, s.noteWord 0xF2 a c)
  else (.ok, List.replicate 32 0 ++ leBytes 4 (s.mem.chk (s.place a)) ++ [2, 0, 0, 0], s.uninit b)

/-- SPLIT_READ, a read of 0x4310:06 (R140). -/
def execSplitRead (src : Source) (s : State) : Host.Outcome State Fault Refusal :=
  .next (s.whenOpen (s.splitOpen false) 0x43 (.splitRead src) (s.query src 0x4310 6 true splitReadValue))

/-- SPLIT_FOLD_OVERRIDE (R140). -/
def splitFoldEffect (v : Nat) : Effect := fun s =>
  if s.splitReady then (.ok, s.wr 0x4310 7 v) else (.stateConflict, s)

/-- SPLIT_FOLD_OVERRIDE, a write to 0x4310:07 (R140). -/
def execSplitFoldOverride (src : Source) (value : Nat) (s : State) : Host.Outcome State Fault Refusal :=
  .next (s.command src 0x4310 7 4 (leBytes 4 value) (s.regBytes 0x4310 7) s.splitLife (bits value 30 26 = 0)
    (splitFoldEffect value))

/-- A precise trap of the management core (R137, R141, R384): the trap cause has no stated code, a free value (log 43). -/
def State.coreTrap (s : State) : State :=
  (State.event { s with sec := { s.sec with trap := true } } 0x0F 0x04 (s.freeNow % 65536)).drawn

/-- An address or uncorrectable error of a base SRAM (R141): the management core traps; the word of any other SRAM is marked, and
the operation that takes it acts on the mark (log 11). -/
def State.sramFails (s : State) (sram : Nat) : State :=
  if sram = 0 then s.coreTrap else { s with mem := { s.mem with sramBad := s.mem.sramBad ++ [sram] } }

/-- BASE_SRAM_READ (R141): a word of base-tier SRAM `sram` is read at address `addr` with the stored bits `flips` changed;
a correction counts, an address or uncorrectable error counts, writes its event, and marks the SRAM's word in use so that
the operation that took it acts on it (log 11). -/
def execBaseSramRead (sram _addr flips : Nat) (s : State) : Host.Outcome State Fault Refusal :=
  if sram < 6 then
    match baseDecode flips with
    | .clean => .next s
    | .correctable _ _ _ => .next (s.bump 0x4320 sram 1)
    | .uncorrectable => .next (((s.bump 0x4321 sram 1).event 0x08 0x09 sram).sramFails sram)
    | .address => .next (((s.bump 0x4321 sram 1).event 0x08 0x0A sram).sramFails sram)
  else .next s

end Sys2Proof.Machine
end

