-- ==== Sys2Proof/Machine/Queue.lean ====
section
/-! DEFINITION. The queue manager and the interrupt vectors (spec/06): the cell pool, queues, enqueues and dequeues on
every path but the movers', conditions, bindings and vector delivery. -/

namespace Sys2Proof.Machine

/-- The lanes of a port. -/
def lanesOf (p : Nat) : List Nat := (List.range 16).map (fun k => 16 * p + k)

/-- ROLE of a port: 1 for ROOT and HOST (R255). -/
def State.portRole (s : State) (p : Nat) : Nat := bits (s.rd 0x5100 p) 29 28

/-- The ACTIVE links of a port, rising. -/
def State.activeLinks (s : State) (p : Nat) : List Nat := (lanesOf p).filter s.linkActive

/-- Queue `q`. -/
def State.queue (s : State) (q : Nat) : Queue := Tab.look (fun _ => Queue.init) s.qm.queues q

/-- Store queue `q`. -/
def State.setQueue (s : State) (q : Nat) (x : Queue) : State :=
  { s with qm := { s.qm with queues := Tab.put (fun _ => Queue.init) s.qm.queues q x } }

/-- ENABLE of a setup word (R152); word 1 is held with its bit 0 at descriptor bit 256. -/
def Queue.enabled (x : Queue) : Bool := x.setup.testBit 255
/-- PRODUCER_MASK. -/
def Queue.producers (x : Queue) : Nat := bits x.setup 254 250
/-- CONSUMER. -/
def Queue.consumer (x : Queue) : Nat := bits x.setup 249 248
/-- CONSUMER_ID. -/
def Queue.consumerId (x : Queue) : Nat := bits x.setup 247 243
/-- LIMIT_CELLS. -/
def Queue.limit (x : Queue) : Nat := bits x.setup 242 222
/-- IDLE_TIMEOUT. -/
def Queue.idleTimeout (x : Queue) : Nat := bits x.setup 221 206
/-- THRESHOLD. -/
def Queue.threshold (x : Queue) : Nat := bits x.setup 205 185
/-- VEC_EN. -/
def Queue.vecEn (x : Queue) : Bool := x.setup.testBit 184
/-- VEC_MODE. -/
def Queue.vecMode (x : Queue) : Nat := bits x.setup 183 182
/-- BIND_EN. -/
def Queue.bindEn (x : Queue) : Bool := x.setup.testBit 181
/-- BIND_MODE. -/
def Queue.bindMode (x : Queue) : Nat := bits x.setup 180 179
/-- BIND_PANEL, BIND_SLOT and BIND_FRESH. -/
def Queue.binding (x : Queue) : Nat × Nat × Bool := (bits x.setup 178 174, bits x.setup 173 171, x.setup.testBit 170)

/-- Descriptor word 0 (R152). -/
def Queue.word0 (x : Queue) : Nat :=
  x.deqTotal + 2 ^ 32 * x.enqTotal + 2 ^ 70 * x.head + 2 ^ 90 * x.tail + 2 ^ 110 * x.cells + 2 ^ 131 * x.msgs
    + 2 ^ 152 * flag x.halted + 2 ^ 153 * flag x.underrun + 2 ^ 154 * flag x.overflow + 2 ^ 155 * flag x.idleFired
    + 2 ^ 160 * x.lastRead + 2 ^ 192 * x.lastValue

/-- A queue read back from its descriptor words (R149, R152). -/
def Queue.ofWords (w1 w0 : Nat) : Queue :=
  { Queue.init with
    setup := w1, deqTotal := bits w0 31 0, enqTotal := bits w0 63 32, head := bits w0 89 70, tail := bits w0 109 90
    cells := bits w0 130 110, msgs := bits w0 151 131, halted := w0.testBit 152, underrun := w0.testBit 153
    overflow := w0.testBit 154, idleFired := w0.testBit 155, lastRead := bits w0 191 160, lastValue := bits w0 255 192 }

/-- The control bank (R148). -/
def State.controlBank (s : State) : Nat := s.rd 0x6000 2

/-- The queue manager takes enqueues, dequeues and queue commands: enabled and not rebuilding (R149). -/
def State.qmRuns (s : State) : Bool := s.rd 0x6000 1 = 1 && !s.qm.rebuilding

/-- Write descriptor word `w` of queue `q` to the control bank (R147). -/
def State.writeDescriptor (s : State) (q w v : Nat) : State :=
  (s.tierWrite 0x40 (wordAddr s.controlBank (q / 4) (q % 4 * 2 + w)) (2 ^ 32 - 1) v).2

/-- Store a queue and its state word in the control bank (R157 step 4, R158). -/
def State.commitQueue (s : State) (q : Nat) (x : Queue) : State := (s.setQueue q x).writeDescriptor q 0 x.word0

/-- A pool slot that is free. -/
def PoolSlot.free : PoolSlot := ⟨false, false, 0⟩

/-- Pool slot `k`. -/
def State.slot (s : State) (k : Nat) : PoolSlot := Tab.look (fun _ => PoolSlot.free) s.qm.slots k

/-- Store a pool slot, and its entry of the slot table in the control bank (R147). -/
def State.setSlot (s : State) (k : Nat) (x : PoolSlot) : State :=
  let s1 := { s with qm := { s.qm with slots := Tab.put (fun _ => PoolSlot.free) s.qm.slots k x } }
  let a := wordAddr s.controlBank (1025 + k / 32) (k % 32 / 4)
  (s1.tierWrite 0x40 a (255 * 2 ^ (8 * (k % 4)))
    ((x.bank + 2 ^ 62 * flag x.draining + 2 ^ 63 * flag x.valid) * 2 ^ (64 * (k % 4)))).2

/-- The pool slot of a bank, if it has one. -/
def State.slotOf (s : State) (bank : Nat) : Option Nat :=
  (s.qm.slots.find? (fun x => x.2.valid && x.2.bank = bank)).map (·.1)

/-- Valid pool slots (POOL_BANK_COUNT, R179). -/
def State.poolCount (s : State) : Nat := (s.qm.slots.filter (fun x => x.2.valid)).length

/-- A QM-owned bank is in use while QM_ENABLE is TRUE and it is the control bank or holds a slot (R150). -/
def State.qmUses (s : State) (bank : Nat) : Bool :=
  s.rd 0x6000 1 = 1 && (bank = s.controlBank || (s.slotOf bank).isSome)

/-- Whether a cell is allocated. -/
def State.cellUsed (s : State) (c : Nat) : Bool := Tab.look (fun _ => false) s.qm.used c

/-- Mark cells allocated or free. -/
def State.markCells (s : State) (v : Bool) : List Nat → State
  | [] => s
  | c :: t => State.markCells { s with qm := { s.qm with used := Tab.put (fun _ => false) s.qm.used c v } } v t

/-- The cells of a slot that a message may take: rows 1,040 up in slot 0 (R146). -/
def slotCells (k : Nat) : Nat := if k = 0 then 4096 - 1040 else 4096

/-- The allocated cells of a slot. -/
def State.usedIn (s : State) (k : Nat) : Nat := (s.qm.used.filter (fun u => u.1 / 4096 = k)).length

/-- FREE_CELLS (R156, R179): the free cells of valid slots that are not draining. -/
def State.freeCells (s : State) : Nat :=
  s.qm.slots.foldl (fun n x => if x.2.valid && !x.2.draining then n + (slotCells x.1 - s.usedIn x.1) else n) 0

/-- The lowest free cell of a slot (R151). -/
def State.lowestFree (s : State) (k : Nat) : Option Nat :=
  if (s.slot k).valid && !(s.slot k).draining && s.usedIn k < slotCells k then
    ((List.range 4096).find? (fun r => (k ≠ 0 || 1040 ≤ r) && !s.cellUsed (4096 * k + r))).map (fun r => 4096 * k + r)
  else none

/-- Allocate `n` cells: consecutive cells from pool slots in rotating order, the lowest free row in each (R151). DESIGN CHOICE (log
172): the rotation begins at slot 0, and a new message goes on after the slot that gave the last cell. -/
def State.allocate (s : State) : Nat → List Nat × State
  | 0 => ([], s)
  | n + 1 =>
    match ((List.range 256).map (fun k => (s.qm.rot + k) % 256)).findSome? s.lowestFree with
    | some c =>
      let s1 := s.markCells true [c]
      let r := State.allocate { s1 with qm := { s1.qm with rot := (c / 4096 + 1) % 256 } } n
      (c :: r.1, r.2)
    | none => ([], s)

/-- Cells of a message of `len` bytes (R151). -/
def cellsFor (len : Nat) : Nat := (len + 255) / 256

/-- The bank and row of a cell (R146). -/
def State.cellRow (s : State) (c : Nat) : Nat × Nat := ((s.slot (c / 4096)).bank, c % 4096)

/-- A link entry with the bits of `m` inverted: NEXT 19:0, FIRST 20, MSG_LEN 37:21 (R151). -/
def CellLink.altered (l : CellLink) (m : Nat) : CellLink :=
  ⟨l.next ^^^ m % 2 ^ 20, l.first ^^ m.testBit 20, l.len ^^^ bits m 37 21, 0⟩

/-- The bits of a 45-bit mask. -/
def maskCount (m : Nat) : Nat := ((List.range 45).filter m.testBit).length

/-- A link entry as its check delivers it (R151): one changed bit is corrected, two are found, and what it makes of more is the
free value of log 152. -/
def CellLink.checked (l : CellLink) : Option CellLink :=
  if l.flips = 0 then some l
  else
    match maskCount l.flips with
    | 1 => some (l.altered 0)
    | 2 => none
    | _ => (Config.linkAlias l.flips).map (fun m => l.altered (l.flips ^^^ m))

/-- The link entry of a cell; none where its row reads UNINIT (R114), where nothing has written one, or where its check finds an
error that it does not correct (R151, R159). -/
def State.linkOf (s : State) (c : Nat) : Option CellLink :=
  if s.isWritten (s.cellRow c).1 (s.cellRow c).2 then
    (Tab.look (fun _ => Option.none) s.qm.links (4096 * (s.cellRow c).1 + (s.cellRow c).2)).bind CellLink.checked
  else Option.none

/-- A link entry that nothing has written. -/
def CellLink.none : CellLink := ⟨0, false, 0, 0⟩

/-- Write the link entry of a cell. -/
def State.setCellLink (s : State) (c : Nat) (x : CellLink) : State :=
  { s with qm := { s.qm with
      links := Tab.put (fun _ => Option.none) s.qm.links (4096 * (s.cellRow c).1 + (s.cellRow c).2) (some x) } }

/-- The classes of producers (R155): HOST, PANEL, MOVER, DIR, MGMT. -/
def classSource (cls who : Nat) : Source :=
  match cls with
  | 0 => ⟨0x24, 256 * portOf who + who⟩
  | 1 => ⟨0x25, who⟩
  | 2 => ⟨0x26, who⟩
  | 3 => ⟨0x27, 0⟩
  | _ => ⟨0x10, 0⟩

/-- The cells reserved by enqueues accepted and not yet committed (R156). -/
def Queue.reserved (x : Queue) : Nat := x.enqs.foldl (fun n e => n + e.cells.length) 0

/-- Cells a panel's interface has reserved for a message in assembly on queue `q`, and a mover for its descriptor. -/
def State.assembling (s : State) (q : Nat) : Nat :=
  s.qm.panelEnq.foldl (fun n x => match x.2 with
    | some p => if p.queue = q && !p.discard then n + p.enq.cells.length else n
    | none => n) 0
  + s.qm.movers.foldl (fun n x => match x.2.enq, x.2.desc with
    | some e, some d => if bits d 191 128 % 4096 = q then n + e.cells.length else n
    | _, _ => n) 0

/-- The checks of R156 on an enqueue, in their order. -/
def State.enqStatus (s : State) (q cls len : Nat) : Status :=
  let x := s.queue q
  let n := cellsFor len
  if len = 0 then .valueRange
  else if 65536 < len || x.limit < x.cells + x.reserved + s.assembling q + n then .lengthExceeds
  else if !x.producers.testBit cls then .ownerMismatch
  else if !s.qmRuns || !x.enabled || x.halted || s.freeCells < n then .stateConflict
  else .ok

/-- Store a queue whose flag has been set: word 0 of its descriptor follows while the queue manager runs (R147, R152). -/
def State.latchQueue (s : State) (q : Nat) (x : Queue) : State :=
  if s.qmRuns then s.commitQueue q x else s.setQueue q x

/-- A refused queue operation is recorded (R156, R12): journal, QUEUE_REFUSED and REFUSAL_COUNT. -/
def State.queueRefused (s : State) (q cls who len : Nat) (st : Status) : State :=
  ((s.journalInternal ⟨0x6020 + q / 256, q % 256, st.code, classSource cls who, 10, some (leBytes 32 (s.queue q).word0),
    leBytes 32 len⟩).event 0x0D 0x01 (4096 * cls + q)).bump 0x6000 8 1

/-- A refused enqueue: OVERFLOW for capacity, POOL_EXHAUSTED once while no cell is free (R156). -/
def State.enqRefused (s : State) (q cls who len : Nat) (st : Status) : State :=
  let s1 := s.queueRefused q cls who len st
  match st with
  | .lengthExceeds => s1.latchQueue q { s1.queue q with overflow := true }
  | .stateConflict =>
    if s.qmRuns && (s.queue q).enabled && !(s.queue q).halted && !s.qm.exhausted then
      State.event { s1 with qm := { s1.qm with exhausted := true } } 0x0D 0x02 q
    else s1
  | _ => s1

/-- Write one cell of a message: its row, and its link entry with FIRST and MSG_LEN in the first (R151, R157). -/
def State.writeCell (s : State) (c next len : Nat) (first : Bool) (data : Nat) : State :=
  let r := s.cellRow c
  (s.tierWriteRow 0x40 r.1 r.2 (data % 2 ^ 2048)).2.setCellLink c ⟨next, first, if first then len else 0, 0⟩

/-- Write the cells of a message from its bytes. -/
def State.writeCells (s : State) (len : Nat) (first : Bool) : List Nat → List Byte → State
  | [], _ => s
  | c :: t, data =>
    (s.writeCell c (t.headD 0) len first (leValue (data.take 256))).writeCells len false t (data.drop 256)

/-- An enqueue whose data is at hand is accepted: cells reserved and written; its commit follows (R157). -/
def State.acceptEnq (s : State) (q cls who : Nat) (data : List Byte) : State :=
  let r := s.allocate (cellsFor data.length)
  let s1 := r.2.writeCells data.length true r.1 data
  s1.setQueue q { s1.queue q with enqs := (s1.queue q).enqs ++ [⟨cls, who, data.length, r.1⟩] }

/-- The BAR2 page of a queue (R167). -/
def State.page (s : State) (q : Nat) : QueuePage := Tab.look (fun _ => QueuePage.mk false 0 0) s.qm.pages q

/-- Record an operation on a BAR2 page (R166, R167). -/
def State.notePage (s : State) (q : Nat) (empty : Bool) (status len : Nat) : State :=
  { s with qm := { s.qm with
      pages := Tab.put (fun _ => QueuePage.mk false 0 0) s.qm.pages q ⟨empty, status, len⟩ } }

/-- Whether a link presents the endpoint functions and their BARs (R259), or the spaces of a Lace link (R292); PORT0
presents only the boot function while it has it (R260). -/
def State.barLink (s : State) (link : Nat) : Bool :=
  s.linkActive link && s.portMode (portOf link) ≠ 0 && s.portRole (portOf link) = 0 && !(s.bootFn && portOf link = 0)

/-- A posted write to a BAR (R261): performed in OPERATIONAL; discarded and counted in MANAGED; in QUIESCING no credit
is given, so none arrives. -/
def State.barPosted (s : State) (link : Nat) (f : State → State) : State :=
  if !s.barLink link then s
  else if s.dev.state = .operational then f s
  else if s.dev.state = .managed then s.bump 0x5116 (portOf link) 1
  else s

/-- A non-posted request to a BAR (R261): in MANAGED it completes with Completer Abort and counts. -/
def State.barNonPosted (s : State) (link tag : Nat) (f : State → State) : State :=
  if !s.barLink link then s
  else if s.dev.state = .operational then f s
  else if s.dev.state = .managed then
    (s.bump 0x5116 (portOf link) 1).complete link tag 4 false []
  else s

/-- An enqueue through a BAR2 page: its status is recorded on the page (R166). -/
def State.hostEnqueue (s : State) (link q : Nat) (data : List Byte) : State :=
  match s.enqStatus q 0 data.length with
  | .ok => (s.acceptEnq q 0 link data).notePage q (s.page q).emptyRead 0 data.length
  | st => (s.enqRefused q 0 link data.length st).notePage q (s.page q).emptyRead st.code data.length

/-- A BAR2 operation refused before any queue check, with its status on the page (R166). -/
def State.pageRefused (s : State) (link q len : Nat) (st : Status) : State :=
  (s.queueRefused q 0 link len st).notePage q (s.page q).emptyRead st.code len

/-- The queue manager's accesses to the tier do not have to wait (R107, R108, R111): in the states in which it works and while it
is enabled, no bank of QM keeps it waiting. -/
def State.qmOpen (s : State) : Bool :=
  match s.dev.state with
  | .managed | .operational | .quiescing => !s.clkLost.contains 16 && s.tierOpen 0x40
  | _ => true

/-- The same with the banks of HOST, for the buffers of BAR2. -/
def State.hostOpen (s : State) : Bool := s.qmOpen && s.tierOpen 0x44

/-- A write to ENQ_VALUE (R166): one of 1, 2, 4 or 8 bytes is a message of that length. -/
def State.enqValueOp (s : State) (link q : Nat) (data : List Byte) : State :=
  let n := data.length
  if n = 1 ∨ n = 2 ∨ n = 4 ∨ n = 8 then s.hostEnqueue link q data else s.pageRefused link q n .valueRange

/-- ENQ_VALUE (R166). -/
def execEnqValue (link queue : Nat) (data : List Byte) (s : State) : Host.Outcome State Fault Refusal :=
  .next (s.barPosted link (fun t =>
    t.whenOpen t.qmOpen 0x40 (.enqValue link queue data) (t.enqValueOp link queue data)))

/-- The status of a buffer operand (R166): 32 B alignment, valid banks, banks owned by HOST. -/
def State.bufferStatus (s : State) (addr len : Nat) : Status :=
  let last := (addr + len - 1) / 2 ^ 20
  if addr % 32 ≠ 0 || 1280 ≤ last then .valueRange
  else if (List.range (last + 1 - addr / 2 ^ 20)).all (fun k => s.owns 0x44 (addr / 2 ^ 20 + k)) then .ok
  else .ownerMismatch

/-- Copy `n` words from HOST-owned banks: bytes, and whether a word was poisoned. -/
def State.copyIn (s : State) (a : Nat) : Nat → List Byte × Bool × State
  | 0 => ([], false, s)
  | n + 1 =>
    let r := s.tierRead 0x44 a 1
    let q := r.state.copyIn (a + 1) n
    (leBytes 32 r.data ++ q.1, decide (3 ≤ r.status) || q.2.1, q.2.2)

/-- A refused enqueue through a BAR2 page (R156, R166). -/
def State.pageEnqRefused (s : State) (link q len : Nat) (st : Status) : State :=
  (s.enqRefused q 0 link len st).notePage q (s.page q).emptyRead st.code len

/-- A write to ENQ_BUFFER (R166): LENGTH bytes are copied from HOST-owned banks into cells. The checks come in the order of R13:
length, value, state. -/
def State.enqBufferOp (s : State) (link queue bufAddr len : Nat) : State :=
  match s.enqStatus queue 0 len with
  | .lengthExceeds => s.pageEnqRefused link queue len .lengthExceeds
  | .valueRange => s.pageRefused link queue len .valueRange
  | st =>
    match s.bufferStatus bufAddr len with
    | .ok =>
      if st = .ok then
        let r := s.copyIn (bufAddr / 32) ((len + 31) / 32)
        r.2.2.hostEnqueue link queue (r.1.take len)
      else s.pageEnqRefused link queue len st
    | bad => s.pageRefused link queue len bad

/-- ENQ_BUFFER (R166). -/
def execEnqBuffer (link queue bufAddr len : Nat) (s : State) : Host.Outcome State Fault Refusal :=
  .next (s.barPosted link (fun t =>
    t.whenOpen t.hostOpen 0x40 (.enqBuffer link queue bufAddr len) (t.enqBufferOp link queue bufAddr len)))

/-- A panel's queue interface takes cells while its panel runs and no reset of it is asserted (R163, R164). -/
def State.panelPort (s : State) (p : Nat) : Bool := s.panelTicks p && (s.panel p).reset.isNone

/-- A panel's enqueue in assembly. -/
def State.panelEnq (s : State) (p : Nat) : Option PanelEnq := Tab.look (fun _ => none) s.qm.panelEnq p

/-- Set a panel's enqueue in assembly. -/
def State.setPanelEnq (s : State) (p : Nat) (x : Option PanelEnq) : State :=
  { s with qm := { s.qm with panelEnq := Tab.put (fun _ => none) s.qm.panelEnq p x } }

/-- A bank that drains leaves the pool when its last cell is free (R150). -/
def State.drainSlot (s : State) (k : Nat) : State :=
  if (s.slot k).valid && (s.slot k).draining && s.usedIn k = 0 then
    (s.setSlot k PoolSlot.free).event 0x0D 0x06 (s.slot k).bank
  else s

/-- Cells return to the pool (R158); the exhausted latch ends when a cell is free (R156). -/
def State.freeList (s : State) (cs : List Nat) : State :=
  let s1 := s.markCells false cs
  let s2 := cs.foldl (fun t c => t.drainSlot (c / 4096)) s1
  { s2 with qm := { s2.qm with exhausted := s2.qm.exhausted && s2.freeCells = 0 } }

/-- One cell of a message in assembly (R163). The last one hands the message to its commit; QE_LAST at any other cell,
or not at the last one, abandons the message with VALUE_RANGE. -/
def State.takePanelCell (s : State) (p : Nat) (x : PanelEnq) (last : Bool) (data : List Byte) : State :=
  if x.discard then (if last then s.setPanelEnq p none else s)
  else
    let n := x.enq.cells.length
    let s1 := s.writeCell (x.enq.cells.getD x.taken 0) (x.enq.cells.getD (x.taken + 1) 0) x.enq.len (x.taken = 0)
      (leValue data)
    if (x.taken + 1 = n) = last then
      if last then
        let q := s1.queue x.queue
        (s1.setQueue x.queue { q with enqs := q.enqs ++ [x.enq] }).setPanelEnq p none
      else s1.setPanelEnq p (some { x with taken := x.taken + 1 })
    else
      ((s1.freeList x.enq.cells).setPanelEnq p
        (if last then none else some { x with discard := true })).emit (.panelQueue p 0x33 0)

/-- PANEL_ENQUEUE_CELL (R163): the checks of R156 are made at the first cell. DESIGN CHOICE (log 174): QE_FIRST within a message is
taken as no more than its next cell, and a cell without QE_FIRST outside a message is ignored. -/
def execPanelEnqueueCell (panel queue len : Nat) (first last : Bool) (data : List Byte) (s : State) :
    Host.Outcome State Fault Refusal :=
  if !s.panelPort panel || !s.qmOpen then .next s
  else
    match s.panelEnq panel, first with
    | some x, _ => .next (s.takePanelCell panel x last data)
    | none, false => .next s
    | none, true =>
      match s.enqStatus queue 1 len with
      | .ok =>
        let r := s.allocate (cellsFor len)
        .next (r.2.takePanelCell panel ⟨queue, ⟨1, panel, len, r.1⟩, 0, false⟩ last data)
      | st =>
        .next (((s.enqRefused queue 1 panel len st).emit (.panelQueue panel st.code 0)).setPanelEnq panel
          (if last then none else some ⟨queue, ⟨1, panel, len, []⟩, 0, true⟩))

/-- MGMT_ENQUEUE (R155): firmware enqueues through the MGMT base channel. -/
def execMgmtEnqueue (queue : Nat) (data : List Byte) (s : State) : Host.Outcome State Fault Refusal :=
  if s.fwRuns then
    .next (s.whenOpen s.qmOpen 0x40 (.mgmtEnqueue queue data) (match s.enqStatus queue 4 data.length with
      | .ok => s.acceptEnq queue 4 0 data
      | st => (s.enqRefused queue 4 0 data.length st).emit (.status ⟨0x10, 0⟩ st.code)))
  else .next s

/-- A vector of the table; all are masked at reset (R174). -/
def IntVector.init : IntVector := ⟨0, 0, 1, false, false⟩

/-- Vector `v`. -/
def State.vector (s : State) (v : Nat) : IntVector := Tab.look (fun _ => IntVector.init) s.qm.vectors v

/-- Store vector `v`. -/
def State.setVector (s : State) (v : Nat) (x : IntVector) : State :=
  { s with qm := { s.qm with vectors := Tab.put (fun _ => IntVector.init) s.qm.vectors v x } }

/-- A vector is triggered: its write is queued; triggers of a held or queued vector merge (R176). -/
def State.trigger (s : State) (v : Nat) : State :=
  if (s.vector v).pending then s else s.setVector v { s.vector v with queued := true }

/-- Whether an enqueue commit meets a condition mode (R161); `before` and `after` are MSG_COUNT. -/
def modeMet (mode before after threshold : Nat) : Bool :=
  match mode with
  | 0 => true
  | 1 => before = 0
  | 2 => before < threshold && threshold ≤ after
  | _ => false

/-- The queue after an enqueue commit (R157, R160). -/
def Queue.afterEnq (x : Queue) (e : Enq) (now : Nat) : Queue :=
  { x with
    head := if x.msgs = 0 then e.cells.headD 0 else x.head
    tail := e.cells.getLastD 0
    cells := x.cells + e.cells.length
    msgs := x.msgs + 1
    enqTotal := (x.enqTotal + 1) % 2 ^ 32
    lastRead := if x.msgs = 0 then now % 2 ^ 32 else x.lastRead }

/-- NEXT of a non-empty queue's tail is set to a message's first cell (R157 step 3); an entry that its check cannot correct
stays as it is, for the dequeue that reaches it (R159). -/
def State.linkTail (s : State) (x : Queue) (e : Enq) : State :=
  if x.msgs = 0 then s
  else
    match s.linkOf x.tail with
    | some l => s.setCellLink x.tail { l with next := e.cells.headD 0 }
    | none => s

/-- The vector and binding conditions of an enqueue commit (R161, R162). -/
def State.enqConditions (s : State) (q : Nat) (x : Queue) : State :=
  let after := x.msgs + 1
  let s1 := if x.vecEn && modeMet x.vecMode x.msgs after x.threshold then s.trigger (64 + q) else s
  if x.bindEn && modeMet x.bindMode x.msgs after x.threshold then
    { s1 with arrivals := s1.arrivals ++ [(q, x.binding)] }
  else s1

/-- An enqueue commits (R157): tail link, descriptor word 0, conditions; the producer hears its status. -/
def State.commitEnq (s : State) (q : Nat) (e : Enq) : State :=
  let x := s.queue q
  let s1 := ((s.linkTail x e).commitQueue q (x.afterEnq e s.dev.aonTime)).enqConditions q x
  match e.cls with
  | 1 => s1.emit (.panelQueue e.who 0 e.len)
  | 4 => s1.emit (.status ⟨0x10, 0⟩ 0)
  | _ => s1

/-- The cells of a message from its first: `n` of them by NEXT; none where a link is missing (R151, R159). -/
def State.walk (s : State) (c : Nat) : Nat → Option (List Nat)
  | 0 => some []
  | n + 1 =>
    match s.linkOf c with
    | none => none
    | some l => (s.walk l.next n).map (fun t => c :: t)

/-- The cells that a walk of at most `n` cells reaches from a cell: it ends at a link that cannot be read (R149, R154). -/
def State.walkReach (s : State) (c : Nat) : Nat → List Nat
  | 0 => []
  | n + 1 =>
    c :: match s.linkOf c with
      | none => []
      | some l => s.walkReach l.next n

/-- The message at the head of a queue: its length and cells; none where a link is corrupt (R159). -/
def State.headMessage (s : State) (q : Nat) : Option (Nat × List Nat) :=
  match s.linkOf (s.queue q).head with
  | some l => if l.first then (s.walk (s.queue q).head (cellsFor l.len)).map (fun c => (l.len, c)) else none
  | none => none

/-- A corrupt link, poisoned descriptor or UNINIT cell sets HALTED, with one QUEUE_CORRUPT event (R159). -/
def State.corruptQueue (s : State) (q : Nat) : State :=
  (s.commitQueue q { s.queue q with halted := true }).event 0x0D 0x04 q

/-- The queue after a dequeue commit of `n` cells (R158, R160). -/
def Queue.afterDeq (x : Queue) (next n first now : Nat) : Queue :=
  { x with
    head := if x.msgs ≤ 1 then x.head else next
    cells := x.cells - n
    msgs := x.msgs - 1
    deqTotal := (x.deqTotal + 1) % 2 ^ 32
    lastValue := first
    lastRead := now % 2 ^ 32
    idleFired := if x.msgs ≤ 1 then false else x.idleFired }

/-- The message at the head is taken: descriptor word 0 is written and its cells are freed (R158). -/
def State.commitDeq (s : State) (q first : Nat) : State :=
  match s.headMessage q with
  | some (_, cs) =>
    let next := ((s.linkOf (cs.getLastD 0)).getD CellLink.none).next
    (s.commitQueue q ((s.queue q).afterDeq next cs.length first s.dev.aonTime)).freeList cs
  | none => s.corruptQueue q

/-- The consumer class and identity of a dequeue (R158). -/
def Queue.consumes (x : Queue) (d : Deq) : Bool :=
  match d.kind with
  | 0 | 1 => x.consumer = 0
  | 2 => x.consumer = 1 && x.consumerId = d.who
  | _ => x.consumer = 2 && x.consumerId = d.who

/-- The producer class that names a dequeue's requester in refusals. -/
def Deq.cls (d : Deq) : Nat := match d.kind with
  | 0 | 1 => 0
  | 2 => 1
  | _ => 2

/-- How a dequeue that takes nothing is answered on its path (R158, R166, R163). -/
def State.answerDeq (s : State) (q : Nat) (d : Deq) (status len data : Nat) : State :=
  match d.kind with
  | 0 => (s.notePage q (status = 1) status len).complete d.who d.tag 0 false (leBytes 8 data)
  | 1 => s.notePage q (status = 1) status len
  | 2 => s.emit (.panelCell d.who true true status len data)
  | _ => s

/-- A dequeue of an empty queue (R158): EMPTY with LAST_VALUE, UNDERRUN set; a buffer takes LAST_VALUE in 8 bytes. -/
def State.emptyDeq (s : State) (q : Nat) (d : Deq) : State :=
  let x := s.queue q
  let s1 := s.latchQueue q { x with underrun := true }
  let s2 := if d.kind = 1 then (s1.tierWrite 0x44 (d.addr / 32) 255 x.lastValue).2 else s1
  s2.answerDeq q d 1 0 x.lastValue

/-- Read the rows of a message's cells: the status and the data of each. -/
def State.readRows (s : State) : List Nat → List (Nat × Nat) × State
  | [] => ([], s)
  | c :: t =>
    let r := s.tierRead 0x40 (wordAddr (s.cellRow c).1 (s.cellRow c).2 0) 8
    let q := r.state.readRows t
    ((r.status, r.data) :: q.1, q.2)

/-- The cells of a message read: data, whether a cell was poisoned, whether one was UNINIT. -/
def State.readCells (s : State) (cs : List Nat) : List Byte × Bool × Bool × State :=
  let r := s.readRows cs
  (r.1.flatMap (fun x => leBytes 256 x.2), r.1.any (fun x => decide (3 ≤ x.1)), r.1.any (fun x => decide (x.1 = 2)), r.2)

/-- Copy the rows of a message into HOST-owned banks, leaving the words of a poisoned cell unwritten (R166). -/
def State.copyOut (s : State) (addr : Nat) (len : Nat) : List (Nat × Nat) → State
  | [] => s
  | r :: t =>
    let here := if len < 256 then len else 256
    let s1 :=
      if 3 ≤ r.1 then s
      else
        (List.range 8).foldl (fun (u : State) w =>
          let n := if here ≤ 32 * w then 0 else if 32 ≤ here - 32 * w then 32 else here - 32 * w
          (u.tierWrite 0x44 (addr / 32 + w) (2 ^ n - 1) (r.2 / 2 ^ (256 * w) % 2 ^ 256)).2) s
    s1.copyOut (addr + 256) (len - here) t

/-- A dequeue takes the message at the head (R158): BAR2 paths deliver it whole; a panel takes its cells one by one. -/
def State.beginDeq (s : State) (q : Nat) (d : Deq) : State :=
  match s.headMessage q with
  | none => (s.corruptQueue q).answerDeq q d 0x41 0 0
  | some (len, cs) =>
    match d.kind with
    | 0 =>
      let r := s.readCells (cs.take 1)
      if r.2.2.1 then (r.2.2.2.corruptQueue q).answerDeq q d 0x41 0 0
      else
        let first := leValue ((r.1.take len).take 8)
        let st := if r.2.1 then 0xE0 else 0
        let s1 := (r.2.2.2.notePage q false st len).complete d.who d.tag 0 r.2.1 (leBytes 8 first)
        s1.setQueue q { s1.queue q with
          deq := some { d with len := len, delivered := cs.length, poisoned := r.2.1, complete := true, first := first } }
    | 1 =>
      if d.limit < len then (s.queueRefused q 0 d.who len .lengthExceeds).notePage q false 0x34 len
      else
        let r := s.readRows cs
        let bad := r.1.any (fun x => decide (3 ≤ x.1))
        if r.1.any (fun x => decide (x.1 = 2)) then (r.2.corruptQueue q).notePage q false 0x41 0
        else
          let s1 := (r.2.copyOut d.addr len r.1).notePage q false (if bad then 0xE0 else 0) len
          s1.setQueue q { s1.queue q with
            deq := some { d with len := len, delivered := cs.length, poisoned := bad, complete := true
                                 first := (r.1.headD (0, 0)).2 % 256 ^ (if len < 8 then len else 8) } }
    | _ => s.setQueue q { s.queue q with deq := some { d with len := len } }

/-- A dequeue of the queue's consumer starts, with none in progress (R158, R159). -/
def State.startDeq (s : State) (q : Nat) (d : Deq) : State :=
  if !s.qmRuns || (s.queue q).halted then (s.queueRefused q d.cls d.who d.limit .stateConflict).answerDeq q d 0x41 0 0
  else if (s.queue q).msgs = 0 then s.emptyDeq q d
  else s.beginDeq q d

/-- A dequeue request (R158, R159): one per queue is in progress, others wait in arrival order. -/
def State.requestDeq (s : State) (q : Nat) (d : Deq) : State :=
  let x := s.queue q
  if !x.consumes d then (s.queueRefused q d.cls d.who d.limit .ownerMismatch).answerDeq q d 0x43 0 0
  else if s.qmRuns && !x.halted && x.deq.isSome then s.setQueue q { x with waiting := x.waiting ++ [d] }
  else s.startDeq q d

/-- A read of DEQ_VALUE (R166): one of 8 bytes dequeues; a read of another size returns 0 and dequeues nothing. -/
def State.deqValueOp (s : State) (link tag queue size : Nat) : State :=
  if size = 8 then s.requestDeq queue ⟨0, link, tag, 0, 8, 0, 0, false, false, 0⟩
  else s.complete link tag 0 false (leBytes size 0)

/-- DEQ_VALUE (R166). -/
def execDeqValue (link tag queue size : Nat) (s : State) : Host.Outcome State Fault Refusal :=
  .next (s.barNonPosted link tag (fun t =>
    t.whenOpen t.hostOpen 0x40 (.deqValue link tag queue size) (t.deqValueOp link tag queue size)))

/-- The message that a dequeue of at most `limit` bytes would take is longer (R166, R170): a length check, ahead of the checks of
value and state (R13). -/
def State.deqTooLong (s : State) (q limit : Nat) : Option Nat :=
  if s.qmRuns && !(s.queue q).halted && (s.queue q).deq.isNone && (s.queue q).msgs ≠ 0 then
    match s.headMessage q with
    | some (n, _) => if limit < n then some n else none
    | none => none
  else none

/-- A write to DEQ_BUFFER (R166). -/
def State.deqBufferOp (s : State) (link queue bufAddr len : Nat) : State :=
  match s.deqTooLong queue len with
  | some n => (s.queueRefused queue 0 link n .lengthExceeds).notePage queue false 0x34 n
  | none =>
  if len = 0 ∨ 65536 < len then s.pageRefused link queue len .valueRange
  else
    match s.bufferStatus bufAddr len with
    | .ok => s.requestDeq queue ⟨1, link, 0, bufAddr, len, 0, 0, false, false, 0⟩
    | st => s.pageRefused link queue len st

/-- DEQ_BUFFER (R166). -/
def execDeqBuffer (link queue bufAddr len : Nat) (s : State) : Host.Outcome State Fault Refusal :=
  .next (s.barPosted link (fun t =>
    t.whenOpen t.hostOpen 0x40 (.deqBuffer link queue bufAddr len) (t.deqBufferOp link queue bufAddr len)))

/-- The queue a panel's interface is taking a message from. -/
def State.panelDeq (s : State) (p : Nat) : Option Nat := Tab.look (fun _ => none) s.qm.panelDeq p

/-- Set the queue a panel's interface takes from. -/
def State.setPanelDeq (s : State) (p : Nat) (q : Option Nat) : State :=
  { s with qm := { s.qm with panelDeq := Tab.put (fun _ => none) s.qm.panelDeq p q } }

/-- Whether a panel's dequeue is in progress or waits at a queue. -/
def Queue.serves (x : Queue) (p : Nat) : Bool :=
  (match x.deq with
    | some d => d.kind = 2 && d.who = p
    | none => false) || x.waiting.any (fun d => d.kind = 2 && d.who = p)

/-- PANEL_DEQUEUE_REQUEST (R163): taken while no dequeue of the interface is in progress. -/
def execPanelDequeueRequest (panel queue : Nat) (s : State) : Host.Outcome State Fault Refusal :=
  if s.panelPort panel && s.qmOpen && (s.panelDeq panel).isNone then
    let s1 := s.requestDeq queue ⟨2, panel, 0, 0, 65536, 0, 0, false, false, 0⟩
    .next (s1.setPanelDeq panel (if (s1.queue queue).serves panel then some queue else none))
  else .next s

/-- One cell of a panel's dequeue is read and delivered (R163, R159). -/
def State.deliverCell (s : State) (q : Nat) (d : Deq) (cs : List Nat) : State :=
  let c := cs.getD d.delivered 0
  let r := s.tierRead 0x40 (wordAddr (s.cellRow c).1 (s.cellRow c).2 0) 8
  if r.status = 2 then
    let s1 := r.state.corruptQueue q
    ((s1.setQueue q { s1.queue q with deq := none }).setPanelDeq d.who none).emit
      (.panelCell d.who (d.delivered = 0) true 0x41 0 0)
  else
    let bad := d.poisoned || decide (3 ≤ r.status)
    let n := d.delivered + 1
    let s1 := r.state.setQueue q { r.state.queue q with
      deq := some { d with
        delivered := n, poisoned := bad, complete := decide (n = cs.length)
        first := if d.delivered = 0 then
          leValue (((leBytes 256 r.data).take d.len).take 8) else d.first } }
    s1.emit (.panelCell d.who (d.delivered = 0) (n = cs.length) (if 3 ≤ r.status then 0xE0 else 0) d.len r.data)

/-- PANEL_DEQUEUE_CELL (R163): the panel accepts the next cell of its message. -/
def execPanelDequeueCell (panel : Nat) (s : State) : Host.Outcome State Fault Refusal :=
  match s.panelDeq panel with
  | some q =>
    match (s.queue q).deq with
    | some d =>
      if s.panelPort panel && !s.qm.rebuilding && s.tierOpen 0x40 && d.kind = 2 && d.who = panel && !d.complete then
        match s.headMessage q with
        | some (_, cs) => .next (s.deliverCell q d cs)
        | none =>
          let s1 := s.corruptQueue q
          .next (((s1.setQueue q { s1.queue q with deq := none }).setPanelDeq panel none).emit
            (.panelCell panel (d.delivered = 0) true 0x41 0 0))
      else .next s
    | none => .next s
  | none => .next s

/-- The dequeues that wait at a queue start in arrival order until one is in progress (R158). -/
def State.serveWaiting (s : State) (q : Nat) : List Deq → State
  | [] => s.setQueue q { s.queue q with waiting := [] }
  | d :: t =>
    let s1 := (s.setQueue q { s.queue q with waiting := t, deq := none }).startDeq q d
    if (s1.queue q).deq.isSome then s1
    else (if d.kind = 2 then s1.setPanelDeq d.who none else s1).serveWaiting q t

/-- The next dequeue that waits at a queue begins (R158). -/
def State.nextDeq (s : State) (q : Nat) : State :=
  if (s.queue q).waiting.isEmpty then s else s.serveWaiting q (s.queue q).waiting

/-- DEQUEUE_COMMIT (R158): after its last cell is delivered the dequeue commits, and the next one begins. A dequeue that was accepted
completes though the queue manager is disabled since (R14). -/
def execDequeueCommit (queue : Nat) (s : State) : Host.Outcome State Fault Refusal :=
  match (s.queue queue).deq with
  | some d =>
    if d.complete && !s.qm.rebuilding && s.tierOpen 0x40 then
      let s1 := s.setQueue queue { s.queue queue with deq := none }
      let s2 := s1.commitDeq queue d.first
      let s3 := if d.poisoned then s2.bump 0x6000 9 1 else s2
      let s4 := if d.kind = 2 then s3.setPanelDeq d.who none else s3
      .next (s4.nextDeq queue)
    else .next s
  | none => .next s

/-- QUEUE_IDLE_TIMEOUT (R160): the conditions hold; IDLE_FIRED, one event, and the vector if VEC_EN. -/
def execQueueIdleTimeout (queue : Nat) (s : State) : Host.Outcome State Fault Refusal :=
  let x := s.queue queue
  let waited := (2 ^ 32 + s.dev.aonTime % 2 ^ 32 - x.lastRead) % 2 ^ 32
  if s.qmRuns && s.tierOpen 0x40 && x.idleTimeout ≠ 0 && x.enabled && x.msgs ≠ 0 && !x.idleFired && x.idleTimeout ≤ waited then
    let s1 := (s.commitQueue queue { x with idleFired := true }).event 0x0D 0x03 queue
    .next (if x.vecEn then s1.trigger (64 + queue) else s1)
  else .next s

/-- The panel loses its side of its queue transfers (R164): an enqueue in assembly is abandoned, a dequeue in delivery
is not committed and counts in REDELIVERED_COUNT. -/
def State.parkQueuePort (s : State) (p : Nat) : State :=
  let s1 :=
    match s.panelEnq p with
    | some x => (if x.discard then s else s.freeList x.enq.cells).setPanelEnq p none
    | none => s
  match s1.panelDeq p with
  | some q =>
    let x := s1.queue q
    let mine := match x.deq with
      | some d => d.kind = 2 && d.who = p
      | none => false
    let keep := x.waiting.filter (fun d => !(d.kind = 2 && d.who = p))
    let s2 := (s1.setQueue q { x with waiting := keep, deq := if mine then none else x.deq }).setPanelDeq p none
    if mine then (s2.bump 0x6000 0x0A 1).nextDeq q else s2
  | none => s1

/-- The setup word's value check (R153). -/
def setupFits (v : Nat) : Bool :=
  let x := { Queue.init with setup := v }
  let modeBad := fun m => m = 3 || m = 2 && (x.threshold = 0 || x.limit < x.threshold)
  x.consumer ≠ 3 && !(x.consumer = 2 && 15 < x.consumerId) && x.limit ≠ 0 && x.limit ≤ 1048576
    && !modeBad x.vecMode && !modeBad x.bindMode

/-- Apply a setup: ENABLE is read only and stays (R152, R153). DEDUCED (log 73): while the queue manager is disabled or rebuilds, the
write is refused as a queue command is (R149). -/
def setupEffect (q v : Nat) : Effect := fun s =>
  let x := s.queue q
  if x.enabled || !s.qmRuns then (.stateConflict, s)
  else
    let w := 2 ^ 170 * (v / 2 ^ 170) % 2 ^ 255
    (.ok, ((s.setQueue q { x with setup := w }).writeDescriptor q 1 w).digestChange)

/-- QUEUE_SETUP_WRITE, a write to QUEUE_SETUP of the queue (R153). -/
def execQueueSetupWrite (src : Source) (queue : Nat) (setup : List Byte) (s : State) :
    Host.Outcome State Fault Refusal :=
  let v := leValue setup
  .next (s.whenOpen s.qmOpen 0x40 (.queueSetupWrite src queue setup)
    (s.command src (0x6010 + queue / 256) (queue % 256) 10 setup (leBytes 32 (s.queue queue).setup) true
      (v % 2 ^ 170 = 0 && setupFits v) (setupEffect queue v)))

/-- Store a queue with its setup word (R154). -/
def State.storeSetup (s : State) (q : Nat) (x : Queue) : State :=
  ((s.setQueue q x).writeDescriptor q 1 x.setup).writeDescriptor q 0 x.word0

/-- FLUSH (R154): every cell is freed, both counts are 0, HALTED and IDLE_FIRED clear; a corrupt queue's unreachable
cells count in LOST_CELLS. DESIGN CHOICE (log 173): a dequeue in progress ends and is not committed, a panel's with STATE_CONFLICT. -/
def State.flushQueue (s : State) (q : Nat) : State :=
  let x := s.queue q
  let reach := s.walkReach x.head x.cells
  let s1 := s.commitQueue q { x with cells := 0, msgs := 0, halted := false, idleFired := false, deq := none }
  let s2 := (s1.freeList reach).bump 0x6000 0x0C (x.cells - reach.length)
  let s3 :=
    match x.deq with
    | some d =>
      if d.kind = 2 then
        (if d.complete then s2.setPanelDeq d.who none
         else (s2.setPanelDeq d.who none).emit (.panelCell d.who (d.delivered = 0) true 0x41 0 0))
      else s2
    | none => s2
  s3.nextDeq q

/-- A queue command (R154): 1 ENABLE, 2 DISABLE, 3 FLUSH, 4 CLEAR_FLAGS. -/
def queueEffect (op q : Nat) : Effect := fun s =>
  let x := s.queue q
  if !s.qmRuns then (.stateConflict, s)
  else
    match op with
    | 1 =>
      if x.halted || x.limit = 0 then (.stateConflict, s)
      else (.ok, s.storeSetup q { x with setup := setBit x.setup 255 true })
    | 2 => (.ok, s.storeSetup q { x with setup := setBit x.setup 255 false })
    | 3 => if x.enabled then (.stateConflict, s) else (.ok, s.flushQueue q)
    | _ => (.ok, s.commitQueue q { x with underrun := false, overflow := false })

/-- The value of QUEUE_COMMAND (R154). -/
def queueValue (op q : Nat) : Nat := 2 ^ 20 * op + q

/-- Which QUEUE_COMMAND values the dictionary takes: SETUP is BAR0 only (R154, R179). -/
def queueFits (v : Nat) : Bool := bits v 31 24 = 0 && bits v 19 12 = 0 && 1 ≤ bits v 23 20 && bits v 23 20 ≤ 4

/-- QUEUE_ENABLE (R154). -/
def execQueueEnable (src : Source) (queue : Nat) (s : State) : Host.Outcome State Fault Refusal :=
  .next (s.whenOpen s.qmOpen 0x40 (.queueEnable src queue)
    (s.command src 0x6000 0x0B 4 (leBytes 4 (queueValue 1 queue)) [] true (queueFits (queueValue 1 queue))
      (queueEffect 1 queue)))

/-- QUEUE_DISABLE (R154). -/
def execQueueDisable (src : Source) (queue : Nat) (s : State) : Host.Outcome State Fault Refusal :=
  .next (s.whenOpen s.qmOpen 0x40 (.queueDisable src queue)
    (s.command src 0x6000 0x0B 4 (leBytes 4 (queueValue 2 queue)) [] true (queueFits (queueValue 2 queue))
      (queueEffect 2 queue)))

/-- QUEUE_FLUSH (R154). -/
def execQueueFlush (src : Source) (queue : Nat) (s : State) : Host.Outcome State Fault Refusal :=
  .next (s.whenOpen s.qmOpen 0x40 (.queueFlush src queue)
    (s.command src 0x6000 0x0B 4 (leBytes 4 (queueValue 3 queue)) [] true (queueFits (queueValue 3 queue))
      (queueEffect 3 queue)))

/-- QUEUE_CLEAR_FLAGS (R154). -/
def execQueueClearFlags (src : Source) (queue : Nat) (s : State) : Host.Outcome State Fault Refusal :=
  .next (s.whenOpen s.qmOpen 0x40 (.queueClearFlags src queue)
    (s.command src 0x6000 0x0B 4 (leBytes 4 (queueValue 4 queue)) [] true (queueFits (queueValue 4 queue))
      (queueEffect 4 queue)))

/-- A queue command through BAR0: its status is in the command status register; a refusal is journalled from HOST_BAR
(R168, R361). -/
def State.barQueueCommand (s : State) (link op q : Nat) : State :=
  let v := 2 ^ 170 * (s.qm.staging / 2 ^ 170)
  let r :=
    if s.writesHeld 0x6000 then (Status.stateConflict, s)
    else if op = 5 then (if setupFits v then setupEffect q v s else (.valueRange, s))
    else if 1 ≤ op ∧ op ≤ 4 then queueEffect op q s
    else (.valueRange, s)
  let s1 := { r.2 with qm := { r.2.qm with cmdStatus := r.1.code } }
  if r.1 = .ok then s1
  else
    ((s1.journalInternal ⟨0x6000, 0x0B, r.1.code, classSource 0 link, 4, none, leBytes 4 (queueValue op q)⟩).event
      0x0D 0x01 q).bump 0x6000 8 1

/-- QUEUE_SETUP_APPLY (R154): OP SETUP through BAR0 applies the staging registers; reserved bits are taken as 0. -/
def execQueueSetupApply (link queue : Nat) (s : State) : Host.Outcome State Fault Refusal :=
  .next (s.barPosted link (fun t =>
    t.whenOpen t.qmOpen 0x40 (.queueSetupApply link queue) (t.barQueueCommand link 5 queue)))

/-- The words of a control-bank row. -/
def State.controlRow (s : State) (row : Nat) : ReadResult := s.tierRead 0x40 (wordAddr s.controlBank row 0) 8

/-- A word of the control bank decodes as poisoned. -/
def State.controlBad (s : State) (row w : Nat) : Bool := 3 ≤ (s.decodeAt (wordAddr s.controlBank row w)).status

/-- Load the four descriptors of a control-bank row into the cache; a poisoned word halts its queue (R149, R159). What a poisoned
word held is not known: the free data of its read (log 10). -/
def State.loadRow (s : State) (row : Nat) : State :=
  let r := s.controlRow row
  (List.range 4).foldl (fun (t : State) k =>
    let q := row * 4 + k
    let w := Queue.ofWords (r.data / 2 ^ (512 * k + 256) % 2 ^ 256) (r.data / 2 ^ (512 * k) % 2 ^ 256)
    let x := { w with enqs := (t.queue q).enqs, deq := (t.queue q).deq }
    if 3 ≤ r.status && (s.controlBad row (2 * k) || s.controlBad row (2 * k + 1)) then
      (t.setQueue q { x with halted := true }).event 0x0D 0x04 q
    else t.setQueue q x) r.state

/-- Load a row of the pool slot table (R147). -/
def State.loadSlots (s : State) (i : Nat) : State :=
  let r := s.controlRow (1025 + i)
  (List.range 32).foldl (fun (t : State) k =>
    let v := r.data / 2 ^ (64 * k) % 2 ^ 64
    let x := if v.testBit 63 then ⟨true, v.testBit 62, v % 2048⟩ else PoolSlot.free
    { t with qm := { t.qm with slots := Tab.put (fun _ => PoolSlot.free) t.qm.slots (i * 32 + k) x } }) r.state

/-- The free-cell map is rebuilt by walking each non-empty queue (R149): the cells a walk reaches are used, and a queue whose walk
meets a link that cannot be read, the last cell's too, is halted (R159). -/
def State.rebuildMap (s : State) : State :=
  s.qm.queues.foldl (fun (t : State) x =>
    if x.2.msgs = 0 then t
    else
      let reach := t.walkReach x.2.head x.2.cells
      let t1 := t.markCells true reach
      if reach.any (fun c => (t.linkOf c).isNone) && !x.2.halted then t1.corruptQueue x.1 else t1) s

/-- The cells that enqueues accepted and not yet committed hold, on every path (R14, R156). -/
def Qm.accepted (m : Qm) : List Nat :=
  m.queues.flatMap (fun x => x.2.enqs.flatMap Enq.cells)
    ++ m.panelEnq.flatMap (fun x => match x.2 with
      | some p => if p.discard then [] else p.enq.cells
      | none => [])
    ++ m.movers.flatMap (fun x => match x.2.enq with
      | some e => e.cells
      | none => [])

/-- Banks that drain and hold no allocated cell after a rebuild leave the pool (R150). -/
def State.drainAll (s : State) : State := s.qm.slots.foldl (fun (t : State) x => t.drainSlot x.1) s

/-- The signature of the pool header (R147). -/
def poolSignature : Nat := 0x51434D50

/-- The transfers of a queue that were accepted. -/
def Queue.carried (x : Queue) : Queue := { Queue.init with enqs := x.enqs, deq := x.deq }

/-- The queue manager as it starts (R149): what it accepted before it was disabled completes where its pool is the same (R14), and is
gone with another pool. The rotation begins at slot 0 (DESIGN CHOICE, log 172). -/
def Qm.idle (m : Qm) (same : Bool) : Qm :=
  if same then
    { m with
      queues := m.queues.foldl (fun t x => Tab.put (fun _ => Queue.init) t x.1 x.2.carried) []
      exhausted := false, rot := 0 }
  else { m with queues := [], panelEnq := [], panelDeq := [], exhausted := false, rot := 0 }

/-- Start the queue manager (R148, R149): fresh start or resume, then the rebuild runs. -/
def qmStartEffect : Effect := fun s =>
  let b := s.controlBank
  if !s.owns 0x40 b then (.ownerMismatch, s)
  else
    let on := fun (t : State) => State.wr { t with qm := { t.qm with rebuilding := true } } 0x6000 1 1
    let loaded := fun (same : Bool) (t : State) =>
      on ((List.range 1024).foldl State.loadRow { t with qm := t.qm.idle same })
    if !s.isWritten b 1024 then
      let t := (s.tierWriteRow 0x40 b 1024 poolSignature).2
      (.ok, loaded false (State.setSlot { t with qm := { t.qm with slots := [] } } 0 ⟨true, false, b⟩))
    else
      let r := s.controlRow 1024
      let s1 := (List.range 8).foldl State.loadSlots { r.state with qm := { r.state.qm with slots := [] } }
      if r.status < 3 ∧ r.data % 2 ^ 32 = poolSignature ∧ (s1.slot 0).valid ∧ (s1.slot 0).bank = b then
        (.ok, loaded ((s.slot 0).valid && (s.slot 0).bank = b) s1)
      else (.stateConflict, s)

/-- The dequeues that wait when the queue manager stops are refused (R156, R165); the one in progress goes on (R14). -/
def State.refuseWaiting (s : State) : State :=
  s.qm.queues.foldl (fun (t : State) x =>
    x.2.waiting.foldl (fun (u : State) d =>
      (if d.kind = 2 then u.setPanelDeq d.who none else u).startDeq x.1 d)
      (t.setQueue x.1 { t.queue x.1 with waiting := [] })) s

/-- QM_ENABLE (R148): FALSE is refused only while a queue is enabled. What the queue manager holds stays as it is until the next
enable loads it anew, and what it has accepted still commits (R14; log 153). -/
def qmEnableEffect (on : Bool) : Effect := fun s =>
  if on then (if s.rd 0x6000 1 = 1 then (.ok, s) else qmStartEffect s)
  else if s.qm.queues.any (fun x => x.2.enabled) then (.stateConflict, s)
  else (.ok, State.refuseWaiting (State.wr { s with qm := { s.qm with rebuilding := false } } 0x6000 1 0))

/-- QM_ENABLE_WRITE (R148). -/
def execQmEnableWrite (src : Source) (on : Bool) (s : State) : Host.Outcome State Fault Refusal :=
  .next (s.whenOpen s.qmOpen 0x40 (.qmEnableWrite src on)
    (s.command src 0x6000 1 1 (leBytes 1 (flag on)) (s.regBytes 0x6000 1) true true (qmEnableEffect on)))

/-- QM_REBUILD_DONE (R149, R177): the map is rebuilt, QM_REBUILT counts the non-empty queues, and the pending bit of
every queue vector with VEC_EN and a message is set. -/
def execQmRebuildDone (s : State) : Host.Outcome State Fault Refusal :=
  if s.qm.rebuilding && s.tierOpen 0x40 then
    let s1 := ((State.rebuildMap { s with qm := { s.qm with rebuilding := false, used := [] } }).markCells true
      s.qm.accepted).drainAll
    let full := s.qm.queues.filter (fun x => x.2.msgs ≠ 0)
    let s2 := full.foldl (fun (t : State) x =>
      if x.2.vecEn then t.setVector (64 + x.1) { t.vector (64 + x.1) with pending := true } else t) s1
    .next (s2.event 0x0D 0x07 (satAdd 65535 0 full.length))
  else .next s

/-- POOL_ADD (R150). -/
def poolAddEffect (b : Nat) : Effect := fun s =>
  if !s.owns 0x40 b then (.ownerMismatch, s)
  else if !s.qmRuns || (s.slotOf b).isSome then (.stateConflict, s)
  else
    match ((List.range 255).map (· + 1)).find? (fun k => !(s.slot k).valid) with
    | some k =>
      let s1 := s.setSlot k ⟨true, false, b⟩
      (.ok, { s1 with qm := { s1.qm with exhausted := s1.qm.exhausted && s1.freeCells = 0 } })
    | none => (.stateConflict, s)

/-- POOL_ADD, a write to 0x6000:04 (R150). -/
def execPoolAdd (src : Source) (bank : Nat) (s : State) : Host.Outcome State Fault Refusal :=
  .next (s.whenOpen s.qmOpen 0x40 (.poolAdd src bank)
    (s.command src 0x6000 4 3 (leBytes 2 bank) [] true true (poolAddEffect bank)))

/-- POOL_REMOVE (R150): DRAINING; the slot clears at once when no cell of the bank is allocated. DEDUCED (log 73): a bank without a
slot, and any bank while the queue manager is disabled or rebuilds, is answered STATE_CONFLICT. -/
def poolRemoveEffect (b : Nat) : Effect := fun s =>
  match s.slotOf b with
  | some k =>
    if k = 0 || !s.qmRuns then (.stateConflict, s)
    else (.ok, (s.setSlot k { s.slot k with draining := true }).drainSlot k)
  | none => (.stateConflict, s)

/-- POOL_REMOVE, a write to 0x6000:05 (R150). -/
def execPoolRemove (src : Source) (bank : Nat) (s : State) : Host.Outcome State Fault Refusal :=
  .next (s.whenOpen s.qmOpen 0x40 (.poolRemove src bank)
    (s.command src 0x6000 5 3 (leBytes 2 bank) [] true true (poolRemoveEffect bank)))

/-- A write of one dword of a vector's table entry (R174): field 0 and 1 the address words, 2 the data, 3 the control
word. -/
def State.vectorWrite (s : State) (vector field value : Nat) : State :=
  if vector < 4160 then
    let x := s.vector vector
    let v := value % 2 ^ 32
    match field with
    | 0 => s.setVector vector { x with addr := 2 ^ 32 * (x.addr / 2 ^ 32) + v }
    | 1 => s.setVector vector { x with addr := x.addr % 2 ^ 32 + 2 ^ 32 * v }
    | 2 => s.setVector vector { x with data := v }
    | 3 => s.setVector vector { x with control := v % 2 }
    | _ => s
  else s

/-- VECTOR_TABLE_WRITE (R174). -/
def execVectorTableWrite (link vector field value : Nat) (s : State) : Host.Outcome State Fault Refusal :=
  .next (s.barPosted link (fun t => t.vectorWrite vector field value))

/-- VECTOR_STEER of a vector (R175). -/
def State.steer (s : State) (v : Nat) : Nat := s.rd (0x6101 + v / 256) (v % 256)

/-- The link that traffic the device originates takes on a port towards a partner (R269, R290). -/
def State.routeLink (s : State) (port partner : Nat) : Option Nat :=
  match (s.activeLinks port).find? (fun l => s.rd 0x5110 l = partner) with
  | some l => some l
  | none =>
    if s.portMode port = 2 && (s.rd 0x5100 port).testBit 27 then (s.activeLinks port).head? else none

/-- VECTOR_DELIVERY (R176): a queued or pending vector is sent as one posted write, or held with its pending bit while
it or its function is masked or while its port has no link for it (R269; log 85). A write held for its port stays queued; that hold counts once, and the first writes
VECTOR_BLOCKED. -/
def execVectorDelivery (vector : Nat) (s : State) : Host.Outcome State Fault Refusal :=
  let x := s.vector vector
  let port := bits (s.steer vector) 14 12
  let partner := s.steer vector % 4096
  if x.queued || x.pending then
    if x.control.testBit 0 then .next (s.setVector vector { x with queued := false, pending := true })
    else
      match s.routeLink port partner with
      | some l =>
        if s.fnMasked l then .next (s.setVector vector { x with queued := false, pending := true })
        else .next ((s.setVector vector { x with queued := false, pending := false }).sendPosted l partner x.addr
          (leBytes 4 x.data))
      | none =>
        if x.pending && x.queued then .next s
        else
          let s1 := (s.setVector vector { x with queued := true, pending := true }).bump 0x6100 2 1
          if s.qm.blocked.contains port then .next s1
          else .next (State.event { s1 with qm := { s1.qm with blocked := s1.qm.blocked ++ [port] } } 0x0E 0x01 port)
  else .next s

/-- QM_STATUS (R179). -/
def State.qmStatus (s : State) : Nat :=
  flag s.qmRuns + 2 * flag s.qm.rebuilding + 65536 * s.poolCount

/-- DEQ_STATUS of a page (R167). -/
def State.deqStatus (s : State) (q : Nat) : Nat :=
  let x := s.queue q
  let p := s.page q
  x.msgs + 2 ^ 24 * p.lastLength + 2 ^ 48 * p.lastStatus + 2 ^ 59 * flag x.enabled + 2 ^ 60 * flag x.idleFired
    + 2 ^ 61 * flag x.overflow + 2 ^ 62 * flag x.underrun + 2 ^ 63 * flag p.emptyRead

end Sys2Proof.Machine
end

