-- ==== Sys2Proof/Machine/Ddr.lean ====
section
/-! DEFINITION. Attached DDR5 memory (spec/08): population, address map, training, line code and poison, requests at the
controllers, patrol scrub, the burst cap, temperature and self-refresh. Also the completion of a DMA mover's descriptor
and its halt (R171, R173), which a failed read of attached memory causes. -/

namespace Sys2Proof.Machine

/-- Channel `c`. -/
def State.chan (s : State) (c : Nat) : DdrChan := Tab.look (fun _ => DdrChan.init) s.ddr.chans c

/-- Store channel `c`. -/
def State.setChan (s : State) (c : Nat) (x : DdrChan) : State :=
  { s with ddr := { s.ddr with chans := Tab.put (fun _ => DdrChan.init) s.ddr.chans c x } }

/-- DDR_CHANNEL_MASK: the populated channels, rising (R224). -/
def State.populated (s : State) : List Nat := members 8 (s.rd 0x5300 4)

/-- log2 of the number of populated channels (R209). -/
def State.chanBits (s : State) : Nat :=
  match s.populated.length with
  | 8 => 3
  | 4 => 2
  | 2 => 1
  | _ => 0

/-- The populated channel with an index in the channel set (R206, R209). -/
def chanAt (c idx : Nat) : Nat := idx * (8 / 2 ^ c)

/-- The channel of a line (R209): DPA[7+C-1:7] XOR DPA[20+C-1:20]. -/
def State.chanOf (s : State) (line : Nat) : Nat :=
  let c := s.chanBits
  chanAt c ((line / 2 % 2 ^ c) ^^^ (line / 2 ^ 14 % 2 ^ c))

/-- The subchannel of a line (R209). -/
def subchannel (line : Nat) : Nat := line % 2

/-- The line with a place in a channel's local address order (R209): the inverse of the map. -/
def State.lineAt (s : State) (chan pos : Nat) : Nat :=
  let c := s.chanBits
  let hi := pos / 2
  pos % 2 + 2 * ((chan / (8 / 2 ^ c)) ^^^ (hi / 2 ^ (13 - c) % 2 ^ c)) + 2 ^ (1 + c) * hi

/-- Where a line stands in a channel's DRAM (R209). -/
structure DdrPlace where
  chan : Nat
  sub : Nat
  column : Nat
  group : Nat
  bank : Nat
  rank : Nat
  slot : Nat
  row : Nat
  deriving DecidableEq, Repr

/-- The channel-local line of a line: its DPA with bits 7+C-1:7 removed (R209). -/
def State.localLine (s : State) (line : Nat) : Nat := line % 2 + 2 * (line / 2 / 2 ^ s.chanBits)

/-- The decode of a line's channel-local address A (R209): its bits are those of the local line from bit 6 up. -/
def State.ddrPlace (s : State) (line : Nat) : DdrPlace :=
  let x := s.chan (s.chanOf line)
  let a := s.localLine line
  let r := x.log2Ranks
  let d := flag (x.dimms = 3)
  let w := if x.density then 17 else 16
  { chan := s.chanOf line, sub := a % 2, column := 16 * (a / 2 % 128), group := a / 2 ^ 8 % 8, bank := a / 2 ^ 11 % 4
    rank := a / 2 ^ 13 % 2 ^ r, slot := a / 2 ^ (13 + r) % 2 ^ d, row := a / 2 ^ (13 + r + d) % 2 ^ w }

/-- Lines of attached memory (R206, R224). -/
def State.ddrLines (s : State) : Nat := s.rd 0x5300 1 / 64

/-- Lines of each populated channel. -/
def State.chanLines (s : State) : Nat := s.ddrLines / 2 ^ s.chanBits

/-- The poison pattern over the 16 check bytes of a codeword (R216): bits 639:512 of the 80 B burst. -/
def poisonPattern : Nat := 0x96969696969696969696969696969696 * 2 ^ 512

/-- The device whose symbols alone hold an error pattern (R214): device d holds bytes 8d to 8d + 7 of the burst. -/
def oneDevice (e : Nat) : Option Nat :=
  (List.range 10).find? (fun d => decide (e / 2 ^ (64 * d) % 2 ^ 64 * 2 ^ (64 * d) = e))

/-- The classes of a line read (R214). `corrected` carries the device and the pattern the decoder takes away. -/
inductive LineClass where
  | clean
  | corrected (device pattern : Nat)
  | poisoned
  | uncorrectable
  deriving DecidableEq, Repr

/-- The line code: RS(80,64) over GF(2^8) with x^8 + x^4 + x^3 + x^2 + 1 (R214). The spec does not say where the roots of its
generator begin: a free value (log 12). -/
def lineCode : RsCode := ⟨8, 0x11D, Config.ddrFirstRoot % 255, 16⟩

/-- The syndromes of an error pattern: symbol p of the codeword is byte p of the burst (R214; log 12). -/
def lineSyndromes (e : Nat) : List Nat :=
  lineCode.syndromes ((List.range 80).reverse.map (fun p => e / 256 ^ p % 256))

/-- The positions of a device's 8 symbols. -/
def devicePlaces (d : Nat) : List Nat := (List.range 8).map (fun j => 8 * d + j)

/-- The pattern within device `d` that has the syndromes `s`, where there is one (R214). -/
def devicePattern (s : List Nat) (d : Nat) : Option Nat :=
  let ps := devicePlaces d
  let vs := lineCode.valuesAt ps s
  if lineCode.syndromesAt ps vs = s then some (256 ^ (8 * d) * (vs.reverse.foldl (fun n v => 256 * n + v % 256) 0)) else none

/-- The class of a line by its syndromes (R214). -/
def syndromeClass (e : Nat) : LineClass :=
  let s := lineSyndromes e
  if s.all (· = 0) then .clean
  else if s = lineSyndromes poisonPattern then .poisoned
  else
    match (List.range 10).findSome? (fun d => (devicePattern s d).map (fun p => (d, p))) with
    | some (d, p) => .corrected d p
    | none => .uncorrectable

/-- The class of a line from the difference of its burst from the codeword of its data (R214, R216). No syndrome need be formed for
no difference, for the poison pattern itself, and for one within a device, which is always located. -/
def lineClass (e : Nat) : LineClass :=
  if e = 0 then .clean
  else if e = poisonPattern then .poisoned
  else
    match oneDevice e with
    | some d => .corrected d e
    | none => syndromeClass e

/-- A stored line: its data and its error pattern. One that nothing has written since the contents were lost holds free
values (R222, log 12). -/
def State.ddrLine (s : State) (line : Nat) : (Nat × Nat) × State :=
  match Tab.look (fun _ => none) s.ddr.lines line with
  | some v => (v, s)
  | none => ((s.freeNow % 2 ^ 512, s.drawn.freeNow % 2 ^ 640), s.drawn.drawn)

/-- Store a line. -/
def State.setLine (s : State) (line data err : Nat) : State :=
  { s with ddr := { s.ddr with lines := Tab.put (fun _ => none) s.ddr.lines line (some (data, err)) } }

/-- DDR_LAST_ERROR (R226). -/
def State.ddrError (s : State) (source line cls device : Nat) : State :=
  s.wr 0x5300 0x0F (2 ^ 56 * source + 2 ^ 53 * s.chanOf line + 2 ^ 52 * subchannel line + 2 ^ 50 * cls
    + 2 ^ 46 * device + line * 64)

/-- What a line read records (R214, R216, R217): counters, DDR_LAST_ERROR and DDR_UE. -/
def State.noteLine (s : State) (source line : Nat) (c : LineClass) : State :=
  match c with
  | .clean => s
  | .corrected d _ => (s.count64 0x5300 0x0A 1).ddrError source line 1 d
  | .poisoned => s.count64 0x5300 0x0C 1
  | .uncorrectable =>
    ((s.count64 0x5300 0x0B 1).ddrError source line 2 0).event 0x0C 0x03 (256 * s.chanOf line + subchannel line)

/-- A line write at its controller (R214–R216): a full line replaces the stored one; a partial one is merged, unless the
old line is uncorrectable or poisoned, which leaves it poisoned. A line that the directory writes poisoned keeps its data and is not
read (R191). -/
def State.writeLine (s : State) (source line be data : Nat) (poison : Bool) : State :=
  if be % 2 ^ 64 = 2 ^ 64 - 1 then s.setLine line (data % 2 ^ 512) (if poison then poisonPattern else 0)
  else if be % 2 ^ 64 = 0 ∧ poison then (s.ddrLine line).2.setLine line (s.ddrLine line).1.1 poisonPattern
  else
    let r := s.ddrLine line
    let c := lineClass r.1.2
    let s1 := r.2.noteLine source line c
    match c with
    | .clean => s1.setLine line (mergeBytes be (r.1.1 ^^^ (r.1.2 % 2 ^ 512)) data 64) (if poison then poisonPattern else 0)
    | .corrected _ p =>
      s1.setLine line (mergeBytes be (r.1.1 ^^^ ((r.1.2 ^^^ p) % 2 ^ 512)) data 64) (if poison then poisonPattern else 0)
    | _ => s1.setLine line r.1.1 poisonPattern

/-- Mover `m`. -/
def State.mover (s : State) (m : Nat) : Mover := Tab.look (fun _ => Mover.init) s.qm.movers m

/-- Store mover `m`. -/
def State.setMover (s : State) (m : Nat) (x : Mover) : State :=
  { s with qm := { s.qm with movers := Tab.put (fun _ => Mover.init) s.qm.movers m x } }

/-- The word address of a ring entry (R169). -/
def Mover.entryAddr (x : Mover) (i : Nat) : Nat := x.base / 32 + i

/-- A descriptor with its written-back fields (R170). -/
def descriptorBack (d result status : Nat) (done : Bool) : Nat :=
  2 ^ 64 * (d / 2 ^ 64) + 2 ^ 39 * (result % 2 ^ 25) + 2 ^ 31 * flag done + 2 ^ 16 * (status % 256)

/-- The mover's descriptor is written back (R171, R173). -/
def State.writeBack (s : State) (m result status : Nat) (done : Bool) : State :=
  let x := s.mover m
  match x.desc with
  | some d => (s.tierWrite 0x42 (x.entryAddr x.head) (2 ^ 32 - 1) (descriptorBack d result status done)).2
  | none => s

/-- What a mover holds for a descriptor is dropped. -/
def Mover.drop (x : Mover) : Mover :=
  { x with desc := none, moved := 0, enq := none, lines := [], reading := [], host := none, asked := false
           writes := [], ended := false }

/-- The cells an unfinished enqueue of a mover holds return to the pool, and its unfinished dequeue leaves the message at
the head (R173). -/
def State.dropMover (s : State) (m : Nat) : State :=
  let x := s.mover m
  let s1 :=
    match x.enq with
    | some e => s.freeList e.cells
    | none => s
  let s2 := { s1 with qm := { s1.qm with
    queues := s1.qm.queues.map (fun (q : Nat × Queue) =>
      match q.2.deq with
      | some d => if d.kind = 3 ∧ d.who = m then (q.1, { q.2 with deq := none }) else q
      | none => q) } }
  s2.setMover m (s2.mover m).drop

/-- A mover halts (R173): written back with DONE 0 and the cause, HALTED, one MOVER_HALT event, its vector. `done` is
BYTES_DONE, which carries the status of R165 for QUEUE_REFUSED (R172). -/
def State.haltMover (s : State) (m cause done : Nat) : State :=
  let moved := (s.mover m).moved
  let s1 := (s.writeBack m moved cause false).dropMover m
  let s2 := s1.setMover m { s1.mover m with
    halted := true, cause := cause, haltIndex := (s1.mover m).head, bytesDone := done }
  (s2.event 0x0D 0x05 (4096 * m + cause)).trigger (48 + m)

/-- A mover's descriptor ends (R171): written back with DONE 1, HEAD advances, its vector with IRQ. -/
def State.endMover (s : State) (m status result : Nat) : State :=
  let x := s.mover m
  let irq := match x.desc with
    | some d => d.testBit 81
    | none => false
  let s1 := s.writeBack m result status true
  let s2 := s1.setMover m { (s1.mover m).drop with head := if x.size = 0 then 0 else (x.head + 1) % x.size }
  if irq then s2.trigger (48 + m) else s2

/-- A line of attached memory reaches the mover that asked for it (R217): DDR_ERROR when it is unusable. -/
def State.moverLine (s : State) (m line data : Nat) (bad : Bool) : State :=
  let x := s.mover m
  if x.reading.contains line then
    if bad then s.haltMover m 0x14 (256 * (x.moved / 256))
    else s.setMover m { x with
      reading := x.reading.erase line, lines := Tab.put (fun _ => none) x.lines line (some data) }
  else s

/-- A mover's dequeue in progress at a queue: the message's first value (R171). -/
def State.moverFirst (s : State) (q m : Nat) : Option Nat :=
  match (s.queue q).deq with
  | some d => if d.kind = 3 ∧ d.who = m then some d.first else none
  | none => none

/-- A descriptor whose units have all been written ends (R171): a QUEUE source is committed and the queue's next dequeue begins, and
the descriptor is written back. -/
def State.finishMover (s : State) (m : Nat) : State :=
  let x := s.mover m
  match x.desc with
  | some d =>
    let q := bits d 255 192 % 4096
    let s1 :=
      match (if bits d 102 100 = 3 then s.moverFirst q m else none) with
      | some v => ((s.setQueue q { s.queue q with deq := none }).commitDeq q v).nextDeq q
      | none => s
    s1.endMover m 0 x.moved
  | none => s

/-- A mover's line write has been made; the last one ends a descriptor whose units have all moved. -/
def State.moverWrote (s : State) (m : Nat) : State :=
  let x := s.mover m
  let s1 := s.setMover m { x with writing := x.writing - 1 }
  if x.ended && x.writes.isEmpty && x.writing ≤ 1 then s1.finishMover m else s1

/-- Transaction `n` of the directory engine. -/
def State.txn (s : State) (n : Nat) : Option DirTxn := s.dir.txns.find? (fun t => t.id = n)

/-- Replace a transaction of the directory engine. -/
def State.setTxn (s : State) (x : DirTxn) : State :=
  { s with dir := { s.dir with txns := s.dir.txns.map (fun t => if t.id = x.id then x else t) } }

/-- A transaction leaves the tracker. -/
def State.dropTxn (s : State) (n : Nat) : State :=
  { s with dir := { s.dir with txns := s.dir.txns.filter (fun t => t.id ≠ n) } }

/-- Line data goes to the requester of a transaction (R189, R217). -/
def State.deliverLine (s : State) (t : DirTxn) (data : Nat) (bad : Bool) : State :=
  if t.cls = 8 then s.moverLine t.mover t.line data bad
  else s.sendCxl t.link t.partner 3 t.line t.tag data bad

/-- Line data is present for a transaction (R186 step 6): it follows the NDR response where that is sent, and is kept
until then. A read that a write-back has made stale is dropped (R187). -/
def State.dataPresent (s : State) (n seq data : Nat) (bad : Bool) : State :=
  match s.txn n with
  | some t =>
    if t.awaited ≠ seq then s
    else if t.phase = .data then (s.deliverLine t data bad).dropTxn n
    else s.setTxn { t with got := some (data, bad) }
  | none => s

/-- Whether a channel accepts a burst of `n` in the current window (R219). -/
def DdrChan.admits (x : DdrChan) (n : Nat) : Bool :=
  match x.allow with
  | some a => x.used + n ≤ a
  | none => true

/-- A request is not performed (R210): counted, with one event for the first of its kind since COLD reset; a read is
answered poisoned, a write discarded. `kind` 0 DPA_RANGE, 1 NOT_READY. -/
def State.ddrRefuse (s : State) (r : DdrReq) (kind inst : Nat) : State :=
  let s1 := s.bump 0x5300 (0x0D + kind) 1
  let s2 :=
    if s1.ddr.seen.contains kind then s1
    else State.event { s1 with ddr := { s1.ddr with seen := s1.ddr.seen ++ [kind] } } 0x0C (4 + kind) inst
  if r.write then s2 else s2.dataPresent r.txn r.data (s2.freeNow % 2 ^ 512) true |>.drawn

/-- Bursts a request takes: a partial write reads first (R215). -/
def DdrReq.bursts (r : DdrReq) : Nat := if r.write && r.be % 2 ^ 64 ≠ 2 ^ 64 - 1 then 2 else 1

/-- A channel's controller accepts a request: a write is stored, and cancels the write-back of earlier reads of its line
(R215); a read is taken with the line as it stands. -/
def State.acceptDdr (s : State) (c : Nat) (r : DdrReq) : State :=
  let x := s.chan c
  let y := { x with used := x.used + r.bursts }
  if r.write then
    let s1 := s.setChan c { y with
      reads := y.reads.map (fun q => if q.line = r.line then { q with overtaken := true } else q) }
    s1.writeLine r.source r.line r.be r.data r.poison
  else
    let v := s.ddrLine r.line
    (v.2.setChan c { y with reads := y.reads ++ [{ r with stored := v.1 }] }).setLine r.line v.1.1 v.1.2

/-- DCLK runs (R33, R442). -/
def State.dclkRuns (s : State) : Bool :=
  !s.clkLost.contains 24 &&
    match s.dev.state with
    | .managed | .operational | .quiescing | .safeStop => true
    | _ => false

/-- The controllers take new requests: not from step 4 of the stop or of BASE_WARM on (R220, R448). -/
def State.ddrOpen (s : State) : Bool := s.stop.step < 4 && !s.dev.held

/-- Requests of a channel under the cap keep their order, so that none passes one over it (R219). -/
def State.firstInCap (s : State) (c : Nat) (r : DdrReq) : Bool :=
  (s.chan c).allow.isNone || s.ddr.issued.find? (fun q => s.chanOf q.line = c) = some r

/-- DDR_REQUEST (R210, R219, R220): the oldest request issued for a line reaches its controller. One beyond the
capacity, or for a channel that is not READY, is not performed; one for a channel in self-refresh during a stop is
held; one over the cap waits. -/
def execDdrRequest (line : Nat) (s : State) : Host.Outcome State Fault Refusal :=
  match s.ddr.issued.find? (fun r => r.line = line) with
  | some r =>
    let c := s.chanOf line
    let x := s.chan c
    let s1 := { s with ddr := { s.ddr with issued := s.ddr.issued.erase r } }
    if s.ddrLines ≤ line then .next (s1.ddrRefuse r 0 r.source)
    else if x.cstate = .ready then
      if x.admits r.bursts && s.dclkRuns && s.ddrOpen && s.firstInCap c r then .next (s1.acceptDdr c r) else .next s
    else if x.cstate = .selfRefresh ∧ (s.dev.stopAsserted ∨ s.dev.held) then .next s
    else .next (s1.ddrRefuse r 1 c)
  | none => .next s

/-- Stored bits of a line have changed in the DRAM. -/
def State.disturb (s : State) (line flips : Nat) : State :=
  if flips = 0 then s
  else
    let r := s.ddrLine line
    r.2.setLine line r.1.1 (r.1.2 ^^^ flips)

/-- The data of a line as its burst holds them, less the pattern that the decoder takes away, which is 0 for a clean one (R214). -/
def correctedData (v : Nat × Nat) (p : Nat) : Nat := v.1 ^^^ ((v.2 ^^^ p) % 2 ^ 512)

/-- What a read leaves in the DRAM: the disturbed line, or the corrected line written back (R215). -/
def State.settleRead (s : State) (r : DdrReq) (flips : Nat) : State :=
  if r.overtaken then s
  else
    match lineClass (r.stored.2 ^^^ flips) with
    | .corrected _ p =>
      if s.rd 0x5300 6 = 1 then s.setLine r.line (correctedData (r.stored.1, r.stored.2 ^^^ flips) p) 0
      else s.disturb r.line flips
    | _ => s.disturb r.line flips

/-- The burst of a corrected read's write-back (R215, R219). -/
def State.writesBack (s : State) (r : DdrReq) (c : LineClass) : Nat :=
  match c with
  | .corrected _ _ => if s.rd 0x5300 6 = 1 && !r.overtaken then 1 else 0
  | _ => 0

/-- DDR_READ_COMPLETE (R214, R215, R217, R219): once the burst of a write-back fits the cap, the oldest read of a channel is decoded, with the bits `flips` changed in the
DRAM, and goes to its requester. -/
def execDdrReadComplete (chan flips : Nat) (s : State) : Host.Outcome State Fault Refusal :=
  let x := s.chan chan
  match x.reads with
  | r :: t =>
    let c := lineClass (r.stored.2 ^^^ (flips % 2 ^ 640))
    if s.dclkRuns && x.admits (s.writesBack r c) then
      let s1 := ((s.setChan chan { x with reads := t, used := x.used + s.writesBack r c }).settleRead r (flips % 2 ^ 640)).noteLine r.source r.line c
      match c with
      | .clean =>
        .next (s1.dataPresent r.txn r.data (correctedData (r.stored.1, r.stored.2 ^^^ (flips % 2 ^ 640)) 0) false)
      | .corrected _ p =>
        .next (s1.dataPresent r.txn r.data (correctedData (r.stored.1, r.stored.2 ^^^ (flips % 2 ^ 640)) p) false)
      | _ => .next (s1.drawn.dataPresent r.txn r.data (s1.freeNow % 2 ^ 512) true)
    else .next s
  | [] => .next s

/-- Every populated channel has wrapped more often than passes were counted (R218). -/
def State.scrubPassDone (s : State) : Bool :=
  !s.populated.isEmpty && s.populated.all (fun c => decide (s.rd 0x5300 0x10 < (s.chan c).scrubPasses))

/-- The scrub position after one line (R218). -/
def DdrChan.scrubNext (x : DdrChan) (lines : Nat) : DdrChan :=
  if lines ≤ x.scrubPos + 1 then { x with scrubPos := 0, scrubPasses := x.scrubPasses + 1 }
  else { x with scrubPos := x.scrubPos + 1 }

/-- What a scrub read does to its line (R218): corrections are written back whatever DDR_WRITEBACK_ENABLE holds, an
uncorrectable line is rewritten poisoned. -/
def State.scrubAt (s : State) (line : Nat) : State :=
  let r := s.ddrLine line
  let c := lineClass r.1.2
  let s1 := r.2.noteLine 3 line c
  match c with
  | .corrected _ p => s1.setLine line (correctedData r.1 p) 0
  | .uncorrectable => s1.setLine line r.1.1 poisonPattern
  | _ => s1.setLine line r.1.1 r.1.2

/-- A request of a channel waits or is in progress (R218). -/
def State.chanBusy (s : State) (c : Nat) : Bool :=
  !(s.chan c).reads.isEmpty || s.ddr.issued.any (fun r => s.chanOf r.line = c && r.line < s.ddrLines)

/-- SCRUB_LINE (R218, R219): a READY channel reads its next line when no request of the channel waits, and two bursts fit the cap, for
the read and a write-back. -/
def execScrubLine (chan flips : Nat) (s : State) : Host.Outcome State Fault Refusal :=
  let x := s.chan chan
  if x.cstate = .ready && s.rd 0x5300 7 = 1 && !s.chanBusy chan && x.admits 2 && s.dclkRuns then
    let line := s.lineAt chan (if s.chanLines ≤ x.scrubPos then 0 else x.scrubPos)
    let s1 := (s.setChan chan { x with used := x.used + 2 }).disturb line (flips % 2 ^ 640)
    let s2 := s1.scrubAt line
    let s3 := s2.setChan chan ((s2.chan chan).scrubNext s.chanLines)
    if s3.scrubPassDone then
      .next ((s3.bump 0x5300 0x10 1).event 0x0C 0x06 ((s3.rd 0x5300 0x10 + 1) % 65536))
    else .next s3
  else .next s

/-- Peak data bursts of a channel in 1 µs (R219): 400 per subchannel at 6,400 MT/s. -/
def State.peakBursts (s : State) : Nat := s.rd 0x5300 2 / 16 * 2

/-- DDR_CAP_WINDOW (R219): each 1 µs window takes its allowance from the cap in force. -/
def execDdrCapWindow (chan : Nat) (s : State) : Host.Outcome State Fault Refusal :=
  .next (s.setChan chan { s.chan chan with
    used := 0
    allow := if s.throttle.ddrCap then some (s.peakBursts * s.rd 0x5300 9 / 8) else none })

/-- SPD_TEMP_POLL (R221): a slot at or above 85 °C is refreshed at twice the rate; at or above 95 °C it is hot, with one
event per crossing, until below 90 °C. -/
def execSpdTempPoll (chan slot temp : Nat) (s : State) : Host.Outcome State Fault Refusal :=
  let x := s.chan chan
  if x.dimms.testBit slot ∧ slot < 2 then
    let was := x.hot.contains slot
    let x1 := { x with fast := if 85 ≤ temp then x.fast.filter (· ≠ slot) ++ [slot] else x.fast.filter (· ≠ slot) }
    if 95 ≤ temp ∧ !was then
      .next ((s.setChan chan { x1 with hot := x1.hot ++ [slot] }).event 0x0C 0x07 (256 * chan + slot))
    else if temp < 90 then .next (s.setChan chan { x1 with hot := x1.hot.filter (· ≠ slot) })
    else .next (s.setChan chan x1)
  else .next s

/-- The DIMMs of a channel, slots rising, as bits. -/
def slotBits (ds : List Dimm) (c : Nat) : Nat :=
  flag (ds.any (fun d => d.chan = c ∧ d.slot = 0)) + 2 * flag (ds.any (fun d => d.chan = c ∧ d.slot = 1))

/-- The channels that hold a DIMM, as a mask. -/
def chanMask (ds : List Dimm) : Nat :=
  (List.range 8).foldl (fun n c => if slotBits ds c = 0 then n else n + 2 ^ c) 0

/-- The population rules of R206. -/
def populationOk (ds : List Dimm) : Bool :=
  match ds with
  | [] => false
  | a :: _ =>
    ds.all (fun d => d.moduleOk && (d.density = 16 || d.density = 32)
      && (d.ranks = 1 || d.ranks = 2 || d.ranks = 4 || d.ranks = 8) && d.gb ≤ 256 && 4800 ≤ d.speed
      && d.density = a.density && d.ranks = a.ranks && d.gb = a.gb && d.speed = a.speed && d.chan < 8 && d.slot < 2)
    && (chanMask ds = 0x01 || chanMask ds = 0x11 || chanMask ds = 0x55 || chanMask ds = 0xFF)
    && (slotBits ds 0 = 1 || slotBits ds 0 = 3)
    && (members 8 (chanMask ds)).all (fun c => slotBits ds c = slotBits ds 0)

/-- The data rate of a population (R207). -/
def dataRate (bin maxRate : Nat) (two : Bool) : Nat :=
  min (min bin maxRate) (if two then 5600 else 6400)

/-- log2 of a rank count (R209). -/
def rankBits (r : Nat) : Nat :=
  match r with
  | 8 => 3
  | 4 => 2
  | 2 => 1
  | _ => 0

/-- What the SPD hubs of a channel answer, in CHANNEL_STATUS (R225): a hub whose contents fail their CRC gives no values, which read
0 (log 157). A slot that still holds a DIMM keeps what its temperature sensor showed (R221). -/
def DdrChan.populate (x : DdrChan) (ds : List Dimm) (c : Nat) : DdrChan :=
  let n := slotBits ds c
  let x1 := { x with dimms := n, hot := x.hot.filter n.testBit, fast := x.fast.filter n.testBit }
  match ds.find? (fun d => d.chan = c && d.crcOk) with
  | some d => { x1 with log2Ranks := rankBits d.ranks, density := d.density = 32, dimmGb := d.gb % 2048 }
  | none => { x1 with log2Ranks := 0, density := false, dimmGb := 0 }

/-- A channel at the start of a full training, from what its SPD hubs answer (R206, R225). -/
def DdrChan.begin (x : DdrChan) (ds : List Dimm) (c rate : Nat) : DdrChan :=
  match ds.find? (fun d => d.chan = c) with
  | some _ => { x.populate ds c with cstate := .training, resume := false, speed := rate, reads := [] }
  | none => { x.populate ds c with cstate := .unpopulated, speed := 0, reads := [] }

/-- A training that fails before a channel trains (R206, R208): every channel FAILED, one event per populated one. -/
def State.failAll (s : State) (ds : List Dimm) (result : Nat) : State :=
  (List.range 8).foldl (fun (t : State) c =>
    let t1 := t.setChan c { (t.chan c).populate ds c with cstate := .failed, result := result, speed := 0, reads := [] }
    if slotBits ds c = 0 then t1 else t1.event 0x0C 0x02 (256 * c + result)) s

/-- A channel that has scrubbed fewer passes than were counted begins with the next one (R218). -/
def DdrChan.countsFrom (x : DdrChan) (n : Nat) : DdrChan := { x with scrubPasses := max x.scrubPasses n }

/-- TRAIN_FULL (R206–R208, R212): refused unless MANAGED, the directory disabled and no channel training; accepted when
no populated channel is in self-refresh. DRAM contents are lost. -/
def trainFullEffect (ds : List Dimm) : Effect := fun s =>
  if s.dev.state ≠ .managed || s.rd 0x5200 1 = 1 || (List.range 8).any (fun c => (s.chan c).cstate = .training)
      || (List.range 8).any (fun c => (s.chan c).cstate = .selfRefresh) then (.stateConflict, s)
  else
    let s0 := { s with ddr := { s.ddr with lines := [] } }
    let s1 := (s0.wr 0x5300 4 (chanMask ds)).wr 0x5300 1 0
    if ds.any (fun d => !d.crcOk) then (.ok, s1.failAll ds 2)
    else if !populationOk ds then (.ok, s1.failAll ds 1)
    else
      let bin := match ds with
        | d :: _ => d.speed
        | [] => 0
      let rate := dataRate bin (s.rd 0x5300 3) (slotBits ds 0 = 3)
      (.ok, (List.range 8).foldl (fun (t : State) c => t.setChan c (((t.chan c).begin ds c rate).countsFrom (s.rd 0x5300 0x10))) s1)

/-- TRAIN_FULL, the write 0x01 to DDR_COMMAND (R212). -/
def execTrainFull (src : Source) (dimms : List Dimm) (s : State) : Host.Outcome State Fault Refusal :=
  .next (s.command src 0x5300 5 2 (leBytes 1 1) [] true true (trainFullEffect dimms))

/-- A channel begins TRAIN_RESUME (R212). -/
def State.resumeChan (s : State) (c : Nat) : State :=
  s.setChan c { s.chan c with cstate := .training, resume := true }

/-- TRAIN_RESUME (R212): accepted only when every populated channel is in self-refresh with SAVED. -/
def trainResumeEffect : Effect := fun s =>
  if s.dev.state ≠ .managed || s.rd 0x5200 1 = 1 || (List.range 8).any (fun c => (s.chan c).cstate = .training)
      || s.populated.isEmpty
      || !s.populated.all (fun c => (s.chan c).cstate = .selfRefresh && (s.chan c).saved) then (.stateConflict, s)
  else (.ok, s.populated.foldl State.resumeChan s)

/-- TRAIN_RESUME, the write 0x02 to DDR_COMMAND (R212). -/
def execTrainResume (src : Source) (s : State) : Host.Outcome State Fault Refusal :=
  .next (s.command src 0x5300 5 2 (leBytes 1 2) [] true true trainResumeEffect)

/-- STATE_COMMAND CLEAR resumes every channel in self-refresh on its own (R212). -/
def State.resumeAll (s : State) : State :=
  ((List.range 8).filter (fun c => (s.chan c).cstate = .selfRefresh)).foldl State.resumeChan s

/-- The margins of R212: at least 0.25 UI for both eyes and 20 mV for both Vref margins (R213). -/
def marginOk (m : Nat) : Bool := 16 ≤ bits m 31 24 && 16 ≤ bits m 23 16 && 20 ≤ bits m 15 8 && 20 ≤ bits m 7 0

/-- The result a training ends with (R213): a full training that measures a margin below the minimum ends MARGIN. -/
def trainResult (resume : Bool) (result margin : Nat) : Nat :=
  if resume then (if result = 0 then 0 else 8)
  else if result = 0 then (if marginOk margin then 0 else 7)
  else if 3 ≤ result ∧ result ≤ 7 then result
  else 7

/-- A successful full training sets DDR_CAPACITY and DDR_SPEED (R206, R224). -/
def State.ddrSized (s : State) (x : DdrChan) : State :=
  let dimms := if x.dimms = 3 then 2 else 1
  (s.wr 0x5300 1 (2 ^ 30 * (s.populated.length * dimms * x.dimmGb))).wr 0x5300 2 x.speed

/-- DDR_TRAINING_DONE (R212): READY with TRAIN_DONE, or FAILED with TRAIN_FAILED; a successful full training sets
SAVED. No training goes on while DCLK's PLL has lost its lock (R442). -/
def execDdrTrainingDone (chan result margin : Nat) (s : State) : Host.Outcome State Fault Refusal :=
  let x := s.chan chan
  if x.cstate = .training && s.dclkRuns then
    let r := trainResult x.resume result (margin % 2 ^ 32)
    let x1 := { x with result := r, margin := if x.resume then x.margin else margin % 2 ^ 32 }
    if r = 0 then
      let s1 := s.setChan chan { x1 with cstate := .ready, saved := x.saved || !x.resume }
      .next ((if x.resume then s1 else s1.ddrSized x).event 0x0C 0x01 (256 * chan + r))
    else .next ((s.setChan chan { x1 with cstate := .failed }).event 0x0C 0x02 (256 * chan + r))
  else .next s

/-- CHANNEL_STATUS (R225). -/
def DdrChan.status (x : DdrChan) : Nat :=
  2 ^ 28 * (match x.cstate with
    | .unpopulated => 0
    | .idle => 1
    | .training => 2
    | .ready => 3
    | .selfRefresh => 4
    | .failed => 5) + 2 ^ 20 * x.result + 2 ^ 19 * flag x.saved + 2 ^ 18 * flag (!x.hot.isEmpty)
    + 2 ^ 14 * x.dimms + 2 ^ 12 * x.log2Ranks + 2 ^ 11 * flag x.density + x.dimmGb

/-- The data rate that DCLK runs at: that of a populated channel from the start of its training on (R207). -/
def State.ddrRate (s : State) : Nat := (s.populated.map (fun c => (s.chan c).speed)).foldl max 0

/-- Memory_Active of the ports (R210, R265): every populated channel READY. -/
def State.ddrReady (s : State) : Bool :=
  !s.populated.isEmpty && s.populated.all (fun c => decide ((s.chan c).cstate = .ready))

/-- Step 4 of the stop, and the tier gate at BASE_WARM (R220, R222): every READY channel finishes its accepted requests
and enters self-refresh, and so does one in training, which ends there. -/
def State.selfRefreshAll (s : State) : State :=
  (List.range 8).foldl (fun (t : State) c =>
    let x := t.chan c
    if x.cstate = .ready || x.cstate = .training then t.setChan c { x with cstate := .selfRefresh, resume := false } else t) s

end Sys2Proof.Machine
end

