-- ==== Sys2Proof/Machine/Ecdsa.lean ====
section
/-! DEFINITION. ECDSA verification over P-256 (FIPS 186-5, SP 800-186), the signatures of R310, R378 and R380. The spec names the
standard and does not restate it: PRESUMED (log 5). -/

namespace Sys2Proof

/-- The prime of the field of P-256. -/
def ecP : Nat := 0xFFFFFFFF00000001000000000000000000000000FFFFFFFFFFFFFFFFFFFFFFFF

/-- The order of the base point. -/
def ecN : Nat := 0xFFFFFFFF00000000FFFFFFFFFFFFFFFFBCE6FAADA7179E84F3B9CAC2FC632551

/-- The coefficient b of the curve; a is −3. -/
def ecB : Nat := 0x5AC635D8AA3A93E7B3EBBD55769886BC651D06B0CC53B0F63BCE3C3E27D2604B

/-- A point in Jacobian coordinates; `z` is 0 at the point at infinity. -/
structure EcPoint where
  x : Nat
  y : Nat
  z : Nat
  deriving DecidableEq, Repr

/-- The base point. -/
def ecG : EcPoint :=
  ⟨0x6B17D1F2E12C4247F8BCE6E563A440F277037D812DEB33A0F4A13945D898C296,
    0x4FE342E2FE1A7F9B8EE7EB4A7C0F9E162BCE33576B315ECECBB6406837BF51F5, 1⟩

/-- Product in the field. -/
def ecMul (a b : Nat) : Nat := a * b % ecP

/-- Difference in the field. -/
def ecSub (a b : Nat) : Nat := (a + ecP - b) % ecP

/-- Twice a point. -/
def ecDouble (p : EcPoint) : EcPoint :=
  withNat (ecMul p.z p.z) fun d =>
  withNat (ecMul p.y p.y) fun g =>
  withNat (ecMul p.x g) fun b =>
  withNat (3 * ecSub p.x d * (p.x + d) % ecP) fun a =>
  withNat (ecSub (ecMul a a) (8 * b % ecP)) fun x =>
  withNat (ecSub (ecMul a (ecSub (4 * b % ecP) x)) (8 * g * g % ecP)) fun y =>
  withNat (2 * p.y * p.z % ecP) fun z => ⟨x, y, z⟩

/-- The sum of two points. -/
def ecAdd (p q : EcPoint) : EcPoint :=
  if p.z = 0 then q
  else if q.z = 0 then p
  else
    withNat (ecMul p.z p.z) fun pz =>
    withNat (ecMul q.z q.z) fun qz =>
    withNat (ecMul p.x qz) fun u =>
    withNat (ecSub (ecMul q.x pz) u) fun h =>
    withNat (p.y * q.z % ecP * qz % ecP) fun s =>
    withNat (ecSub (q.y * p.z % ecP * pz % ecP) s) fun r =>
    if h = 0 then (if r = 0 then ecDouble p else ⟨1, 1, 0⟩)
    else
      withNat (ecMul h h) fun hh =>
      withNat (ecMul hh h) fun hhh =>
      withNat (ecMul u hh) fun v =>
      withNat (ecSub (ecSub (ecMul r r) hhh) (2 * v % ecP)) fun x =>
      withNat (ecSub (ecMul r (ecSub v x)) (ecMul s hhh)) fun y =>
      withNat (p.z * q.z % ecP * h % ecP) fun z => ⟨x, y, z⟩

/-- `u` times the base point plus `v` times `q`, by the low `n` bits of `u` and `v` and the sum `sum` of the two points. -/
def ecSum (u v : Nat) (q sum : EcPoint) : Nat → EcPoint → EcPoint
  | 0, acc => acc
  | n + 1, acc =>
    let twice := ecDouble acc
    ecSum u v q sum n
      (if u.testBit n then (if v.testBit n then ecAdd twice sum else ecAdd twice ecG)
        else if v.testBit n then ecAdd twice q else twice)

/-- A power modulo the order of the base point, by the low `n` bits of the exponent. -/
def ecPow (b : Nat) : Nat → Nat → Nat
  | 0, _ => 1
  | n + 1, e => withNat (ecPow b n (e / 2)) fun h => h * h % ecN * (if e % 2 = 1 then b else 1) % ecN

/-- The public key is a point of the curve. -/
def ecOnCurve (x y : Nat) : Bool :=
  x < ecP && y < ecP && ecMul y y = (x * x % ecP * x + (ecP - 3) * x + ecB) % ecP

/-- Whether a signature of a message digest verifies under a public key (FIPS 186-5, 6.4.2): the key is X then Y, the signature r
then s, each 32 bytes little-endian (R310, R378, R380). -/
def ecdsaVerify (key digest sig : List Byte) : Bool :=
  let x := leValue (slice key 0 32)
  let y := leValue (slice key 32 32)
  let r := leValue (slice sig 0 32)
  let s := leValue (slice sig 32 32)
  if 0 < r && r < ecN && 0 < s && s < ecN && ecOnCurve x y then
    withNat (ecPow s 256 (ecN - 2)) fun w =>
    withNat (beValue digest * w % ecN) fun u =>
    withNat (r * w % ecN) fun v =>
    let p := ecSum u v ⟨x, y, 1⟩ (ecAdd ecG ⟨x, y, 1⟩) 256 ⟨1, 1, 0⟩
    withNat (ecMul p.z p.z) fun zz =>
    p.z != 0 && (ecMul r zz == p.x || r + ecN < ecP && ecMul (r + ecN) zz == p.x)
  else false

end Sys2Proof
end

