-- ==== Sys2Proof/Machine/Directory.lean ====
section
/-! DEFINITION. The coherence directory engine (spec/07): sets and entries, lookup, transitions, back-invalidation,
victims, hooks, sweeps and commands. -/

namespace Sys2Proof.Machine

/-- TAG, STATE, POLICY and SHARERS of an entry (R184). -/
def entTag (e : Nat) : Nat := bits e 63 38
/-- STATE of an entry. -/
def entState (e : Nat) : Nat := bits e 37 35
/-- POLICY of an entry. -/
def entPolicy (e : Nat) : Nat := bits e 34 32
/-- SHARERS of an entry. -/
def entSharers (e : Nat) : Nat := e % 2 ^ 32
/-- An entry from its fields. -/
def entry (tag state policy sharers : Nat) : Nat := 2 ^ 38 * tag + 2 ^ 35 * state + 2 ^ 32 * policy + sharers

/-- The filled slots of DIR_BANK_SLOT, rising (R182). -/
def State.dirSlots (s : State) : List Nat := (List.range 256).filter (fun k => s.rd 0x5201 k ≠ 0xFFFF)

/-- N (R182). -/
def State.dirN (s : State) : Nat := s.dirSlots.length

/-- S = 12 + log2 N (R183). -/
def State.dirS (s : State) : Nat := 12 + Nat.log2 s.dirN

/-- The set index of a line (R183). -/
def State.setOf (s : State) (line : Nat) : Nat :=
  (line % 2 ^ s.dirS) ^^^ (line % 2 ^ 36 / 2 ^ s.dirS % 2 ^ s.dirS)

/-- The tag of a line (R183). -/
def State.tagOf (s : State) (line : Nat) : Nat := line % 2 ^ 36 / 2 ^ s.dirS

/-- The line with a tag in a set (R183). -/
def State.lineOfTag (s : State) (set tag : Nat) : Nat := tag * 2 ^ s.dirS + (set ^^^ (tag % 2 ^ s.dirS))

/-- The bank of a set (R183). -/
def State.setBankOf (s : State) (set : Nat) : Nat := s.rd 0x5201 (set % s.dirN)

/-- The row of a set (R183). -/
def State.setRowOf (s : State) (set : Nat) : Nat := set / s.dirN

/-- An entry that the engine treats as corrupt (R185). -/
def State.corruptEntry (s : State) (e : Nat) : Bool :=
  let exact := entState e = 1 || entState e = 3 || entState e = 4
  6 ≤ entState e
    || exact && (bits e 31 25 ≠ 0 || e.testBit 24 && (bits e 11 0 = bits e 23 12 || entState e = 3))
    || 36 - s.dirS < 26 && entTag e / 2 ^ (36 - s.dirS) ≠ 0

/-- The partners registered in HOST_MAP (R181). -/
def State.registered (s : State) (p : Nat) : Bool := (s.rd 0x5202 (p / 32)).testBit (p % 32)

/-- The partners an entry lists (R185): exact ones, or every registered partner of the groups set. -/
def State.sharers (s : State) (e : Nat) : List Nat :=
  match entState e with
  | 1 | 4 => if e.testBit 24 then [bits e 11 0, bits e 23 12] else [bits e 11 0]
  | 3 => [bits e 11 0]
  | 2 | 5 => (List.range 4096).filter (fun p => e.testBit (p / 128) && s.registered p)
  | _ => []

/-- An exact sharer field of one or two partners (R185). -/
def exactField (l : List Nat) : Nat :=
  match l with
  | [] => 0
  | [a] => a
  | a :: b :: _ => 2 ^ 24 + a + 2 ^ 12 * b

/-- The group bits of a list of partners (R185). -/
def groupBits (l : List Nat) : Nat := l.foldl (fun n p => setBit n (p / 128) true) 0

/-- Ways of a set that read as lost, and the 32 entries as the engine takes them (R198). -/
structure SetRead where
  ways : List Nat
  state : State

/-- A word or way is lost (R198): counted and reported once, until its word is next written. -/
def State.loseWays (s : State) (bank key n : Nat) : State :=
  if s.dir.lost.contains key then s
  else
    State.event { s.bump 0x5200 0x0E n with dir := { s.dir with lost := s.dir.lost ++ [key] } } 0x0B 0x01 bank

/-- The entries of one set word from its status and data (R198). -/
def State.wordWays (s : State) (bank a status data : Nat) : SetRead :=
  if 3 ≤ status then ⟨[0, 0, 0, 0], s.loseWays bank (a * 8 + 4) 4⟩
  else
    (List.range 4).foldl (fun (r : SetRead) k =>
      let e := data / 2 ^ (64 * k) % 2 ^ 64
      if s.dir.lost.contains (a * 8 + 4) || s.dir.lost.contains (a * 8 + k) then ⟨r.ways ++ [0], r.state⟩
      else if s.corruptEntry e then ⟨r.ways ++ [0], r.state.loseWays bank (a * 8 + k) 1⟩
      else ⟨r.ways ++ [e], r.state⟩) ⟨[], s⟩

/-- Read `n` words of a set from word `w` (R186, R198). -/
def State.setWords (s : State) (bank row w : Nat) (bad : Bool) : Nat → SetRead × List (Nat × Nat)
  | 0 => (⟨[], s⟩, [])
  | n + 1 =>
    let r := s.readWords 0x41 bank row w 1
    let x := r.2.2.2.wordWays bank (wordAddr bank row w) (if bad then 3 else r.1) r.2.1
    let q := x.state.setWords bank row (w + 1) bad n
    (⟨x.ways ++ q.1.ways, q.1.state⟩, r.2.2.1 ++ q.2)

/-- Read a set (R186, R198): a row access as requester DIR; an unwritten row is 32 INVALID ways. A set buffer error of
the base-tier SRAM is a poisoned set read (R141), and so is a read of a bank that DIR does not own (R24). -/
def State.readSet (s : State) (set : Nat) : SetRead :=
  let bank := s.setBankOf set
  let row := s.setRowOf set
  let bad := s.sramMarked 4
  let s1 := (s.sramTaken 4).baseTurn 0x41 bank
  if !s1.owns 0x41 bank then
    ⟨List.replicate 32 0, (List.range 8).foldl (fun (t : State) w => t.loseWays bank (wordAddr bank row w * 8 + 4) 4) (s1.ownerFault bank)⟩
  else if !s1.isWritten bank row then ⟨List.replicate 32 0, s1.uninit bank⟩
  else
    let r := s1.setWords bank row 0 bad 8
    ⟨r.1.ways, r.1.state.queueRepair bank row r.2⟩

/-- The entries of a word as it is stored, with lost and corrupt ways INVALID. -/
def State.wordNow (s : State) (a : Nat) : Nat :=
  let data :=
    match s.decodeAt a with
    | .clean => s.mem.data (s.place a)
    | .correctable d _ _ => d
    | _ => 0
  if s.isWritten (bankOf a) (rowOf a) && !s.dir.lost.contains (a * 8 + 4) then
    (List.range 4).foldl (fun n k =>
      let e := data / 2 ^ (64 * k) % 2 ^ 64
      if s.corruptEntry e || s.dir.lost.contains (a * 8 + k) then n else n + e * 2 ^ (64 * k)) 0
  else 0

/-- The entries a word holds, corrected where they can be; lost ones stay as stored until the word is next written (R198; log 134). -/
def State.wordHeld (s : State) (a : Nat) : Nat :=
  if s.isWritten (bankOf a) (rowOf a) then
    match s.decodeAt a with
    | .correctable d _ _ => d
    | _ => s.mem.data (s.place a)
  else 0

/-- Ways of a word in a state that a test accepts. -/
def countWays (data : Nat) (p : Nat → Bool) : Nat :=
  ((List.range 4).filter (fun k => p (entState (data / 2 ^ (64 * k) % 2 ^ 64)))).length

/-- Entries not INVALID. -/
def validState (x : Nat) : Bool := x ≠ 0
/-- SHARED_COARSE and BI_PENDING_COARSE. -/
def coarseState (x : Nat) : Bool := x = 2 || x = 5

/-- Write one way of a set (R186 step 5): the word that holds it is written whole, lost ways INVALID (R198), and
VALID_ENTRIES and COARSE_ENTRIES follow, but for a set that a RESUME sweep has yet to read and count (R199). -/
def State.writeWay (s : State) (set way e : Nat) : State :=
  let a := wordAddr (s.setBankOf set) (s.setRowOf set) (way / 4)
  let raw := s.wordHeld a
  let now := s.wordNow a
  let sh := 64 * (way % 4)
  let new := now - now / 2 ^ sh % 2 ^ 64 * 2 ^ sh + e * 2 ^ sh
  let s1 := (s.tierWrite 0x41 a (2 ^ 32 - 1) new).2
  let s2 := { s1 with dir := { s1.dir with lost := s1.dir.lost.filter (fun k => k / 8 ≠ a) } }
  if s.dir.sweep = some 1 ∧ s.dir.sweepNext ≤ set then s2
  else (s2.wr 0x5200 8 (s2.rd 0x5200 8 + countWays new validState - countWays raw validState)).wr 0x5200 9
    (s2.rd 0x5200 9 + countWays new coarseState - countWays raw coarseState)

/-- The policy class of a new entry (R194). -/
def State.policyOf (s : State) (line : Nat) : Nat :=
  match (List.range 8).find? (fun r =>
      (s.rd 0x5206 r).testBit 7 && s.rd 0x5204 r ≤ line && line ≤ s.rd 0x5205 r) with
  | some r => s.rd 0x5206 r % 8
  | none => 0

/-- POLICY_CLASS of a class (R195). -/
def State.policyWord (s : State) (c : Nat) : Nat := s.rd 0x5203 c

/-- What a transition does (R189): snoops, the entry's state and sharers after (STATE 0 INVALID), the NDR response
(0 Cmp, 1 Cmp-S, 2 Cmp-E, 3 none), whether an entry is allocated or changed, and the event bits of R195. -/
structure Plan where
  inv : List Nat
  ask : Option Nat
  state : Nat
  sharers : Nat
  resp : Nat
  changed : Bool
  events : Nat

/-- A transition that changes no entry. -/
def Plan.keep (resp : Nat) : Plan := ⟨[], none, 0, 0, resp, false, 0⟩

/-- The shared form of a list of partners: exact for one or two, coarse for more (R189). -/
def sharedForm (l : List Nat) : Nat × Nat :=
  if l.length ≤ 2 then (1, exactField l) else (2, groupBits l)

/-- The transition of a line that no partner caches (R189). `grant` is GRANT_SHARED of the class of a new entry. -/
def planInvalid (cls p metaState : Nat) (grant : Bool) : Plan :=
  match cls with
  | 2 => ⟨[], none, 1, p, 1, true, 0x01⟩
  | 3 => if grant then ⟨[], none, 1, p, 1, true, 0x01⟩ else ⟨[], none, 3, p, 2, true, 0x03⟩
  | 6 => if metaState = 3 then ⟨[], none, 3, p, 0, true, 0x03⟩ else ⟨[], none, 1, p, 0, true, 0x01⟩
  | 1 | 8 => Plan.keep 3
  | _ => Plan.keep 0

/-- The transition of a SHARED line with entry `e` (R189): `l` are its recorded sharers. -/
def planShared (cls p metaState e : Nat) (l : List Nat) : Plan :=
  let coarse := entState e = 2
  let others := l.filter (· ≠ p)
  let drop := fun (st sh resp ev : Nat) =>
    Plan.mk others none st sh resp true (ev + (if others.isEmpty then 0 else 0x10))
  match cls with
  | 1 | 8 => Plan.keep 3
  | 2 =>
    if coarse then
      (if e.testBit (p / 128) then Plan.keep 1
       else ⟨[], none, 2, setBit (entSharers e) (p / 128) true, 1, true, 0x04⟩)
    else if l.contains p then Plan.keep 1
    else
      let f := sharedForm (l ++ [p])
      ⟨[], none, f.1, f.2, 1, true, if f.1 = 2 then 0x84 else 0x04⟩
  | 3 => drop 3 p 2 0x02
  | 4 => drop 0 0 0 0x40
  | 5 =>
    if coarse || !l.contains p then Plan.keep 0
    else if others.isEmpty then ⟨[], none, 0, 0, 0, true, 0x40⟩
    else ⟨[], none, 1, exactField others, 0, true, 0⟩
  | 6 => if metaState = 3 then drop 3 p 0 0x02 else drop 1 p 0 (if l.contains p then 0 else 0x04)
  | _ => drop 0 0 0 0x40

/-- The transition of a line that partner `q` holds EXCLUSIVE, for a requester that is not `q` (R189). -/
def planOther (cls p metaState q : Nat) : Plan :=
  match cls with
  | 1 | 8 => ⟨[], some q, 1, q, 3, true, 0x08⟩
  | 2 => ⟨[], some q, 1, exactField [q, p], 1, true, 0x0C⟩
  | 3 => ⟨[q], none, 3, p, 2, true, 0x12⟩
  | 5 => Plan.keep 0
  | 6 => if metaState = 3 then ⟨[q], none, 3, p, 0, true, 0x12⟩ else ⟨[q], none, 1, p, 0, true, 0x14⟩
  | _ => ⟨[q], none, 0, 0, 0, true, 0x50⟩

/-- The transition of a line that the requester holds EXCLUSIVE (R189). -/
def planOwn (cls p metaState : Nat) : Plan :=
  match cls with
  | 1 | 8 => Plan.keep 3
  | 2 => ⟨[], none, 1, p, 1, true, 0⟩
  | 3 => Plan.keep 2
  | 6 => if metaState = 3 then Plan.keep 0 else ⟨[], none, 1, p, 0, true, 0⟩
  | _ => ⟨[], none, 0, 0, 0, true, 0x40⟩

/-- A sweep's transition of an entry (R199–R201): RESUME recalls a BI_PENDING entry, FLUSH every entry, PURGE removes
partners without a snoop. -/
def State.planSweep (s : State) (kind e : Nat) : Plan :=
  let l := s.sharers e
  match kind with
  | 3 =>
    let gone := s.dir.purging
    if entState e = 2 || entState e = 5 then
      let f := (List.range 32).foldl (fun n b =>
        if (entSharers e).testBit b && ((List.range 128).any (fun i => s.registered (128 * b + i))) then n + 2 ^ b else n) 0
      if f = entSharers e then Plan.keep 3
      else if f = 0 then ⟨[], none, 0, 0, 3, true, 0x40⟩
      else ⟨[], none, entState e, f, 3, true, 0⟩
    else
      let rest := l.filter (fun p => !gone.contains p)
      if rest.length = l.length then Plan.keep 3
      else if rest.isEmpty then ⟨[], none, 0, 0, 3, true, 0x40⟩
      else ⟨[], none, entState e, exactField rest, 3, true, 0⟩
  | 1 => if entState e = 4 || entState e = 5 then ⟨l, none, 0, 0, 3, true, 0x40⟩ else Plan.keep 3
  | _ => ⟨l, none, 0, 0, 3, true, 0x40⟩

/-- The class of a request by what the directory records (R188): a No-Op write of a recorded requester is WRITE_KEEP
with what is recorded, of another WRITE_DROP. -/
def State.classNow (s : State) (t : DirTxn) (e : Nat) : Nat × Nat :=
  if t.cls = 6 ∧ t.metaState = 0 then
    if entState e = 3 ∧ bits e 11 0 = t.partner then (6, 3)
    else if entState e = 1 ∧ (s.sharers e).contains t.partner then (6, 2)
    else if entState e = 2 ∧ e.testBit (t.partner / 128) then (6, 2)
    else (7, 0)
  else (t.cls, t.metaState)

/-- The transition of a request on an entry of its line (0 for none). A LOCAL request acts with no partner (R189). -/
def State.planFor (s : State) (t : DirTxn) (e : Nat) : Plan :=
  if t.cls = 0xB then s.planSweep t.metaState e
  else
    let c := s.classNow t e
    let p := if c.1 = 8 ∨ c.1 = 9 then 4096 else t.partner
    match entState e with
    | 1 | 2 => planShared c.1 p c.2 e (s.sharers e)
    | 3 => if bits e 11 0 = p then planOwn c.1 p c.2 else planOther c.1 p c.2 (bits e 11 0)
    | _ => planInvalid c.1 p c.2 ((s.policyWord (s.policyOf t.line)).testBit 9)

/-- A transaction holds its line, and its victim's, until it is released (R187, R193). -/
def DirTxn.holds (t : DirTxn) (line : Nat) : Bool :=
  match t.phase with
  | .waiting | .data => false
  | _ => t.line = line || t.victim = some line

/-- Whether a line is held by a transaction in flight. -/
def State.lineHeld (s : State) (line : Nat) : Bool := s.dir.txns.any (fun t => t.holds line)

/-- Issue a transaction's read of attached memory; later data of an earlier read of it is not taken (R186, R187). -/
def State.issueRead (s : State) (t : DirTxn) : State :=
  let s1 := s.setTxn { t with awaited := t.awaited + 1, got := none }
  { s1 with ddr := { s1.ddr with issued := s1.ddr.issued ++
    [⟨t.id, t.line, false, 0, t.awaited + 1, false, if t.cls = 8 then 2 else 1, (0, 0), false⟩] } }

/-- Issue a write to attached memory. -/
def State.issueWrite (s : State) (n line be data : Nat) (poison : Bool) (source : Nat) : State :=
  { s with ddr := { s.ddr with issued := s.ddr.issued ++ [⟨n, line, true, be, data, poison, source, (0, 0), false⟩] } }

/-- A transaction starts (R186 step 1): its set is read, and a read class reads attached memory at once. -/
def State.startTxn (s : State) (t : DirTxn) : State :=
  let s1 := (s.setTxn { t with phase := .lookup }).count64 0x5200 0x0A 1
  if t.needData then s1.issueRead { t with phase := .lookup } else s1

/-- A request enters its pipeline (R186, R187): it starts when no transaction holds its line. -/
def State.enterTxn (s : State) (t : DirTxn) : State :=
  let x := { t with id := s.dir.nextId, phase := .waiting }
  let busy := s.lineHeld t.line || s.dir.txns.any (fun y => y.phase = .waiting && y.line = t.line)
  let s1 := { s with dir := { s.dir with txns := s.dir.txns ++ [x], nextId := s.dir.nextId + 1 } }
  if busy then s1 else s1.startTxn x

/-- The oldest request waiting for a line starts when it is released (R187). -/
def State.wakeLine (s : State) (line : Nat) : State :=
  if s.lineHeld line then s
  else
    match s.dir.txns.find? (fun t => t.phase = .waiting && t.line = line) with
    | some t => s.startTxn t
    | none => s

/-- Requests that found no eligible way are retried when a transaction on their set completes (R192). -/
def State.retrySet (s : State) (set : Nat) : State :=
  { s with dir := { s.dir with txns := s.dir.txns.map (fun t =>
    if t.phase = .retry ∧ s.setOf t.line = set then { t with phase := .lookup } else t) } }

/-- The NDR response of a transaction (R186 step 6, R189). -/
def State.respond (s : State) (t : DirTxn) : State :=
  if t.cls = 8 || t.cls = 0xB || t.resp = 3 then s
  else if t.cls = 9 then s.moverWrote t.mover
  else s.sendCxl t.link t.partner t.resp t.line t.tag 0 false

/-- A write is applied to attached memory after the write-backs of its snoops (R189). -/
def State.applyWrite (s : State) (t : DirTxn) : State :=
  if t.cls = 6 || t.cls = 7 || t.cls = 9 then
    s.issueWrite t.id t.line t.be t.wdata t.poison (if t.cls = 9 then 2 else 1)
  else s

/-- A transaction's line is released, its response sent, and its data delivered where it is present (R186). -/
def State.finishTxn (s : State) (t : DirTxn) : State :=
  let s1 := (s.applyWrite t).respond t
  let s2 :=
    match t.needData, t.got with
    | true, some d => (s1.deliverLine t d.1 d.2).dropTxn t.id
    | true, none => s1.setTxn { t with phase := .data }
    | false, _ => s1.dropTxn t.id
  let s3 := s2.retrySet (s2.setOf t.line)
  match t.victim with
  | some v => (s3.wakeLine t.line).wakeLine v
  | none => s3.wakeLine t.line

/-- The BI_PENDING form of an entry with the partners to be snooped (R185, R189). -/
def pendingEntry (e : Nat) (l : List Nat) : Nat :=
  if coarseState (entState e) then entry (entTag e) 5 (entPolicy e) (entSharers e)
  else entry (entTag e) 4 (entPolicy e) (exactField l)

/-- A plan's snoops. -/
def Plan.snoops (p : Plan) : List Snoop :=
  p.inv.map (fun q => ⟨q, false, 0, 0⟩) ++ (match p.ask with
    | some q => [⟨q, true, 0, 0⟩]
    | none => [])

/-- The ways of a set that in-flight transactions have taken. -/
def State.takenWays (s : State) (set id : Nat) : List Nat :=
  (s.dir.txns.filter (fun t => t.id ≠ id && t.phase ≠ .waiting && t.phase ≠ .data && t.phase ≠ .lookup
    && t.phase ≠ .retry && s.setOf t.line = set)).map (·.way)

/-- The victim class of R192 that an entry falls in: 0 none. -/
def victimClass (e : Nat) : Nat :=
  match entState e with
  | 1 => if e.testBit 24 then 2 else 1
  | 3 => 3
  | 2 => 4
  | _ => 0

/-- The way of the best class, the first at or after the pointer (R192). -/
def pickWay (ways : List Nat) (eligible : Nat → Bool) (pointer : Nat) : Option Nat :=
  ([1, 2, 3, 4].map (fun c => ((List.range 32).map (fun k => (pointer + k) % 32)).find? (fun w =>
    eligible w && victimClass (ways.getD w 0) = c))).findSome? id

/-- The victim choice (R192): its way, and whether pinned ways had to be taken. -/
def State.chooseVictim (s : State) (set : Nat) (ways taken : List Nat) : Option (Nat × Bool) :=
  let ptr := Tab.look (fun _ => 0) s.dir.pointers (set % 8)
  let free := fun w => !taken.contains w && !s.lineHeld (s.lineOfTag set (entTag (ways.getD w 0)))
  let pinned := fun w => (s.policyWord (entPolicy (ways.getD w 0))).testBit 8
  match pickWay ways (fun w => free w && !pinned w) ptr with
  | some w => some (w, false)
  | none => (pickWay ways free ptr).map (fun w => (w, true))

/-- A transaction's new entry: its line's tag and the plan's state and sharers, with the class kept, or taken at
allocation (R194). -/
def State.newEntry (s : State) (t : DirTxn) (old : Nat) (p : Plan) : Nat :=
  if p.state = 0 then 0
  else entry (s.tagOf t.line) p.state (if entState old = 0 then s.policyOf t.line else entPolicy old) p.sharers

/-- A new line takes a way: an INVALID one, else a victim (R189, R192, R193). -/
def State.allocate4 (s : State) (t : DirTxn) (p : Plan) (set : Nat) (ways : List Nat) : State :=
  let taken := s.takenWays set t.id
  let new := s.newEntry t 0 p
  let x := { t with old := 0, new := new, resp := p.resp, events := p.events }
  match (List.range 32).find? (fun w => !taken.contains w && entState (ways.getD w 0) = 0) with
  | some w => s.setTxn { x with way := w, taken := 0, phase := .final }
  | none =>
    match s.chooseVictim set ways taken with
    | some (w, overridden) =>
      let e := ways.getD w 0
      let s1 := { s with dir := { s.dir with
        pointers := Tab.put (fun _ => 0) s.dir.pointers (set % 8) ((w + 1) % 32) } }
      let s2 := if overridden then (s1.bump 0x5200 0x11 1).event 0x0B 0x03 (s.setBankOf set) else s1
      let l := s.sharers e
      (s2.count64 0x5200 0x0B 1).setTxn { x with
        way := w, taken := pendingEntry e l, victim := some (s.lineOfTag set (entTag e))
        snoops := l.map (fun q => ⟨q, false, 0, 0⟩), phase := .pend
        events := p.events + 0x20, victimOld := e }
    | none => s.setTxn { t with phase := .retry }

/-- The line of an entry that a PURGE takes from its owner is written poisoned (R200). -/
def State.purgeOwned (s : State) (t : DirTxn) (e : Nat) (p : Plan) : State :=
  if t.cls = 0xB ∧ t.metaState = 3 ∧ p.changed ∧ (entState e = 3 ∨ entState e = 4 ∧ e.testBit 24 = false) then
    s.issueWrite t.id t.line 0 0 true 1
  else s

/-- The transition is applied to what the set read gave (R186 step 4). -/
def State.applyPlan (s : State) (t : DirTxn) (set : Nat) (ways : List Nat) : State :=
  let hit := (List.range 32).find? (fun w =>
    entState (ways.getD w 0) ≠ 0 && entTag (ways.getD w 0) = s.tagOf t.line)
  let e := match hit with
    | some w => ways.getD w 0
    | none => 0
  let c := s.classNow t e
  let t1 := if t.cls = 0xB then t else { t with cls := c.1, metaState := c.2 }
  let p := s.planFor t1 e
  match hit with
  | none =>
    if p.state = 0 || t1.cls = 0xB then s.finishTxn { t1 with resp := p.resp }
    else s.allocate4 t1 p set ways
  | some w =>
    if !p.changed then s.finishTxn { t1 with resp := p.resp, old := e, new := e }
    else
      let x := { t1 with way := w, old := e, new := s.newEntry t1 e p, resp := p.resp, events := p.events }
      let s1 := s.purgeOwned t1 e p
      if p.snoops.isEmpty then s1.setTxn { x with phase := .final }
      else s1.setTxn { x with
        taken := pendingEntry e (p.snoops.map (·.partner)), snoops := p.snoops, phase := .pend }

/-- DIR runs (R442), and admits nothing to the tier once BASE_WARM is asserted (R202, R448). -/
def State.dirRuns (s : State) : Bool := s.memRuns && !s.clkLost.contains 17 && !s.dev.held

/-- The engine's accesses to the tier do not have to wait (R107, R108, R111); hook messages go to the queue manager's banks. -/
def State.dirOpen (s : State) : Bool := s.tierOpen 0x41 && s.qmOpen

/-- Transactions of pipeline `k`, waiting ones included (R187). -/
def State.pipeLoad (s : State) (k : Nat) : Nat := (s.dir.txns.filter (fun t => s.setOf t.line % 8 = k)).length

/-- Transactions of a line's pipeline (R187). -/
def State.pipelineLoad (s : State) (line : Nat) : Nat := s.pipeLoad (s.setOf line % 8)

/-- A blank transaction. -/
def DirTxn.blank : DirTxn :=
  { id := 0, cls := 0, partner := 0, link := 0, tag := 0, mover := 0, line := 0, metaState := 0, be := 0, wdata := 0
    poison := false, needData := false, phase := .waiting, way := 0, taken := 0, old := 0, new := 0, resp := 0
    victim := none, victimOld := 0, snoops := [], reread := false, awaited := 0, got := none, events := 0 }

/-- Ways of a set in a state that a test accepts, as its words hold them. -/
def State.countSet (s : State) (set : Nat) (p : Nat → Bool) : Nat :=
  if s.isWritten (s.setBankOf set) (s.setRowOf set) then
    (List.range 8).foldl (fun n w => n + countWays (s.wordHeld (wordAddr (s.setBankOf set) (s.setRowOf set) w)) p) 0
  else 0

/-- A sweep reads a set (R199): RESUME counts its valid entries, and those it acts on enter the pipelines as SWEEP transactions. -/
def State.sweepSet (s : State) (kind set : Nat) : State :=
  let r := s.readSet set
  let live := r.ways.filter (fun e => entState e ≠ 0)
  let s1 :=
    if kind = 1 then
      (r.state.wr 0x5200 8 (r.state.rd 0x5200 8 + r.state.countSet set validState)).wr 0x5200 9
        (r.state.rd 0x5200 9 + r.state.countSet set coarseState)
    else r.state
  let due := live.filter (fun e => (s1.planSweep kind e).changed)
  due.foldl (fun (u : State) e => u.enterTxn { DirTxn.blank with
    cls := 0xB, line := u.lineOfTag set (entTag e), metaState := kind }) s1

/-- A sweep may read its next set: its pipeline has no SWEEP transaction left, and room for a set's 32 ways (R187; log 154). -/
def State.sweepRoom (s : State) : Bool :=
  let k := s.dir.sweepNext % 8
  !s.dir.txns.any (fun t => t.cls = 0xB && s.setOf t.line % 8 = k) && s.pipeLoad k ≤ 480

/-- A sweep has read every set. -/
def State.sweptAll (s : State) : Bool := 4096 * s.dirN ≤ s.dir.sweepNext

/-- The sweep in progress reads its next sets, each once, while their pipelines have room (R187, R199): at most `n`. -/
def State.sweepFrom (s : State) (kind : Nat) : Nat → State
  | 0 => s
  | n + 1 =>
    if s.sweptAll || !s.sweepRoom then s
    else
      let t := s.sweepSet kind s.dir.sweepNext
      State.sweepFrom { t with dir := { t.dir with sweepNext := t.dir.sweepNext + 1 } } kind n

/-- The sweep in progress, if there is one, goes on while the engine's accesses to the tier do not have to wait (R107, R108, R111). -/
def State.sweepOn (s : State) : State :=
  match s.dir.sweep with
  | some k => if s.dirRuns && s.dirOpen then s.sweepFrom k (4096 * s.dirN - s.dir.sweepNext) else s
  | none => s

/-- DIR_SET_READ_RETURN (R186 steps 3 and 4): the set row returns, tags are compared, the transition is applied and a
victim chosen. -/
def execDirSetReadReturn (txn : Nat) (s : State) : Host.Outcome State Fault Refusal :=
  match s.txn txn with
  | some t =>
    if t.phase = .lookup ∧ s.dirRuns ∧ s.dirOpen then
      let set := s.setOf t.line
      let r := s.readSet set
      .next (r.state.applyPlan t set r.ways).sweepOn
    else .next s
  | none => .next s

/-- The classes whose HOOK_MASK a transaction's events are held against (R196): the new entry's for ALLOCATE, the
victim's for VICTIM, and the line's entry before the transaction for every other event. -/
def State.hookMeets (s : State) (t : DirTxn) : Bool :=
  let m := fun (c : Nat) => s.policyWord c % 256
  (t.events &&& m (entPolicy t.new)) % 2 = 1
    || ((t.events &&& m (entPolicy t.victimOld)) / 32) % 2 = 1 && t.victim.isSome
    || (t.events &&& m (entPolicy t.old)) &&& 0xDE ≠ 0

/-- A hook message (R196). -/
def State.hookBytes (s : State) (t : DirTxn) : List Byte :=
  let partner := if t.cls = 8 || t.cls = 9 || t.cls = 0xB then 0 else t.partner
  leBytes 32 (t.line + 2 ^ 60 * (t.victim.getD 0) + 2 ^ 96 * entSharers t.old + 2 ^ 128 * entSharers t.new
    + 2 ^ 191 * partner + 2 ^ 203 * (if t.new = 0 then entPolicy t.old else entPolicy t.new)
    + 2 ^ 206 * entState t.new + 2 ^ 209 * entState t.old + 2 ^ 212 * t.cls + 2 ^ 216 * (t.events % 256)
    + 2 ^ 224 * (s.dev.aonTime % 2 ^ 32))

/-- The hook message of a transaction (R196, R197): enqueued as class DIR; one that is refused is lost and counted. -/
def State.hook (s : State) (t : DirTxn) : State :=
  if s.rd 0x5200 6 = 1 && s.hookMeets t then
    let q := s.rd 0x5200 5
    match s.enqStatus q 3 32 with
    | .ok => s.acceptEnq q 3 0 (s.hookBytes t)
    | st => (s.enqRefused q 3 0 32 st).bump 0x5200 0x0F 1
  else s

/-- DIR_ENTRY_WRITE_ADMIT (R186 step 5, R190, R197): the BI_PENDING entry is written before its snoops; the final entry
releases the line, orders the response and produces the hook message. -/
def execDirEntryWriteAdmit (txn : Nat) (s : State) : Host.Outcome State Fault Refusal :=
  match s.txn txn with
  | some t =>
    let set := s.setOf t.line
    if !s.dirRuns || !s.dirOpen then .next s
    else
      match t.phase with
      | .pend =>
        .next ((s.writeWay set t.way t.taken).setTxn { t with phase := if t.snoops.isEmpty then .final else .snooping })
      | .final => .next (((s.writeWay set t.way t.new).hook t).finishTxn t).sweepOn
      | _ => .next s
  | none => .next s

/-- The line that a transaction's snoops are for: its victim's while it has one. -/
def DirTxn.snoopLine (t : DirTxn) : Nat := t.victim.getD t.line

/-- The transaction that snoops a line and has not been answered by a partner. -/
def State.snoopTxn (s : State) (partner line : Nat) : Option DirTxn :=
  s.dir.txns.find? (fun t => t.phase = .snooping && t.snoopLine = line && t.snoops.any (fun q => q.partner = partner))

/-- The transaction that has a snoop of a line outstanding at a partner (R190). -/
def State.snoopSent (s : State) (partner line : Nat) : Option DirTxn :=
  s.dir.txns.find? (fun t =>
    t.phase = .snooping && t.snoopLine = line && t.snoops.any (fun q => q.partner = partner && q.issues ≠ 0))

/-- Snoops outstanding in the device (R190). -/
def State.snoopsOut (s : State) : Nat :=
  s.dir.txns.foldl (fun n t =>
    if t.phase = .snooping then n + (t.snoops.filter (fun q => q.issues ≠ 0)).length else n) 0

/-- A link carries CXL.mem: CXL DEVICE role, not trained with 68 B flits (R264, R265). -/
def State.memLink (s : State) (link : Nat) : Bool :=
  s.linkActive link && s.portMode (portOf link) = 2 && s.portRole (portOf link) = 0 && !((s.link link).flit68)

/-- The link of a snoop (log 162): by LINK_PARTNER_ID, else on a PBR port, the lowest-numbered whose decoders reach the line; and
the HPA that names it there. -/
def State.snoopLink (s : State) (partner line : Nat) : Option (Nat × Nat) :=
  let ls := (List.range 96).filterMap (fun l =>
    if s.memLink l then (s.hpaOf l (64 * line)).map (fun a => (l, a / 64)) else none)
  match ls.find? (fun x => s.rd 0x5110 x.1 = partner) with
  | some x => some x
  | none => ls.find? (fun x => s.pbrLink x.1)

/-- Issue a snoop (R190, R191). With no link to its partner it is settled by its timeout. -/
def State.issueSnoop (s : State) (t : DirTxn) (partner : Nat) : State :=
  let isData := t.snoops.any (fun q => q.partner = partner && q.data)
  let s1 := s.setTxn { t with snoops := t.snoops.map (fun q =>
    if q.partner = partner then { q with issues := q.issues + 1, issuedAt := s.dev.aonTime } else q) }
  let s2 := s1.count64 0x5200 0x0C 1
  match s.snoopLink partner t.snoopLine with
  | some x => s2.sendCxl x.1 partner (if isData then 5 else 4) x.2 0 0 false
  | none => s2

/-- DIR_SNOOP_ISSUE (R190): at most 1,024 snoops are outstanding device-wide; none is issued while DIR is gated (R442). -/
def execDirSnoopIssue (partner line : Nat) (s : State) : Host.Outcome State Fault Refusal :=
  match s.snoopTxn partner line with
  | some t =>
    if t.snoops.any (fun q => q.partner = partner && q.issues = 0) && s.snoopsOut < 1024 && !s.clkLost.contains 17 then
      .next (s.issueSnoop t partner)
    else .next s
  | none => .next s

/-- The final entry of a transaction whose BISnpData was answered (R190): BIRspS leaves the partner recorded, BIRspI
removes it. -/
def DirTxn.answered (t : DirTxn) (partner : Nat) (stays : Bool) : DirTxn :=
  let rest := t.snoops.filter (fun q => q.partner ≠ partner)
  let isData := t.snoops.any (fun q => q.partner = partner && q.data)
  let l := if t.new.testBit 24 then [bits t.new 11 0, bits t.new 23 12] else [bits t.new 11 0]
  let keep := l.filter (· ≠ partner)
  let new :=
    if isData && !stays && entState t.new = 1 then
      (if keep.isEmpty then 0 else entry (entTag t.new) 1 (entPolicy t.new) (exactField keep))
    else t.new
  { t with
    snoops := rest, new := new
    events := if new = 0 ∧ t.new ≠ 0 then t.events + 0x40 else t.events
    phase := if rest.isEmpty then .final else t.phase }

/-- A snoop has its answer (R190): when every response has arrived the entry takes its final state, and a line that was
written back is read again (R187). -/
def State.answerSnoop (s : State) (t : DirTxn) (partner : Nat) (stays : Bool) : State :=
  let x := t.answered partner stays
  let s1 := s.setTxn { x with reread := if x.phase = .final then false else x.reread }
  if x.phase = .final ∧ x.reread ∧ x.needData then s1.issueRead { x with reread := false } else s1

/-- A BI response of a partner to a snoop of a line (R190, R266): BIRspI (0) answers both snoops, BIRspS (1) only BISnpData; any
other response, and one that matches no snoop, is a protocol error. -/
def State.takeBiResponse (s : State) (link p line rsp : Nat) : State :=
  let stray := s.cxlError link [rsp, p, line]
  match s.snoopSent p line with
  | some t =>
    match t.snoops.find? (fun q => q.partner = p) with
    | some q => if (rsp = 0 ∨ rsp = 1 ∧ q.data) then s.answerSnoop t p (rsp = 1) else stray
    | none => stray
  | none => stray

/-- DIR_BI_RESPONSE (R190, R266, R268): `spid` and `dpid` are those of a PBR flit; `line` is the attached-memory line of the snoop
that its tag names. -/
def execDirBiResponse (link spid dpid line rsp : Nat) (s : State) : Host.Outcome State Fault Refusal :=
  if !s.memLink link then .next s
  else .next (s.routed link dpid (s.takeBiResponse link (s.partnerOf link spid) line rsp))

/-- The second timeout of a snoop (R191): taken as BIRspI; an EXCLUSIVE owner's line is written poisoned, and a read
that waits on the transaction gets poison. -/
def State.snoopLost (s : State) (t : DirTxn) (partner : Nat) : State :=
  let owner := (t.victim.isNone && entState t.old = 3 && bits t.old 11 0 = partner)
    || (t.victim.isSome && entState t.victimOld = 3)
  let s1 := (s.bump 0x5200 0x0D 1).event 0x0B 0x02 partner
  if owner then
    let s2 := s1.issueWrite t.id t.snoopLine 0 0 true 1
    if t.needData ∧ t.victim.isNone then
      let x := { t with got := some (s2.freeNow % 2 ^ 512, true), awaited := t.awaited + 1, reread := false }
      ((s2.drawn).setTxn x).answerSnoop x partner false
    else s2.answerSnoop t partner false
  else s1.answerSnoop t partner false

/-- DIR_SNOOP_TIMEOUT (R191): BI_TIMEOUT_US after its issue a snoop is issued once more; after that it is settled. -/
def execDirSnoopTimeout (partner line : Nat) (s : State) : Host.Outcome State Fault Refusal :=
  match s.snoopTxn partner line with
  | some t =>
    match t.snoops.find? (fun q => q.partner = partner) with
    | some q =>
      if q.issues = 0 ∨ s.dev.aonTime < q.issuedAt + s.rd 0x5200 7 then .next s
      else if q.issues = 1 then .next (s.issueSnoop t partner)
      else .next (s.snoopLost t partner)
    | none => .next s
  | none => .next s

/-- BICONFLICT (R190): answered with BIConflictAck after the completions already issued to the partner. -/
def execBiconflict (link spid dpid line : Nat) (s : State) : Host.Outcome State Fault Refusal :=
  if !s.memLink link then .next s
  else .next (s.routed link dpid (s.sendCxl link (s.partnerOf link spid) 6 line 0 0 false))

/-- Requests are served (R180): DIR_ENABLE, OPERATIONAL, and no RESUME sweep runs. -/
def State.serving (s : State) : Bool :=
  s.rd 0x5200 1 = 1 && s.dev.state = .operational && s.dir.sweep ≠ some 1 && !s.dir.resumeDue

/-- LOCAL requests are served as R180 gives, and go on during the orderly stop, so that movers can end (R403 step 3). -/
def State.servesLocal (s : State) : Bool :=
  s.serving || s.rd 0x5200 1 = 1 && s.dev.state = .quiescing && s.dir.sweep ≠ some 1 && !s.dir.resumeDue

/-- The class and MetaValue of a request (R188): op 0 MemRd, 1 MemRdData, 2 MemInv, 3 MemInvNT, 4 MemClnEvct, 5 MemWr,
6 MemWrPtl; `field` 0 No-Op, 1 I, 2 S, 3 A. A No-Op write is classed at its lookup. -/
def requestClass (op field : Nat) : Option (Nat × Nat) :=
  let read := if field = 3 then 3 else if field = 2 then 2 else 1
  match op with
  | 0 | 1 => some (read, if field = 0 then 1 else field)
  | 2 | 3 => if field = 3 then some (3, 3) else if field = 2 then some (2, 2) else some (4, 1)
  | 4 => some (5, field)
  | 5 | 6 => if field = 1 then some (7, 1) else some (6, field)
  | _ => none

/-- A request that is not performed is answered (R181, R265, R266): a read with poisoned MemData, any other with Cmp. -/
def State.refuseMem (s : State) (link partner op line tag : Nat) : State :=
  if op = 0 ∨ op = 1 ∨ op = 8 then (s.sendCxl link partner 3 line tag (s.freeNow % 2 ^ 512) true).drawn
  else s.sendCxl link partner 0 line tag 0 false

/-- The write-back of a snooped partner, its MemWr (R190, R187): it belongs to the snooping transaction and is applied, and the
early read of the line is dropped. -/
def State.snoopWrite (s : State) (t : DirTxn) (link p line tag be data : Nat) (poison : Bool) : State :=
  let s1 := s.issueWrite t.id line be data poison 1
  let s2 :=
    if t.victim.isNone then s1.setTxn { t with reread := true, got := none, awaited := t.awaited + 1 } else s1
  s2.sendCxl link p 0 line tag 0 false

/-- A CXL.mem request of a listed class from a partner for an attached-memory line (R181, R187): an unregistered partner's is not
performed; a full pipeline takes none, nor one whose clock is gated (R442). -/
def State.takeMem (s : State) (link p op cls m l tag be data : Nat) (poison : Bool) : State :=
  if !s.registered p then
    let s1 := (s.bump 0x5200 0x10 1).refuseMem link p op l tag
    if s1.dir.unknown.contains p then s1
    else State.event { s1 with dir := { s1.dir with unknown := s1.dir.unknown ++ [p] } } 0x0B 0x04 p
  else if 512 ≤ s.pipelineLoad l || s.clkLost.contains 17 then s
  else
    s.enterTxn { DirTxn.blank with
      cls := cls, partner := p, link := link, tag := tag, line := l, metaState := m
      be := if op = 6 then be else 2 ^ 64 - 1, wdata := data, poison := poison
      needData := op = 0 ∨ op = 1 }

/-- A request that arrives on a CXL.mem link for the device (R188, R265, R266, R190, R261): a snooped partner's write-back belongs to
its snoop and is applied whether or not requests are served; MemSpecRd (op 7) is dropped; an address that no HDM decoder takes is not performed (log
161). -/
def State.cxlRequest (s : State) (link p op field hpa tag be data : Nat) (poison : Bool) : State :=
  let ready := s.serving && s.ddrReady
  let line := s.dpaLine link (hpa % 2 ^ 46)
  match (if op = 5 then line.bind (fun l => s.snoopSent p (l % 2 ^ 36)) else none) with
  | some t => s.snoopWrite t link p t.snoopLine tag (2 ^ 64 - 1) data poison
  | none =>
    if s.dev.state = .quiescing then s
    else if op = 7 then (if ready then s else s.bump 0x5117 (portOf link) 1)
    else
      match requestClass op field with
      | none => (s.cxlError link [op, field, hpa, tag]).refuseMem link p op hpa tag
      | some (cls, m) =>
        if !ready then (s.bump 0x5117 (portOf link) 1).refuseMem link p op hpa tag
        else
          match line with
          | none => s.refuseMem link p op hpa tag
          | some l => s.takeMem link p op cls m (l % 2 ^ 36) tag be data poison

/-- CXL_MEM_REQUEST (R188, R263, R268): a request received on a link. `partner` is the SPID and `dpid` the DPID of a PBR flit; `line`
is an HPA line; op 8 is a read-class request outside R188, a greater op any other. -/
def execCxlMemRequest (link partner dpid op field line tag be data : Nat) (poison : Bool) (s : State) :
    Host.Outcome State Fault Refusal :=
  if !s.memLink link then .next s
  else .next (s.routed link dpid (s.cxlRequest link (s.partnerOf link partner) op field line tag be data poison))

/-- Whether a line is one that a mover's unit needs from attached memory, and it has not asked for it. -/
def Mover.wants (x : Mover) (line : Nat) : Bool :=
  match x.desc with
  | some d =>
    let a := bits d 255 192 + x.moved
    let left := bits d 127 103 - x.moved
    let n := if left < 256 then left else 256
    bits d 102 100 = 2 && !x.ended && n ≠ 0 && a / 64 ≤ line && line ≤ (a + n - 1) / 64
      && !x.reading.contains line && (Tab.look (fun _ => none) x.lines line).isNone
  | none => false

/-- LOCAL_DIR_REQUEST (R180, R188): a mover's access to a line of attached memory enters the directory as LOCAL_READ or
LOCAL_WRITE; it waits while the engine does not serve (log 13). -/
def execLocalDirRequest (mover line : Nat) (write : Bool) (s : State) : Host.Outcome State Fault Refusal :=
  let x := s.mover mover
  if !s.servesLocal || 512 ≤ s.pipelineLoad line || s.clkLost.contains 17 then .next s
  else if write then
    match x.writes.find? (fun w => w.line = line) with
    | some w =>
      .next ((s.setMover mover { x with writes := x.writes.erase w, writing := x.writing + 1 }).enterTxn
        { DirTxn.blank with cls := 9, mover := mover, line := line, be := w.be, wdata := w.data })
    | none => .next s
  else if x.wants line then
    .next ((s.setMover mover { x with reading := x.reading ++ [line] }).enterTxn
      { DirTxn.blank with cls := 8, mover := mover, line := line, needData := true })
  else .next s

/-- A sweep starts (R199–R201): RESUME counts the valid entries anew. -/
def State.startSweep (s : State) (kind : Nat) (gone : List Nat) : State :=
  let s1 := { s with dir := { s.dir with sweep := some kind, purging := gone, sweepNext := 0, resumeDue := false } }
  (if kind = 1 then (s1.wr 0x5200 8 0).wr 0x5200 9 0 else s1).sweepOn

/-- N is a power of two and the filled slots are contiguous from slot 0 (R199). -/
def State.dirShape (s : State) : Bool :=
  s.dirN ≠ 0 && 2 ^ Nat.log2 s.dirN = s.dirN && s.dirSlots = List.range s.dirN

/-- DIR_ENABLE (R199): a RESUME sweep starts, or follows the sweep in progress; one that runs already is not started again (log
155). -/
def dirEnableEffect (on : Bool) : Effect := fun s =>
  if on then
    if !s.dirShape then (.stateConflict, s)
    else if !s.dirSlots.all (fun k => s.owns 0x41 (s.rd 0x5201 k)) then (.ownerMismatch, s)
    else if s.dir.sweep = some 1 then (.ok, s)
    else
      let s1 := { s with dir := { s.dir with unknown := [], resumeDue := true } }.wr 0x5200 1 1
      if s.dir.sweep.isSome then (.ok, s1) else (.ok, s1.startSweep 1 [])
  else if s.rd 0x5200 8 ≠ 0 || s.dir.sweep.isSome then (.stateConflict, s)
  else (.ok, s.wr 0x5200 1 0)

/-- A sweep's reads of the tier do not have to wait; where MEM does not run for the device's state, the command is refused. -/
def State.sweepOpen (s : State) : Bool :=
  match s.dev.state with
  | .managed | .operational | .quiescing => s.tierOpen 0x41
  | _ => true

/-- DIR_ENABLE_WRITE (R199). -/
def execDirEnableWrite (src : Source) (on : Bool) (s : State) : Host.Outcome State Fault Refusal :=
  .next (s.whenOpen s.sweepOpen 0x41 (.dirEnableWrite src on)
    (s.command src 0x5200 1 1 (leBytes 1 (flag on)) (s.regBytes 0x5200 1) true true (dirEnableEffect on)))

/-- DIR_SWEEP_DONE (R199, R203): a sweep ends when it has read every set and none of its transactions is left. -/
def execDirSweepDone (s : State) : Host.Outcome State Fault Refusal :=
  match s.dir.sweep with
  | some k =>
    if !s.sweptAll then .next s.sweepOn
    else if s.dir.txns.any (fun t => t.cls = 0xB) then .next s
    else
      let s1 := State.event { s with dir := { s.dir with sweep := none, purging := [] } } 0x0B 0x05 k
      .next (if s.dir.resumeDue then s1.startSweep 1 [] else s1)
  | none => .next s

/-- A directory command is refused while the engine is disabled or a sweep runs (R200). -/
def dirCommandEffect (v : Nat) : Effect := fun s =>
  if s.rd 0x5200 1 ≠ 1 || s.dir.sweep.isSome then (.stateConflict, s)
  else if bits v 31 28 = 1 then (.ok, s.startSweep 2 [])
  else (.ok, s.startSweep 3 [v % 4096])

/-- DIR_COMMAND values that R200 and R6 reject. -/
def dirCommandFits (v : Nat) : Bool :=
  bits v 27 12 = 0 && (bits v 31 28 = 1 && v % 4096 = 0 || bits v 31 28 = 2)

/-- DIR_FLUSH, DIR_COMMAND with OP 1 (R200): OP is set by the row, the rest is the value's. -/
def execDirFlush (src : Source) (value : Nat) (s : State) : Host.Outcome State Fault Refusal :=
  let v := 2 ^ 28 + value % 2 ^ 28
  .next (s.whenOpen s.sweepOpen 0x41 (.dirFlush src value)
    (s.command src 0x5200 4 4 (leBytes 4 v) [] true (dirCommandFits v) (dirCommandEffect v)))

/-- DIR_PURGE_PARTNER, DIR_COMMAND with OP 2 (R200). -/
def execDirPurgePartner (src : Source) (value : Nat) (s : State) : Host.Outcome State Fault Refusal :=
  let v := 2 * 2 ^ 28 + value % 2 ^ 28
  .next (s.whenOpen s.sweepOpen 0x41 (.dirPurgePartner src value)
    (s.command src 0x5200 4 4 (leBytes 4 v) [] true (dirCommandFits v) (dirCommandEffect v)))

/-- HOST_MAP (R201): clearing bits starts one PURGE sweep, and is refused while a sweep runs; a partner that is
registered may be reported again (R181). -/
def hostMapEffect (i v : Nat) : Effect := fun s =>
  let old := s.rd 0x5202 i
  let gone := (List.range 32).filter (fun b => old.testBit b && !v.testBit b)
  if !gone.isEmpty && s.dir.sweep.isSome then (.stateConflict, s)
  else
    let s1 := { s with dir := { s.dir with
      unknown := s.dir.unknown.filter (fun p => !(p / 32 = i && v.testBit (p % 32))) } }
    let s2 := s1.wr 0x5202 i v
    if gone.isEmpty then (.ok, s2) else (.ok, s2.startSweep 3 (gone.map (fun b => 32 * i + b)))

/-- HOST_MAP_WRITE (R201). -/
def execHostMapWrite (src : Source) (entry value : Nat) (s : State) : Host.Outcome State Fault Refusal :=
  .next (s.whenOpen s.sweepOpen 0x41 (.hostMapWrite src entry value)
    (s.command src 0x5202 entry 4 (leBytes 4 value) (s.regBytes 0x5202 entry) true true (hostMapEffect entry value)))

/-- The value check of DIR_BANK_SLOT (R182): a reserved bank, or one named in another slot, is rejected. -/
def State.bankSlotFits (s : State) (slot v : Nat) : Bool :=
  v = 0xFFFF || v < 1280 && (List.range 256).all (fun k => k = slot || s.rd 0x5201 k ≠ v)

/-- DIR_BANK_SLOT (R182): written while the engine is disabled and empty. -/
def bankSlotEffect (slot v : Nat) : Effect := fun s =>
  if s.rd 0x5200 1 = 1 || s.rd 0x5200 8 ≠ 0 then (.stateConflict, s) else (.ok, s.wr 0x5201 slot v)

/-- DIR_BANK_SLOT_WRITE (R182). -/
def execDirBankSlotWrite (src : Source) (slot value : Nat) (s : State) : Host.Outcome State Fault Refusal :=
  .next (s.command src 0x5201 slot 3 (leBytes 2 value) (s.regBytes 0x5201 slot) true (s.bankSlotFits slot value)
    (bankSlotEffect slot value))

/-- A directory bank is in use while a slot names it (R182). -/
def State.dirUses (s : State) (bank : Nat) : Bool := (List.range 256).any (fun k => s.rd 0x5201 k = bank)

/-- DIR_STATUS (R205). -/
def State.dirStatus (s : State) : Nat :=
  2 ^ 16 * s.dirN + (s.dir.sweep.getD 0) * 2 ^ 6 + flag s.dir.sweep.isSome * 2 ^ 5 + flag s.serving

/-- The trackers are cleared (R202). -/
def State.clearTrackers (s : State) : State :=
  { s with dir := { s.dir with txns := [], sweep := none, purging := [], sweepNext := 0, resumeDue := false }, ddr := { s.ddr with issued := [] } }

end Sys2Proof.Machine
end

