-- ==== Sys2Proof/Machine/Movers.lean ====
section
/-! DEFINITION. The DMA movers (spec/06, R169–R173): registers, descriptors, units between the four endpoint types, and
the host's actions. -/

namespace Sys2Proof.Machine

/-- SRC_ADDR, DST_ADDR, LENGTH, SRC_TYPE, DST_TYPE, PARTNER and PORT of a descriptor (R170). -/
def dSrc (d : Nat) : Nat := bits d 255 192
/-- DST_ADDR. -/
def dDst (d : Nat) : Nat := bits d 191 128
/-- LENGTH. -/
def dLen (d : Nat) : Nat := bits d 127 103
/-- SRC_TYPE: 0 HOST, 1 MEMTIER, 2 DDR, 3 QUEUE. -/
def dSrcType (d : Nat) : Nat := bits d 102 100
/-- DST_TYPE. -/
def dDstType (d : Nat) : Nat := bits d 99 97
/-- PARTNER. -/
def dPartner (d : Nat) : Nat := bits d 96 85
/-- PORT. -/
def dPort (d : Nat) : Nat := bits d 84 82

/-- The descriptors that are not refused with cause DESCRIPTOR (R170). -/
def descriptorFits (d : Nat) : Bool :=
  let most := if dSrcType d = 3 || dDstType d = 3 then 65536 else 16777216
  dSrcType d < 4 && dDstType d < 4 && !(dSrcType d = 0 && dDstType d = 0) && 1 ≤ dLen d && dLen d ≤ most
    && bits d 80 64 = 0 && bits d 38 32 = 0 && bits d 30 24 = 0 && bits d 15 0 = 0
    && !((dSrcType d = 0 || dDstType d = 0) && 6 ≤ dPort d)

/-- The ring a mover may run on (R169). -/
def State.ringFits (s : State) (base size : Nat) : Bool :=
  1 ≤ size && size ≤ 4096 && base % 32 = 0
    && (List.range ((base + 32 * size - 1) / 2 ^ 20 + 1 - base / 2 ^ 20)).all (fun k =>
      base / 2 ^ 20 + k < 1280 && s.owns 0x42 (base / 2 ^ 20 + k))

/-- CONTROL with ENABLE 1 (R169): the mover runs, or halts at once with cause DESCRIPTOR on a bad ring. -/
def State.startMover (s : State) (m : Nat) : State :=
  let x := s.mover m
  let s1 := s.setMover m { x with enable := true }
  if x.enable || s.ringFits x.base x.size then s1 else s1.haltMover m 0x15 0

/-- MOVER_ENABLE (R169): the host writes RING_BASE, RING_SIZE and then CONTROL with ENABLE. -/
def execMoverEnable (link mover base size : Nat) (s : State) : Host.Outcome State Fault Refusal :=
  .next (s.barPosted link (fun t =>
    if mover < 16 then
      (t.setMover mover { t.mover mover with base := base % 2 ^ 31, size := size }).startMover mover
    else t))

/-- MOVER_TAIL_WRITE (R169, R171): TAIL lies below RING_SIZE; a larger one is not taken (log 14). -/
def execMoverTailWrite (link mover tail : Nat) (s : State) : Host.Outcome State Fault Refusal :=
  .next (s.barPosted link (fun t =>
    if mover < 16 ∧ tail < (t.mover mover).size then t.setMover mover { t.mover mover with tail := tail } else t))

/-- ACTION RETRY (R173): the halted descriptor restarts from byte 0. -/
def State.retryMover (s : State) (m : Nat) : State :=
  if (s.mover m).halted then s.setMover m { (s.mover m).drop with halted := false } else s

/-- A mover's accesses to the tier do not have to wait (R107, R108, R111). -/
def State.moverOpen (s : State) : Bool := s.tierOpen 0x42 && s.qmOpen

/-- A message at the head of a queue is dequeued and discarded (R173). -/
def State.discardHead (s : State) (q : Nat) : State :=
  match s.headMessage q with
  | some (len, cs) =>
    let r := s.readCells (cs.take 1)
    (r.2.2.2.commitDeq q (leValue ((r.1.take len).take 8))).bump 0x6000 9 1
  | none => s

/-- ACTION SKIP (R173): the descriptor is written back with DONE 1 and HEAD advances; a POISON halt on a QUEUE source
discards the message. -/
def State.skipMover (s : State) (m : Nat) : State :=
  let x := s.mover m
  if x.halted then
    let r := s.tierRead 0x42 (x.entryAddr x.head) 1
    let d := r.data
    let s1 := (r.state.tierWrite 0x42 (x.entryAddr x.head) (2 ^ 32 - 1) (setBit d 31 true)).2
    let s2 := if x.cause = 0x10 ∧ dSrcType d = 3 then s1.discardHead (dSrc d % 4096) else s1
    s2.setMover m { (s2.mover m).drop with
      halted := false, head := if x.size = 0 then 0 else (x.head + 1) % x.size }
  else s

/-- ACTION RESET (R173): HEAD and TAIL are 0 and HALTED clears. -/
def State.resetMover (s : State) (m : Nat) : State :=
  if (s.mover m).halted then s.setMover m { (s.mover m).drop with halted := false, head := 0, tail := 0 } else s

/-- MOVER_RETRY (R173). -/
def execMoverRetry (link mover : Nat) (s : State) : Host.Outcome State Fault Refusal :=
  .next (s.barPosted link (fun t => t.retryMover mover))

/-- MOVER_SKIP (R173). -/
def execMoverSkip (link mover : Nat) (s : State) : Host.Outcome State Fault Refusal :=
  .next (s.barPosted link (fun t =>
    t.whenOpen t.moverOpen 0x42 (.moverSkip link mover) (t.skipMover mover)))

/-- MOVER_RESET (R173). -/
def execMoverReset (link mover : Nat) (s : State) : Host.Outcome State Fault Refusal :=
  .next (s.barPosted link (fun t => t.resetMover mover))

/-- Where a unit's source stands: its bytes are at hand; it has to be waited for; the queue was empty; the mover halts
with a cause and BYTES_DONE. -/
inductive Gather where
  | data (bytes : List Byte) (s : State)
  | wait (s : State)
  | empty (s : State)
  | halt (cause done : Nat) (s : State)

/-- Bytes of the tier at any byte address, row by row (R170, R171): the worst status and the bytes. -/
def State.tierBytes (s : State) (addr n : Nat) : Nat → Nat × List Byte × State
  | 0 => (0, [], s)
  | fuel + 1 =>
    if n = 0 then (0, [], s)
    else
      let a := addr / 32
      let room := 256 - addr % 256
      let here := if n < room then n else room
      let r := s.tierRead 0x42 a ((addr % 32 + here + 31) / 32)
      let q := r.state.tierBytes (addr + here) (n - here) fuel
      (worse r.status q.1, slice (leBytes 256 r.data) (addr % 32) here ++ q.2.1, q.2.2)

/-- Store bytes at any byte address of the tier, word by word (R126). -/
def State.tierStore (s : State) (addr : Nat) (l : List Byte) : Nat → State
  | 0 => s
  | fuel + 1 =>
    if l.isEmpty then s
    else
      let off := addr % 32
      let room := 32 - off
      let here := if l.length < room then l.length else room
      let s1 := (s.tierWrite 0x42 (addr / 32) ((2 ^ here - 1) * 2 ^ off) (leValue (l.take here) * 2 ^ (8 * off))).2
      s1.tierStore (addr + here) (l.drop here) fuel

/-- The line writes for bytes at a device physical address. -/
def lineWrites (addr : Nat) (l : List Byte) : Nat → List LineWrite
  | 0 => []
  | fuel + 1 =>
    if l.isEmpty then []
    else
      let off := addr % 64
      let room := 64 - off
      let here := if l.length < room then l.length else room
      ⟨addr / 64, (2 ^ here - 1) * 2 ^ off, leValue (l.take here) * 2 ^ (8 * off)⟩
        :: lineWrites (addr + here) (l.drop here) fuel

/-- The PCIe and Lace requests of the device that are outstanding on a link: the tags of D2H and M2S requests are apart (R262). -/
def Link.asked (x : Link) : Nat := (x.asks.filter (fun a => a.1 < 2 ^ 16)).length

/-- The lowest free tag of a link, below 1,024, while fewer than 1,024 requests are outstanding (R262). -/
def Link.freeTag (x : Link) : Option Nat :=
  if x.asked < 1024 then (List.range 1024).find? (fun t => !x.asks.any (fun a => a.1 = t)) else none

/-- A non-posted request is sent on a link: its tag is held until its completion. -/
def State.ask (s : State) (link tag : Nat) (who : Asker) : State :=
  s.setLink link { s.link link with asks := (s.link link).asks ++ [(tag, who)] }

/-- The dequeue that a mover has in progress at a queue. -/
def State.moverDeq (s : State) (q m : Nat) : Option Deq :=
  match (s.queue q).deq with
  | some d => if d.kind = 3 ∧ d.who = m then some d else none
  | none => none

/-- A mover begins to dequeue (R158, R171, R172). -/
def State.beginMoverDeq (s : State) (q m limit : Nat) : Gather :=
  let x := s.queue q
  let d : Deq := ⟨3, m, 0, 0, limit, 0, 0, false, false, 0⟩
  match s.deqTooLong q limit with
  | some n => .halt 0x12 0x34 (s.queueRefused q 2 m n .lengthExceeds)
  | none =>
  if !x.consumes d then .halt 0x12 0x43 (s.queueRefused q 2 m limit .ownerMismatch)
  else if !s.qmRuns || x.halted then .halt 0x12 0x41 (s.queueRefused q 2 m limit .stateConflict)
  else if x.deq.isSome then .wait s
  else if x.msgs = 0 then .empty (s.emptyDeq q d)
  else
    match s.headMessage q with
    | none => .halt 0x12 0x41 (s.corruptQueue q)
    | some (len, _) =>
      if limit < len then .halt 0x12 0x34 (s.queueRefused q 2 m len .lengthExceeds)
      else .wait (s.setQueue q { x with deq := some { d with len := len } })

/-- The next cell of a mover's dequeue (R159, R171). -/
def State.moverCell (s : State) (q moved : Nat) (d : Deq) : Gather :=
  match s.headMessage q with
  | none => .halt 0x12 0x41 (s.corruptQueue q)
  | some (len, cs) =>
    let r := s.readCells ((cs.drop (moved / 256)).take 1)
    let left := len - moved
    if r.2.2.1 then .halt 0x12 0x41 (r.2.2.2.corruptQueue q)
    else if r.2.1 then .halt 0x10 moved r.2.2.2
    else
      let l := r.1.take (if left < 256 then left else 256)
      let first := if moved = 0 then leValue (l.take 8) else d.first
      .data l (r.2.2.2.setQueue q { r.2.2.2.queue q with deq := some { d with first := first } })

/-- The lines a unit covers. -/
def unitLines (a n : Nat) : List Nat := (List.range ((a + n - 1) / 64 + 1 - a / 64)).map (fun k => a / 64 + k)

/-- The bytes of a unit from its source (R170–R172). -/
def State.gather (s : State) (m d n : Nat) : Gather :=
  let x := s.mover m
  let a := dSrc d + x.moved
  match dSrcType d with
  | 0 =>
    match x.host with
    | some l => .data (l.take n) s
    | none =>
      if x.asked then .wait s
      else
        match s.routeLink (dPort d) (dPartner d) with
        | none => .halt 0x13 x.moved s
        | some l =>
          match (s.link l).freeTag with
          | some t =>
            .wait (((s.ask l t (.mover m)).setMover m { x with asked := true }).sendRead l (dPartner d) t a n)
          | none => .wait s
  | 1 =>
    let r := s.tierBytes a n 3
    if r.1 = 5 then .halt 0x11 x.moved r.2.2
    else if 3 ≤ r.1 then .halt 0x10 x.moved r.2.2
    else .data r.2.1 r.2.2
  | 2 =>
    let ls := unitLines a n
    let got := ls.filterMap (fun l => Tab.look (fun _ => none) x.lines l)
    if got.length = ls.length then .data (slice (got.flatMap (leBytes 64)) (a % 64) n) s else .wait s
  | _ =>
    let q := dSrc d % 4096
    match s.moverDeq q m with
    | some e => s.moverCell q x.moved e
    | none => if x.moved = 0 then s.beginMoverDeq q m (dLen d) else .halt 0x12 0x41 s

/-- Whether every bank a MEMTIER endpoint touches is owned by PORTDMA (R170, R172). -/
def State.dmaOwns (s : State) (a n : Nat) : Bool :=
  (List.range ((a + n - 1) / 2 ^ 20 + 1 - a / 2 ^ 20)).all (fun k =>
    a / 2 ^ 20 + k < 1280 && s.owns 0x42 (a / 2 ^ 20 + k))

/-- A unit's write to banks that PORTDMA does not own, or to reserved ones, is counted for each (R24, R94). -/
def State.dmaFaults (s : State) (a n : Nat) : State :=
  (List.range ((a + n - 1) / 2 ^ 20 + 1 - a / 2 ^ 20)).foldl (fun (t : State) k =>
    let b := a / 2 ^ 20 + k
    if 1280 ≤ b then t.rangeFault 0x42 else if s.owns 0x42 b then t else t.ownerFault b) s

/-- A unit's bytes go to its destination; `none` where the mover halts instead, with its cause and BYTES_DONE. -/
def State.place256 (s : State) (m d : Nat) (l : List Byte) : State × Option (Nat × Nat) :=
  let x := s.mover m
  let a := dDst d + x.moved
  match dDstType d with
  | 0 =>
    match s.routeLink (dPort d) (dPartner d) with
    | some k => (s.sendPosted k (dPartner d) a l, none)
    | none => (s, some (0x13, x.moved))
  | 1 =>
    if s.dmaOwns a l.length then (s.tierStore a l 9, none)
    else (s.dmaFaults a l.length, some (0x11, x.moved))
  | 2 => (s.setMover m { x with writes := x.writes ++ lineWrites a l 5 }, none)
  | _ =>
    match x.enq with
    | some e =>
      (s.writeCell (e.cells.getD (x.moved / 256) 0) (e.cells.getD (x.moved / 256 + 1) 0) e.len (x.moved = 0)
        (leValue l), none)
    | none => (s, some (0x12, 0x41))

/-- A QUEUE destination reserves its cells with the first unit (R156, R172). -/
def State.openEnqueue (s : State) (m d : Nat) : State × Option Nat :=
  if dDstType d = 3 ∧ (s.mover m).enq.isNone then
    let q := dDst d % 4096
    match s.enqStatus q 2 (dLen d) with
    | .ok =>
      let r := s.allocate (cellsFor (dLen d))
      (r.2.setMover m { r.2.mover m with enq := some ⟨2, m, dLen d, r.1⟩ }, none)
    | st => (s.enqRefused q 2 m (dLen d) st, some st.code)
  else (s, none)

/-- The last unit has moved (R171): a QUEUE destination goes to its commit, and the descriptor ends once that has been made, or its
line writes where the destination is attached memory. -/
def State.closeMover (s : State) (m d : Nat) : State :=
  let x := s.mover m
  match x.enq with
  | some e =>
    let t := dDst d % 4096
    (s.setQueue t { s.queue t with enqs := (s.queue t).enqs ++ [e] }).setMover m { x with enq := none, ended := true }
  | none => if x.writes.isEmpty && x.writing = 0 then s.finishMover m else s.setMover m { x with ended := true }

/-- The bytes of a descriptor: the message's for a QUEUE source, and exactly LENGTH for a QUEUE destination (R170). -/
def State.unitTotal (s : State) (m d : Nat) : Nat :=
  if dSrcType d = 3 ∧ dDstType d ≠ 3 then
    match s.moverDeq (dSrc d % 4096) m with
    | some e => e.len
    | none => dLen d
  else dLen d

/-- Bytes to a length: the spec states no bytes past the end of a shorter message (log 15). -/
def State.pad (s : State) (l : List Byte) (n : Nat) : List Byte := l ++ leBytes (n - l.length) s.freeNow

/-- One unit's bytes are placed and counted. -/
def State.moveUnit (s : State) (m d n : Nat) (l : List Byte) : State :=
  let o := s.openEnqueue m d
  match o.2 with
  | some st => o.1.haltMover m 0x12 st
  | none =>
    let short := l.length < n && dDstType d = 3
    let r := (if short then o.1.drawn else o.1).place256 m d (if short then o.1.pad l n else l)
    match r.2 with
    | some (c, b) => r.1.haltMover m c b
    | none =>
      let x := r.1.mover m
      let moved := x.moved + (if short then n else l.length)
      let s1 := r.1.setMover m { x with moved := moved, lines := [], host := none, asked := false }
      if s1.unitTotal m d ≤ moved then s1.closeMover m d else s1

/-- A mover's source past the end of the message it dequeued, with a QUEUE destination (R170). -/
def State.pastEnd (s : State) (m d moved : Nat) : Bool :=
  dSrcType d = 3 &&
    match s.moverDeq (dSrc d % 4096) m with
    | some e => e.len ≤ moved && 0 < moved
    | none => false

/-- One unit of the descriptor in progress. -/
def State.runUnit (s : State) (m d : Nat) : State :=
  let x := s.mover m
  let left := s.unitTotal m d - x.moved
  let n := if left < 256 then left else 256
  if s.pastEnd m d x.moved then s.moveUnit m d n []
  else
    match s.gather m d n with
    | .data l t => t.moveUnit m d n l
    | .wait t => t
    | .empty t => t.endMover m 1 0
    | .halt c b t => t.haltMover m c b

/-- The mover takes the descriptor at HEAD (R171), or halts (R172). -/
def State.fetchDescriptor (s : State) (m : Nat) : State :=
  let x := s.mover m
  let r := s.tierRead 0x42 (x.entryAddr x.head) 1
  if r.status = 5 then r.state.haltMover m 0x11 0
  else if 3 ≤ r.status then r.state.haltMover m 0x10 0
  else
    let s1 := r.state.setMover m { r.state.mover m with desc := some r.data, moved := 0 }
    if descriptorFits r.data then s1 else s1.haltMover m 0x15 0

/-- A staging-buffer error halts the channel (R141). -/
def State.stagingBad (s : State) : Bool := s.sramMarked 3

/-- Movers work while the data plane does; during the orderly stop only a descriptor in progress goes on (R403). -/
def State.moverRuns (s : State) (m : Nat) : Bool :=
  let x := s.mover m
  m < 16 && x.enable && !x.halted && !x.ended && x.writes.isEmpty && x.writing = 0
    && (s.dev.state = .operational && (x.desc.isSome || x.head ≠ x.tail) || s.dev.state = .quiescing && x.desc.isSome)

/-- No unit of the descriptor is in progress. -/
def Mover.atBoundary (x : Mover) : Bool :=
  !x.asked && x.host.isNone && x.reading.isEmpty && x.lines.isEmpty && x.writes.isEmpty && x.writing = 0 && !x.ended

/-- During the orderly stop a descriptor in progress halts at its next unit boundary with INCOMPLETE (R403). -/
def State.stopsMover (s : State) (m : Nat) : Bool :=
  s.dev.state = .quiescing && (s.mover m).desc.isSome && !(s.mover m).halted && (s.mover m).atBoundary

/-- MOVER_UNIT (R171): the mover takes its next descriptor where it has none, and moves one unit of at most 256 B. A
unit from a partner is first asked for, one from attached memory or a queue waits until its bytes are at hand. -/
def execMoverUnit (mover : Nat) (s : State) : Host.Outcome State Fault Refusal :=
  if s.moverRuns mover && s.moverOpen then
    let s1 := if (s.mover mover).desc.isSome then s else s.fetchDescriptor mover
    if s1.stagingBad then
      .next ((s1.sramTaken 3).haltMover mover 0x10 (s1.mover mover).moved)
    else
      match (s1.mover mover).desc with
      | some d =>
        if (s1.mover mover).halted then .next s1
        else if s1.stopsMover mover then .next (s1.haltMover mover 0x16 (s1.mover mover).moved)
        else
          let s2 := s1.runUnit mover d
          if s2.stopsMover mover then .next (s2.haltMover mover 0x16 (s2.mover mover).moved) else .next s2
      | none => .next s1
  else .next s

/-- A mover's host read is answered: data, or an error that halts it with PORT_ERROR (R172, R276). -/
def State.moverAnswered (s : State) (m status : Nat) (l : List Byte) : State :=
  let x := s.mover m
  if !x.asked then s
  else if status = 0 then s.setMover m { x with asked := false, host := some l }
  else s.haltMover m 0x13 x.moved

/-- A mover's STATUS register (R172). -/
def Mover.status (x : Mover) : Nat :=
  x.bytesDone % 2 ^ 25 + 2 ^ 36 * x.haltIndex + 2 ^ 48 * x.cause + 2 ^ 62 * flag x.desc.isSome + 2 ^ 63 * flag x.halted

/-- ENQUEUE_COMMIT (R157): the oldest accepted enqueue of the queue commits, though the queue or the queue manager is disabled since
(R14, R154); a mover's descriptor ends with it (R171). -/
def execEnqueueCommit (queue : Nat) (s : State) : Host.Outcome State Fault Refusal :=
  match (s.queue queue).enqs with
  | e :: t =>
    if !s.qm.rebuilding && s.tierOpen 0x40 then
      let s1 := (s.setQueue queue { s.queue queue with enqs := t }).commitEnq queue e
      .next (if e.cls = 2 && (s1.mover e.who).ended then s1.finishMover e.who else s1)
    else .next s
  | [] => .next s

/-- Every mover is idle or halted (R403 step 3). -/
def State.moversIdle (s : State) : Bool := s.qm.movers.all (fun x => x.2.halted || x.2.desc.isNone)

end Sys2Proof.Machine
end

