-- ==== Sys2Proof/Machine/Logic.lean ====
section
/-! DEFINITION. User logic (spec/02): logic cells and carry chains, arithmetic blocks, tile memories, boundary ports and stitches, and
what a rising edge of a panel clock does. Which signal reaches which pin is `Config.route` (log 128). -/

namespace Sys2Proof.Machine

/-! Logic cells (R39–R41). -/

/-- O6 of an LC, from its mask and input value: bit i of the mask for the input value i, I0 least significant (R39). Fractured, I5 is
held at 1, so O6 comes from the upper 32 bits (log 135). -/
def lutO6 (mask input : Nat) : Bool := mask.testBit input

/-- O5 of an LC: the 5-input LUT of the lower 32 bits when it is fractured (R39; log 135). -/
def lutO5 (fractured : Bool) (mask input : Nat) : Bool :=
  if fractured then mask.testBit (input % 32) else Config.wholeO5 mask input

/-- FRACTURE of a mode byte (R40). -/
def modeFracture (m : Nat) : Bool := m.testBit 0

/-- CARRY_EN of a mode byte (R40). -/
def modeCarry (m : Nat) : Bool := m.testBit 1

/-- What a flip-flop takes, by its SRC field: its LUT output, the carry sum, the bypass input; 0b11 is unused, output 0 (R40). -/
def ffInput (src : Nat) (lut sum bypass : Bool) : Bool :=
  match src with
  | 0 => lut
  | 1 => sum
  | 2 => bypass
  | _ => false

/-- A flip-flop at an edge (R39): its synchronous reset gives its INIT value, else its clock enable lets it take its input. -/
def ffNext (src : Nat) (reset enable init old d : Bool) : Bool :=
  if src = 3 then false else if reset then init else if enable then d else old

/-- `n` members of a list, each taken out of it as it is picked. -/
def pickOrder (f : Nat → Nat) : Nat → List Nat → List Nat
  | 0, _ => []
  | n + 1, l =>
    let x := l.getD (f n % l.length) 0
    x :: pickOrder f n (l.erase x)

/-- The 160 clusters of a tile by their place, 16 × column + height: each stands at one place (R41). Which one stands where is not in
the spec (log 135). -/
def clusterOrder : List Nat := pickOrder Config.clusterPick 160 (List.range 160)

/-- The cluster of a tile that stands at a place (R41). -/
def clusterAt (place : Nat) : Nat := clusterOrder.getD place 0

/-- The place of a cluster in its tile (R41). -/
def clusterPlace (cluster : Nat) : Nat := clusterOrder.idxOf cluster

/-- The LC whose carry enters an LC (R41): the one before it in its cluster of 16; for the first of a cluster the last of the cluster
below in the same tile; for the bottom cluster of a tile the top one of the tile below in the same panel. None at the bottom of the
panel: no chain crosses a panel boundary. -/
def carryFrom (tile lc : Nat) : Option (Nat × Nat) :=
  if lc % 16 ≠ 0 then some (tile, lc - 1)
  else
    let place := clusterPlace (lc / 16)
    if place % 16 ≠ 0 then some (tile, 16 * clusterAt (place - 1) + 15)
    else if 10 ≤ tile then some (tile - 10, 16 * clusterAt (place + 15) + 15)
    else none

/-- A flip-flop's output: 0 while its SRC field leaves it unused (R40). -/
def ffOutput (src : Nat) (v : Bool) : Bool := src ≠ 3 && v

/-! Arithmetic blocks (R42). -/

/-- A `w`-bit operand as an integer, signed or unsigned. -/
def asInt (signed : Bool) (w v : Nat) : Int := if signed && v.testBit (w - 1) then (v : Int) - 2 ^ w else v

/-- Product `i` of MUL2: 24 × 24, from operand bits 48i + 47 to 48i. -/
def mul2Product (m : ArithMode) (ops i : Nat) : Int :=
  asInt (m.signedA.testBit i) 24 (bits ops (48 * i + 23) (48 * i))
    * asInt (m.signedB.testBit i) 24 (bits ops (48 * i + 47) (48 * i + 24))

/-- The sum of DOT8: eight int8 × int8 products, operands a in bytes 0 to 7 and b in bytes 8 to 15. -/
def dot8Sum (m : ArithMode) (ops : Nat) : Int :=
  (List.range 8).foldl (fun t i =>
    t + asInt (m.signedA.testBit i) 8 (bits ops (8 * i + 7) (8 * i))
      * asInt (m.signedB.testBit i) 8 (bits ops (8 * i + 71) (8 * i + 64))) 0

/-- The accumulator plus an integer: modulo 2^64, or held at the end of its range where saturation is selected; the range is signed
where an operand is (log 136). -/
def accumulate (m : ArithMode) (acc : Nat) (d : Int) : Nat :=
  if !m.saturate then (((acc : Int) + d) % 2 ^ 64).toNat
  else if m.signedA = 0 ∧ m.signedB = 0 then (min (max ((acc : Int) + d) 0) (2 ^ 64 - 1)).toNat
  else (min (max (asInt true 64 acc + d) (-2 ^ 63)) (2 ^ 63 - 1) % 2 ^ 64).toNat

/-- The magnitude of a finite binary16 in units of 2^-24, subnormals included. -/
def halfUnits (v : Nat) : Nat :=
  let e := bits v 14 10
  if e = 0 then v % 1024 else 2 ^ (e - 1) * (1024 + v % 1024)

/-- The magnitude of a finite binary32 in units of 2^-149, subnormals included. -/
def singleUnits (v : Nat) : Nat :=
  let e := bits v 30 23
  if e = 0 then v % 2 ^ 23 else 2 ^ (e - 1) * (2 ^ 23 + v % 2 ^ 23)

/-- A binary32 of a sign and a magnitude in units of 2^-149: rounded once to nearest-even, an infinity beyond the range. -/
def roundSingle (negative : Bool) (n : Nat) : Nat :=
  let sh := Nat.log2 n - 23
  let q := n / 2 ^ sh
  let r := 2 * (n % 2 ^ sh)
  let up := 2 ^ sh < r || (r = 2 ^ sh && q % 2 = 1)
  2 ^ 31 * flag negative + min (2 ^ 23 * sh + q + flag up) 0x7F800000

/-- The NaN that FMA16 delivers: a NaN pattern, its payload left open. -/
def nanSingle (a b c : Nat) : Nat :=
  let v := Config.nanBits a b c
  2 ^ 31 * (v % 2) + 0x7F800001 + v / 2 % (2 ^ 23 - 1)

/-- FMA16 (R42): a × b + c with a and b binary16 and c binary32, rounded once. A NaN operand, an infinity times zero and the difference
of infinities give a NaN; an exact zero has the sign of its terms where they agree, else plus. -/
def fma16 (a b c : Nat) : Nat :=
  let negP := a.testBit 15 != b.testBit 15
  let negC := c.testBit 31
  let infA := bits a 14 10 = 31
  let infB := bits b 14 10 = 31
  let infC := bits c 30 23 = 255
  let isNan := (infA && a % 1024 ≠ 0) || (infB && b % 1024 ≠ 0) || (infC && c % 2 ^ 23 ≠ 0)
  let zeroA := a % 2 ^ 15 = 0
  let zeroB := b % 2 ^ 15 = 0
  let infP := infA || infB
  if isNan || (infA && zeroB) || (infB && zeroA) || (infP && infC && negP != negC) then nanSingle a b c
  else if infP then 2 ^ 31 * flag negP + 0x7F800000
  else if infC then c
  else
    let p : Int := 2 ^ 101 * (halfUnits a * halfUnits b : Nat)
    let v : Int := (if negP then -p else p) + (if negC then -(singleUnits c : Int) else singleUnits c)
    if v = 0 then 2 ^ 31 * flag (negP && negC) else roundSingle (v < 0) v.natAbs

/-- The latency of a mode in panel clock cycles (R42). -/
def arithLatency (m : ArithMode) : Nat := if m.kind = 3 then 4 else 3

/-- An operation reaches the end of the pipeline. `input` is the accumulator it takes: the block's own, or with cascade that of the
block below. MUL2 with saturation holds the sum at the end of the range after each of its two products (log 136). -/
def Arith.finish (x : Arith) (m : ArithMode) (input ops : Nat) : Arith :=
  match m.kind with
  | 1 =>
    let p := mul2Product m ops 0
    let q := mul2Product m ops 1
    if m.accumulate then
      let half := accumulate m input (if m.subtract.testBit 0 then -p else p)
      { x with acc := accumulate m half (if m.subtract.testBit 1 then -q else q) }
    else { x with products := (p % 2 ^ 48).toNat + 2 ^ 48 * (q % 2 ^ 48).toNat }
  | 2 => { x with acc := accumulate m input (dot8Sum m ops) }
  | 3 => { x with acc := input / 2 ^ 32 * 2 ^ 32 + fma16 (bits ops 15 0) (bits ops 31 16) (input % 2 ^ 32) }
  | _ => x

/-- An arithmetic block at an edge: it takes at most one operation and finishes the one taken a latency ago (R42). -/
def Arith.next (x : Arith) (m : ArithMode) (input : Nat) (op : Option Nat) : Arith :=
  let all := op :: x.pipe
  let y := { x with pipe := all.take (arithLatency m - 1) }
  match all.getD (arithLatency m - 1) none with
  | some o => y.finish m input o
  | none => y

/-- Bit `b` of a block's output: both products of MUL2, or the accumulator (R42). -/
def Arith.output (x : Arith) (m : ArithMode) (b : Nat) : Bool :=
  if m.kind = 1 && !m.accumulate then x.products.testBit b else x.acc.testBit b

/-- An arithmetic block of a panel. -/
def Panel.block (x : Panel) (tile k : Nat) : Arith := Tab.look (fun _ => Arith.zero) x.arith (4 * tile + k)

/-- The accumulator a block takes (R42): in a cascade that of the block below, in the tile and then in the tile below of the same
panel; the lowest block of a column has its own alone (log 136). -/
def Panel.blockInput (x : Panel) (m : ArithMode) (tile k : Nat) : Nat :=
  if !m.cascade then (x.block tile k).acc
  else if k ≠ 0 then (x.block tile (k - 1)).acc
  else if 10 ≤ tile then (x.block (tile - 10) 3).acc
  else (x.block tile k).acc

/-! Tile memory (R44). -/

/-- What a port of a tile memory does in a cycle: address, data, byte enables, write and read strobes. -/
structure MemPort where
  addr : Nat
  data : Nat
  be : Nat
  write : Bool
  read : Bool
  deriving DecidableEq, Repr

/-- A byte of a panel's tile memory. -/
def tileByte (t : Tab Nat) (k : Nat) : Nat := Tab.look (fun _ => 0) t k

/-- The key of the first byte that a port addresses: depth × width is 32 KiB for every width (R44). -/
def portBase (tile memory log2 addr : Nat) : Nat := 65536 * tile + 32768 * memory + addr * 2 ^ log2 % 32768

/-- The word at a port's address. -/
def tileWord (t : Tab Nat) (base n : Nat) : Nat := (List.range n).foldl (fun v i => v + tileByte t (base + i) * 256 ^ i) 0

/-- The bytes a port's write stores: those enabled, or the one byte of the narrowest width, which has no enables (R44). -/
def MemPort.stores (q : MemPort) (n i : Nat) : Bool := q.write && (n = 1 || q.be.testBit i)

/-- A port's write. -/
def MemPort.store (q : MemPort) (t : Tab Nat) (base n : Nat) : Tab Nat :=
  (List.range n).foldl (fun u i =>
    if q.stores n i then Tab.put (fun _ => 0) u (base + i) (q.data / 256 ^ i % 256) else u) t

/-- What a port reads (R44): data written through the same port in the same cycle, else the data before the cycle. -/
def MemPort.fetch (q : MemPort) (t : Tab Nat) (base n : Nat) : Nat := tileWord (q.store t base n) base n

/-! Signals. -/

/-- The routing frames of a panel's active context. -/
def Panel.routing (x : Panel) : List Nat := (List.range 240).map (fun i => x.activeFrame (i / 3) (45 + i % 3))

/-- The mode byte of an LC of the active context. -/
def Panel.activeMode (x : Panel) (tile lc : Nat) : Nat :=
  match x.slotIn .active with
  | some k => x.modeByte k tile lc
  | none => 0

/-- The LUT mask of an LC of the active context. -/
def Panel.activeMask (x : Panel) (tile lc : Nat) : Nat :=
  match x.slotIn .active with
  | some k => x.mask k tile lc
  | none => 0

/-- The mode of an arithmetic block of the active context. -/
def Panel.arithMode (x : Panel) (tile k : Nat) : ArithMode := Config.arithMode (x.activeFrame tile 48) k

/-- The mode of a tile memory of the active context. -/
def Panel.memMode (x : Panel) (tile memory : Nat) : TileMemMode := Config.tileMemMode (x.activeFrame tile 48) memory

/-- The bytes of a tile memory's width (R44). -/
def memWidth (m : TileMemMode) : Nat := 2 ^ (m.log2 % 6)

/-- A flip-flop of an LC (R66). -/
def Panel.flop (x : Panel) (tile lc : Nat) (b : Bool) : Bool :=
  (Tab.look (fun _ => 0) x.live tile).testBit (2 * lc + (if b then 1 else 0))

/-- The tile of the neighbouring panel that faces an edge of a tile (R48): its panel and local tile; none at the die edge, and none
where the edge does not face another panel. Sides 0 left, 1 right, 2 below, 3 above. -/
def facing (p tile side : Nat) : Option (Nat × Nat) :=
  let t := p % 16
  match side with
  | 0 => if tile % 10 = 0 ∧ t % 4 ≠ 0 then some (p - 1, tile + 9) else none
  | 1 => if tile % 10 = 9 ∧ t % 4 ≠ 3 then some (p + 1, tile - 9) else none
  | 2 => if tile < 10 ∧ 4 ≤ t then some (p - 4, tile + 70) else none
  | _ => if 70 ≤ tile ∧ t < 12 then some (p + 4, tile - 70) else none

/-- The side of the facing tile that meets a side. -/
def farSide (side : Nat) : Nat := if side % 2 = 0 then side + 1 else side - 1

/-- The panel below or above a panel (R38). -/
def pairOf (p : Nat) : Nat := (p + 16) % 32

/-- A panel's outputs reach other panels and the pins: it is RUNNING and its clock has had an edge since it entered it (R55). -/
def Panel.drives (x : Panel) : Bool := x.pstate = .running && !x.clamped

/-- A panel is RUNNING and its half of a stitch has DRIVE at 1 in its active context (R51). -/
def State.stitchOn (s : State) (p tile i : Nat) : Bool :=
  (s.panel p).pstate = .running && stitchDrives (stitchHalf ((s.panel p).activeFrame tile 49) i)

/-- A stitch is reserved for the word port of the T4 tile (R52). -/
def State.stitchHeld (s : State) (p tile i : Nat) : Bool := stitchReserved ((s.panel (p % 16 + 16)).wordPortOn tile) i

/-- The panel that drives a stitch that delivers a value; none for one that nothing drives, that is in contention or that is
reserved, which delivers 0 (R51, R52, R53), and none while the driving panel's outputs are still clamped (R55). -/
def State.stitchDriver (s : State) (p tile i : Nat) : Option Nat :=
  let own := s.stitchOn p tile i
  let other := s.stitchOn (pairOf p) tile i
  if s.stitchHeld p tile i || stitchClash own other false then none
  else if own then (if (s.panel p).drives then some p else none)
  else if other then (if (s.panel (pairOf p)).drives then some (pairOf p) else none)
  else none

/-- A GPIO pin at reset: high impedance (R484). -/
def Pin.init : Pin := ⟨false, false, false, false⟩

/-- A GPIO pin. -/
def State.pin (s : State) (n : Nat) : Pin := Tab.look (fun _ => Pin.init) s.pins.gpio n

/-- Store a GPIO pin. -/
def State.setPin (s : State) (n : Nat) (x : Pin) : State :=
  { s with pins := { s.pins with gpio := Tab.put (fun _ => Pin.init) s.pins.gpio n x } }

/-- PIN_CONFIG of a pin (R474). -/
def State.pinConfig (s : State) (n : Nat) : Nat := s.rd 0x7000 n

/-- OWNER and FUNCTION of a pin (R473). -/
def State.pinRole (s : State) (n : Nat) : Nat × Nat := (bits (s.pinConfig n) 31 30, bits (s.pinConfig n) 27 24)

/-- Bit `n` of PIO_IN before the registers of the panel clock (R480): the synchronised pad level of a pin that is FABRIC-owned with
this panel selected, in a bank whose supply is in range (R483). -/
def State.padIn (s : State) (p n : Nat) : Bool :=
  s.pinRole n = (2, 0) && bits (s.pinConfig n) 21 16 = p && s.pwr.inRange.contains (8 + n / 16) && (s.pin n).seen

/-- The hard interface inputs of a panel (log 128). Inputs 0 to 5 are ACTIVE_SLOT, SWITCH_WARN, SWITCHED_IN and FRESH_IN at the shuttle
port (R81), 256 to 319 PIO_IN at the pin port, behind two registers (R480); the others deliver what their units hold, a free value
here. -/
def State.hardIn (s : State) (p n : Nat) : Bool :=
  let x := s.panel p
  if n < 3 then ((x.slotIn .active).getD 0).testBit n
  else if n = 3 then
    (match x.switch with
      | some w => w.scheduled && w.edges = 2
      | none => false)
  else if n = 4 then x.switchedIn
  else if n = 5 then x.freshIn
  else if 256 ≤ n ∧ n < 320 then x.padSync.testBit (n - 192)
  else Config.hardValue s.freeCount p n

/-- The value of a signal of panel `p` in the present cycle. The first argument bounds the depth of combinational logic; what a loop
of it delivers is a free value (log 128). A direct boundary port and a combinational stitch carry the other panel's signal, 0 from
one that is not RUNNING (R48, R50, R55). -/
def State.net (s : State) : Nat → Nat → Net → Bool
  | 0, p, _ => Config.hardValue s.freeCount p 0
  | f + 1, p, n =>
    let x := s.panel p
    let pin := fun q => s.net f p (Config.route x.routing q)
    let o6 := fun t j => lutO6 (x.activeMask t j) (bitsOf 6 (fun k => pin (.lut t j k)))
    let o5 := fun t j =>
      lutO5 (modeFracture (x.activeMode t j)) (x.activeMask t j) (bitsOf 6 (fun k => pin (.lut t j k)))
    let cin := fun t j =>
      match carryFrom t j with
      | some (u, k) =>
        if modeCarry (x.activeMode t j) && modeCarry (x.activeMode u k) then s.net f p (.carry u k) else pin (.chain t j)
      | none => pin (.chain t j)
    match n with
    | .const v => v
    | .o6 t j => o6 t j
    | .o5 t j => o5 t j
    | .sum t j => Config.carrySum (o6 t j) (o5 t j) (pin (.bypass t j)) (cin t j)
    | .carry t j => Config.carryOut (o6 t j) (o5 t j) (pin (.bypass t j)) (cin t j)
    | .ffa t j => ffOutput (bits (x.activeMode t j) 3 2) (x.flop t j false)
    | .ffb t j => ffOutput (bits (x.activeMode t j) 5 4) (x.flop t j true)
    | .arith t k b => (x.block t k).output (x.arithMode t k) b
    | .mem t m q b =>
      (Tab.look (fun _ => 0) x.memOut (8 * t + 4 * m + 2 * q + flag (x.memMode t m).outReg)).testBit b
    | .hard k => s.hardIn p k
    | .edge t side k =>
      let regs := Tab.look (fun _ => 0) x.boundary (4 * t + side)
      (match Config.boundaryMode (x.activeFrame t 48) side k with
        | 0 =>
          (match facing p t side with
            | some (q, u) =>
              (s.panel q).drives && s.net f q (Config.route (s.panel q).routing (.out u (farSide side) k))
            | none => false)
        | 1 => regs.testBit k
        | _ => regs.testBit (128 + k))
    | .stitch t i =>
      (match s.stitchDriver p t i with
        | none => false
        | some q =>
          let half := stitchHalf ((s.panel q).activeFrame t 49) i
          if half.testBit 2 && q ≠ p then (Tab.look (fun _ => 0) x.stitchSync t).testBit (512 + i)
          else if half.testBit 1 then (Tab.look (fun _ => 0) (s.panel q).stitchReg t).testBit i
          else s.net f q (Config.route (s.panel q).routing (.track t (half / 8))))

/-- A depth no acyclic logic of the device reaches: more than its 6,553,600 LCs. -/
def fabricDepth : Nat := 8388608

/-- The value at a pin of panel `p`. -/
def State.pinValue (s : State) (p : Nat) (q : NetPin) : Bool := s.net fabricDepth p (Config.route (s.panel p).routing q)

/-- What arrives at an incoming boundary port before its registers: the driven value of the facing panel, 0 where that panel is not
RUNNING (R48, R55). -/
def State.arriving (s : State) (p tile side k : Nat) : Bool :=
  match facing p tile side with
  | some (q, u) => (s.panel q).drives && s.pinValue q (.out u (farSide side) k)
  | none => false

/-! A rising edge of the panel clock. -/

/-- The panel that SHUTTLE_REQ_SOURCE value `v` names for panel `p` (R82); none where it names no panel. -/
def reqSource (p v : Nat) : Option Nat :=
  let t := p % 16
  match v with
  | 0 => some p
  | 1 => if t % 4 = 0 then none else some (p - 1)
  | 2 => if t % 4 = 3 then none else some (p + 1)
  | 3 => if t / 4 = 0 then none else some (p - 4)
  | 4 => if t / 4 = 3 then none else some (p + 4)
  | 5 => some ((p + 16) % 32)
  | _ => none

/-- The flip-flops of a tile after an edge (R39). -/
def State.tileEdge (s : State) (p tile : Nat) : Nat :=
  let x := s.panel p
  (List.range 2560).foldl (fun n j =>
    let m := x.activeMode tile j
    let val := fun w => s.net fabricDepth p w
    let sum := val (.sum tile j)
    let byp := s.pinValue p (.bypass tile j)
    let rst := s.pinValue p (.reset tile (j / 16))
    let en := s.pinValue p (.enable tile (j / 16))
    let a := ffNext (bits m 3 2) rst en (m.testBit 6) (x.flop tile j false) (ffInput (bits m 3 2) (val (.o6 tile j)) sum byp)
    let b := ffNext (bits m 5 4) rst en (m.testBit 7) (x.flop tile j true) (ffInput (bits m 5 4) (val (.o5 tile j)) sum byp)
    n + (flag a + 2 * flag b) * 2 ^ (2 * j)) 0

/-- An arithmetic block after an edge. -/
def State.blockEdge (s : State) (p tile k : Nat) : Arith :=
  let x := s.panel p
  let m := x.arithMode tile k
  (x.block tile k).next m (x.blockInput m tile k)
    (if s.pinValue p (.take tile k) then some (bitsOf 128 (fun b => s.pinValue p (.operand tile k b))) else none)

/-- What a port of a tile memory is asked in the present cycle. -/
def State.memPort (s : State) (p tile memory port : Nat) : MemPort :=
  { addr := bitsOf 15 (fun b => s.pinValue p (.addr tile memory port b))
    data := bitsOf 256 (fun b => s.pinValue p (.data tile memory port b))
    be := bitsOf 32 (fun b => s.pinValue p (.byteEn tile memory port b))
    write := s.pinValue p (.write tile memory port)
    read := s.pinValue p (.read tile memory port) }

/-- The bytes of the tile memories after an edge: where both ports of one write the same address, port A's data is stored (R44), in the
bytes that port A enables (log 136). -/
def State.memEdge (s : State) (p : Nat) : Tab Nat :=
  (List.range 160).foldl (fun t i =>
    let n := memWidth ((s.panel p).memMode (i / 2) (i % 2))
    let base := fun (q : MemPort) => portBase (i / 2) (i % 2) ((((s.panel p).memMode (i / 2) (i % 2)).log2) % 6) q.addr
    let a := s.memPort p (i / 2) (i % 2) 0
    let b := s.memPort p (i / 2) (i % 2) 1
    a.store (b.store t (base b) n) (base a) n) (s.panel p).tileMem

/-- The read data (stage 0) and output register (stage 1) of a port after an edge (R44). -/
def State.memOutEdge (s : State) (p k : Nat) : Nat :=
  let x := s.panel p
  if k % 2 = 1 then Tab.look (fun _ => 0) x.memOut (k - 1)
  else
    let m := x.memMode (k / 8) (k / 4 % 2)
    let q := s.memPort p (k / 8) (k / 4 % 2) (k / 2 % 2)
    if q.read then q.fetch x.tileMem (portBase (k / 8) (k / 4 % 2) (m.log2 % 6) q.addr) (memWidth m)
    else Tab.look (fun _ => 0) x.memOut k

/-- The boundary registers of a tile's edge after an edge of the receiving panel's clock (R48). -/
def State.boundaryEdge (s : State) (p k : Nat) : Nat :=
  match facing p (k / 4) (k % 4) with
  | some _ =>
    bitsOf 128 (fun i => s.arriving p (k / 4) (k % 4) i)
      + 2 ^ 128 * (Tab.look (fun _ => 0) (s.panel p).boundary k % 2 ^ 128)
  | none => 0

/-- The T3 registers a panel drives after an edge of its clock (R50): those of its halves with DRIVE and REG. -/
def State.stitchRegEdge (s : State) (p tile : Nat) : Nat :=
  let f := (s.panel p).activeFrame tile 49
  bitsOf 512 (fun i =>
    let h := stitchHalf f i
    stitchDrives h && h.testBit 1 && s.pinValue p (.track tile (h / 8)))

/-- The synchronising registers at the receiving end of a tile's stitches after an edge of its panel's clock (R50). -/
def State.stitchSyncEdge (s : State) (p tile : Nat) : Nat :=
  let q := pairOf p
  let f := (s.panel q).activeFrame tile 49
  bitsOf 512 (fun i =>
    let h := stitchHalf f i
    s.stitchDriver p tile i = some q && h.testBit 2
      && (if h.testBit 1 then (Tab.look (fun _ => 0) (s.panel q).stitchReg tile).testBit i else s.pinValue q (.track tile (h / 8))))
    + 2 ^ 512 * (Tab.look (fun _ => 0) (s.panel p).stitchSync tile % 2 ^ 512)

/-- The SREQ outputs of a panel: SREQ_VALID, SREQ_SLOT, SREQ_FRESH are outputs 0, 1 to 3, 4 of the hard interfaces (R81). -/
def State.sreqOut (s : State) (p : Nat) : Bool × Nat × Bool :=
  (s.pinValue p (.hard 0), bitsOf 3 (fun i => s.pinValue p (.hard (1 + i))), s.pinValue p (.hard 4))

/-- PIO_OE and PIO_OUT of a panel for pin `n`, outputs 256 + n and 320 + n of the hard interfaces (R480; log 128). -/
def State.pioOut (s : State) (p n : Nat) : Bool × Bool :=
  ((s.panel p).drives && s.pinValue p (.hard (256 + n)), s.pinValue p (.hard (320 + n)))

/-- Bit `b` of a panel's PROBE port, output 384 + b (R480, R487; log 128). -/
def State.probeOut (s : State) (p b : Nat) : Bool := (s.panel p).drives && s.pinValue p (.hard (384 + b))

/-- The tables of arithmetic blocks in their canonical form. -/
def arithTab (f : Nat → Arith) : Tab Arith :=
  (List.range 320).filterMap (fun k => if f k = Arith.zero then none else some (k, f k))

/-- The panels whose SHUTTLE_REQ input panel `q` drives (R82). -/
def State.requestTargets (s : State) (q : Nat) : List Nat :=
  (List.range 32).filter (fun p => reqSource p (s.rd 0x3104 p) = some q)

/-- A request of panel `q` is captured on its way to each panel that selects it (R82). -/
def State.captured (s : State) (q slot : Nat) (fresh : Bool) : List (Nat × Nat × Bool) :=
  (s.panel q).sreq ++ (s.requestTargets q).map (fun p => (p, slot, fresh))

/-- Panel `p` after a rising edge of its clock under its active context. An asserted reset, which HELD implies (R58), holds the
flip-flops at INIT and the cleared registers clear (R59), and the tile memory ports do nothing in it (R45; log 138). The edge
counts towards a scheduled switch (R76), takes the ratio asked of the divider (R57), releases the clamp of a RUNNING panel (R55),
ends the first cycle after a switch (R81) and captures a request that SREQ_VALID newly raises (R82). -/
def State.edged (s : State) (p : Nat) : Panel :=
  let x := s.panel p
  let run : Bool := x.pstate = .running
  let r := x.reset.isSome || !run
  { x with
    live := if r then x.initLive else tabOf 80 (s.tileEdge p)
    arith := if r then [] else arithTab (fun k => s.blockEdge p (k / 4) (k % 4))
    tileMem := if r then x.tileMem else s.memEdge p
    memOut := if r then x.memOut else tabOf 640 (s.memOutEdge p)
    boundary := tabOf 320 (s.boundaryEdge p)
    stitchReg := if r then [] else tabOf 80 (s.stitchRegEdge p)
    stitchSync := tabOf 80 (s.stitchSyncEdge p)
    padSync := bitsOf 64 (s.padIn p) + 2 ^ 64 * (x.padSync % 2 ^ 64)
    phase := 0, divisor := x.nextDivisor, clamped := x.clamped && !run, switchedIn := false, freshIn := false
    switch := x.switch.map (fun w => if w.scheduled then { w with edges := w.edges + 1 } else w)
    sreqWas := run && (s.sreqOut p).1
    sreq := if run && (s.sreqOut p).1 && !x.sreqWas then s.captured p (s.sreqOut p).2.1 (s.sreqOut p).2.2 else x.sreq }

/-- Rising edges of the clocks of the panels of a list, at one moment: each samples the state before it. A divider that changes its
ratio at the edge writes its event (R57, R63). -/
def State.panelEdges (s : State) (l : List Nat) : State :=
  l.foldl (fun (t : State) p =>
    let x := s.panel p
    let t1 := t.setPanel p (s.edged p)
    if x.nextDivisor = x.divisor then t1 else t1.event (fabricCode p) 0x12 (256 * p + x.nextDivisor)) s

/-- A panel's clock has an edge at an FCLK edge (R57): the divider lets every `divisor`-th through. A panel whose switch cycle is the
next edge waits for the row SWITCH_CYCLE. -/
def Panel.edgeDue (x : Panel) : Bool :=
  x.divisor ≤ x.phase + 1 &&
    match x.switch with
    | some w => !(w.scheduled && 2 ≤ w.edges)
    | none => true

/-- The panels whose clock ticks on an FCLK that has an edge now. Which FCLKs have one is a free value: their frequencies and phases
are not counted (log 75). -/
def State.ticking (s : State) : List Nat :=
  (List.range 32).filter (fun p => s.clockRuns p && s.freeNow.testBit (s.rd 0x3200 p))

/-- FCLK edges pass (R56–R58): each panel they reach has an edge, or its divider counts one. Nothing is drawn while no panel
clock runs. -/
def State.fclkEdges (s : State) : State :=
  if (List.range 32).any s.clockRuns then
    let l := s.ticking
    let s1 := s.panelEdges (l.filter (fun p => (s.panel p).edgeDue))
    ((l.filter (fun p => !(s.panel p).edgeDue)).foldl
      (fun t p => t.setPanel p { t.panel p with phase := (t.panel p).phase + 1 }) s1).drawn
  else s

/-- A reset of a panel clears the boundary registers it drives, which stand in the panels beside it, and the synchronising registers
at the other ends of its stitches, which only it can drive (R59; log 138). -/
def State.clearDriven (s : State) (p : Nat) : State :=
  let s1 := (List.range 320).foldl (fun (t : State) k =>
    match facing p (k / 4) (k % 4) with
    | some (q, u) =>
      if (t.panel q).boundary.isEmpty then t
      else t.setPanel q { t.panel q with boundary := Tab.put (fun _ => 0) (t.panel q).boundary (4 * u + farSide (k % 4)) 0 }
    | none => t) s
  s1.setPanel (pairOf p) { s1.panel (pairOf p) with stitchSync := [] }

end Sys2Proof.Machine
end

