-- ==== Sys2Proof/Machine/Shuttle.lean ====
section
/-! DEFINITION. Contexts, panels and the shuttle (spec/03): slots, staging, activation, the switch, requests and
time-slice tables. -/

namespace Sys2Proof.Machine

/-- INSTANCE of the shuttle's slot events (R90). -/
def slotInst (p slot tile : Nat) : Nat := 2048 * p + 256 * slot + tile

/-- The shuttle is frozen while the orderly-stop signal is asserted and during BASE_WARM reset (R85). -/
def State.frozen (s : State) : Bool := s.dev.stopAsserted || s.warmRuns

/-- From the first SHUT cycle of a stage any STAGED slot returns to VALID (R72). -/
def Panel.unstage (x : Panel) : Panel :=
  match x.slotIn .staged with
  | some k => x.setSlot k .valid
  | none => x

/-- A stage starts (R71, R72); one already in progress is abandoned. -/
def Panel.startStage (x : Panel) (slot : Nat) (why : StageFor) : Panel :=
  { x.unstage with staging := some (slot, why) }

/-- The planes exchange: `k` becomes ACTIVE, the old ACTIVE slot STAGED (R67, R76, R80). -/
def Panel.exchange (x : Panel) (k : Nat) : Panel :=
  match x.slotIn .active with
  | some a => if a = k then x else (x.setSlot a .staged).setSlot k .active
  | none => x.setSlot k .active

/-- A switch whose cycle has not begun is cancelled (R85): SWITCH_PENDING clears; a stage it waited on goes on as a
plain stage. A table's entry then runs with no switch (R88), entry 0 from the cancellation. -/
def Panel.dropSwitch (x : Panel) : Panel :=
  match x.switch with
  | none => x
  | some w =>
    { x with
      switch := none
      staging := x.staging.map (fun g => (g.1, if g.2 = .switching then .plain else g.2))
      slice := if !w.table then x.slice else if x.slice = .switching then .noSwitch
        else if x.slice = .starting then .counting else x.slice
      sliceStageDue := x.sliceStageDue || (w.table && x.slice = .starting) }

/-- Cancel a panel's pending switch, with one SWITCH_CANCELLED event (R85, R90). -/
def State.cancelSwitch (s : State) (p : Nat) : State :=
  match (s.panel p).switch with
  | none => s
  | some w => (s.setPanel p (s.panel p).dropSwitch).event 0x04 0x04 (slotInst p w.slot 0)

/-- Cancel a pending switch whose target is `slot`. -/
def State.cancelSwitchTo (s : State) (p slot : Nat) : State :=
  match (s.panel p).switch with
  | some w => if w.slot = slot then s.cancelSwitch p else s
  | none => s

/-- A slot becomes INVALID, which changes the digest (R91). -/
def State.invalidateSlot (s : State) (p slot : Nat) : State :=
  (s.setPanel p ((s.panel p).setSlot slot .invalid)).digestChange

/-- ENTRY_COUNT of a table (R87). -/
def State.sliceCount (s : State) (p : Nat) : Nat := s.rd 0x3105 p % 32

/-- Entry `e` of a table (R87). -/
def State.sliceWord (s : State) (p e : Nat) : Nat := s.rd (0x3110 + e) p

/-- The slot an entry names. -/
def State.sliceSlot (s : State) (p e : Nat) : Nat := bits (s.sliceWord p e) 26 24

/-- The FRESH flag of an entry. -/
def State.sliceFresh (s : State) (p e : Nat) : Bool := (s.sliceWord p e).testBit 31

/-- ONCE of a table (R87). -/
def State.sliceOnce (s : State) (p : Nat) : Bool := (s.rd 0x3105 p).testBit 8

/-- The entry after `e`; none after the last when ONCE is 1 (R87). -/
def State.sliceAfter (s : State) (p e : Nat) : Option Nat :=
  if e + 1 < s.sliceCount p then some (e + 1) else if s.sliceOnce p then none else some 0

/-- The table's stage of its next entry's slot (R88 step 2): due after an entry start, it waits for another source's
switch or stage, and is not made for a slot already staged, being staged or about to be ACTIVE. -/
def State.sliceStage (s : State) (p : Nat) : State :=
  let x := s.panel p
  if !x.sliceStageDue then s
  else
    match s.sliceAfter p x.sliceEntry with
    | none => s.setPanel p { x with sliceStageDue := false }
    | some e =>
      let k := s.sliceSlot p e
      if x.slot k ≠ .valid then s.setPanel p { x with sliceStageDue := false }
      else
        match x.switch, x.staging with
        | none, none => s.setPanel p { x.startStage k .table with sliceStageDue := false }
        | none, some g => if g.1 = k then s.setPanel p { x with sliceStageDue := false } else s
        | some w, _ => if w.slot = k then s.setPanel p { x with sliceStageDue := false } else s

/-- An entry of the table starts (R88 step 2): its count runs and the stage of the next entry's slot falls due. -/
def State.sliceStart (s : State) (p e : Nat) : State :=
  (s.setPanel p { s.panel p with slice := .counting, sliceEntry := e, sliceNext := e, sliceStageDue := true }).sliceStage p

/-- What the request point answers to a SWITCH of panel `p` (R22, R75, R80, R86). -/
def State.switchStatus (s : State) (p slot : Nat) : Status :=
  let x := s.panel p
  if s.frozen then .stateConflict
  else if x.pstate = .test then .busyInTest
  else if x.pstate ≠ .running then .stateConflict
  else
    match x.switch with
    | some w => if w.slot = slot then .ok else .stateConflict
    | none =>
      match x.slot slot with
      | .valid | .staged | .active => .ok
      | _ => .stateConflict

/-- Whether an accepted SWITCH starts one: not for PENDING_SLOT, and not for the ACTIVE slot (R75). -/
def State.switchStarts (s : State) (p slot : Nat) : Bool :=
  (s.panel p).switch.isNone && ((s.panel p).slot slot = .valid || (s.panel p).slot slot = .staged)

/-- The effect of a SWITCH that starts one (R75): scheduled at once for a STAGED target, after staging for a VALID
one. A stage of that slot already in progress is waited for. -/
def Panel.takeSwitch (x : Panel) (slot : Nat) (fresh table : Bool) : Panel :=
  if x.slot slot = .staged then { x with switch := some ⟨slot, fresh, true, table, 0⟩ }
  else
    let x1 :=
      match x.staging with
      | some g => if g.1 = slot then { x with staging := some (slot, .switching) } else x.startStage slot .switching
      | none => x.startStage slot .switching
    { x1 with switch := some ⟨slot, fresh, false, table, 0⟩ }

/-- A SWITCH at the request point. -/
def State.takeSwitch (s : State) (p slot : Nat) (fresh table : Bool) : State :=
  if s.switchStarts p slot then s.setPanel p ((s.panel p).takeSwitch slot fresh table) else s

/-- The value of SHUTTLE_REQUEST that stands for a SWITCH (R80, R361). -/
def switchValue (slot : Nat) (fresh : Bool) : Nat := 0x10 + 8 * flag fresh + slot

/-- A refusal of a request without a reply path is recorded (R12, R84): journal, one event, REFUSAL_COUNT. `kind` is 1
fabric, 2 queue arrival, 3 time-slice table. -/
def State.shuttleRefused (s : State) (p kind who slot : Nat) (fresh : Bool) (st : Status) : State :=
  ((s.journalInternal ⟨0x3100, p, st.code, ⟨0x1F + kind, who⟩, 3, none, leBytes 2 (switchValue slot fresh)⟩).event
    0x04 0x01 (2048 * p + 256 * kind + st.code)).bump 0x3107 p 1

/-- A table request that is refused: the entry runs with no switch (R88); the first entry starts at once. -/
def State.sliceRefused (s : State) (p : Nat) : State :=
  let x := s.panel p
  match x.slice with
  | .first => s.sliceStart p 0
  | .counting =>
    match s.sliceAfter p x.sliceEntry with
    | some e => s.setPanel p { x with slice := .noSwitch, sliceNext := e }
    | none => s
  | _ => s

/-- The table's request of entry `e` is taken (R88 steps 1, 3, 4): no switch for the ACTIVE slot or the slot of
another source's switch; a switch that must wait on staging is late, but for the first request. -/
def State.sliceTake (s : State) (p e : Nat) (first : Bool) : State :=
  let k := s.sliceSlot p e
  if s.switchStarts p k then
    let late := !first && (s.panel p).slot k ≠ .staged
    let s1 := s.takeSwitch p k (s.sliceFresh p e) true
    let s2 := s1.setPanel p { s1.panel p with slice := if first then .starting else .switching, sliceNext := e }
    if late then s2.bump 0x3109 p 1 else s2
  else if first then s.sliceStart p e
  else s.setPanel p { s.panel p with slice := .noSwitch, sliceNext := e }

/-- The entry whose request a running table presents (R88), and whether it is the first. -/
def State.sliceAsks (s : State) (p : Nat) : Option (Nat × Bool) :=
  let x := s.panel p
  if s.panelTicks p then
    match x.slice with
    | .first => some (0, true)
    | .counting => (s.sliceAfter p x.sliceEntry).map (fun e => (e, false))
    | _ => none
  else none

/-! The request point (R22). -/

/-- Panel `q` has raised a request for panel `p`: it is captured, or the clock of `q` ticks and the row is the rising edge of
SREQ_VALID that captures it now (R82; log 139). -/
def State.raises (s : State) (q p slot : Nat) (fresh : Bool) : Bool :=
  (s.panel q).sreq.contains (p, slot, fresh) || s.panelTicks q

/-- A source of a dictionary write as the number a `Rival` holds. -/
def rivalSource (who : Nat) : Source := ⟨who % 256, who / 256⟩

/-- A rival is a request that the state has (R22): a SWITCH write that passes its earlier checks, a fabric request of the selected
panel, an arrival that was raised, or the request of the table. -/
def State.realRival (s : State) (p : Nat) (r : Rival) : Bool :=
  match r.kind with
  | 1 =>
    s.served (rivalSource r.who) &&
      s.writeStatus 0x3100 p 3 (leBytes 2 (switchValue r.slot r.fresh)) true (r.slot < 8) = .ok
  | 2 =>
    (reqSource p (s.rd 0x3104 p) = some r.who && s.raises r.who p r.slot r.fresh)
      || (s.panel r.who).sreq.contains (p, r.slot, r.fresh)
  | 3 => s.arrivals.contains (r.who, p, r.slot, r.fresh)
  | 4 =>
    match s.sliceAsks p with
    | some a => a.1 = r.who && r.slot = s.sliceSlot p a.1 && r.fresh = s.sliceFresh p a.1
    | none => false
  | _ => false

/-- The captured request of panel `q` has been delivered to panel `p`; one captured now stays on its way to the other panels that select
`q` (R82). -/
def State.dropReq (s : State) (q p slot : Nat) (fresh : Bool) : State :=
  let x := s.panel q
  let l := if x.sreq.contains (p, slot, fresh) then x.sreq else s.captured q slot fresh
  s.setPanel q { x with sreq := l.erase (p, slot, fresh) }

/-- A request leaves its source for the request point: a captured request and an arrival are no longer held. -/
def State.leaves (s : State) (p : Nat) (r : Rival) : State :=
  match r.kind with
  | 2 => s.dropReq r.who p r.slot r.fresh
  | 3 => { s with arrivals := s.arrivals.erase (r.who, p, r.slot, r.fresh) }
  | _ => s

/-- A request of a SHUT cycle that another one of that cycle beats is refused (R22): a dictionary write with its answer, the others as
R12 gives. -/
def State.refuseRival (s : State) (p : Nat) (r : Rival) : State :=
  let s1 := s.leaves p r
  if r.kind = 1 then
    (s1.countRequest (rivalSource r.who)).answer
      ⟨0x3100, p, Status.stateConflict.code, rivalSource r.who, 3, none, leBytes 2 (switchValue r.slot r.fresh)⟩
      (.status (rivalSource r.who) Status.stateConflict.code)
  else
    let s2 := s1.shuttleRefused p (r.kind - 1) r.who r.slot r.fresh .stateConflict
    if r.kind = 4 then s2.sliceRefused p else s2

/-- The other requests of the same SHUT cycle are refused (R22). -/
def State.refuseRivals (s : State) (p : Nat) : List Rival → State
  | [] => s
  | r :: t => (s.refuseRival p r).refuseRivals p t

/-- Two requests that one SHUT cycle cannot both hold: one panel and one table raise one request at a time, and an arrival is raised
once. -/
def sameRequest (a b : Rival) : Bool := a.kind = b.kind && (a.kind = 2 || a.kind = 4 || a.kind = 3 && a = b)

/-- The requests of a list that reach the request point of panel `p` in one SHUT cycle (R22): those that the state has. -/
def State.presented (s : State) (p : Nat) (l : List Rival) : List Rival :=
  if s.shutRuns then
    (l.filter (s.realRival p)).foldl (fun t r => if t.any (sameRequest r) then t else t ++ [r]) []
  else []

/-- A dictionary request that reaches the request point is taken before any other source's of its SHUT cycle, which are refused
(R22). -/
def rivalled (p : Nat) (rivals : List Rival) (eff : Effect) : Effect := fun s =>
  ((eff s).1, (eff s).2.refuseRivals p (s.presented p rivals))

/-- A request from a source without a reply path reaches the request point (R22, R84). -/
def State.silentSwitch (s : State) (p kind who slot : Nat) (fresh : Bool) : State :=
  match s.switchStatus p slot with
  | .ok => s.takeSwitch p slot fresh false
  | st => s.shuttleRefused p kind who slot fresh st

/-- A table's request of entry `e` is presented (R88). -/
def State.slicePresent (s : State) (p e : Nat) (first : Bool) : State :=
  match s.switchStatus p (s.sliceSlot p e) with
  | .ok => s.sliceTake p e first
  | st => (s.shuttleRefused p 3 e (s.sliceSlot p e) (s.sliceFresh p e) st).sliceRefused p

/-- SWITCH (R75, R80). -/
def switchEffect (p slot : Nat) (fresh : Bool) : Effect := fun s =>
  match s.switchStatus p slot with
  | .ok => (.ok, s.takeSwitch p slot fresh false)
  | st => (st, s)

/-- A refusal in TEST is BUSY_IN_TEST, in every other case STATE_CONFLICT (R80). -/
def State.shuttleRefusal (s : State) (p : Nat) : Status :=
  if (s.panel p).pstate = .test then .busyInTest else .stateConflict

/-- STAGE (R80): HELD or RUNNING, target VALID or STAGED (no action), no switch pending. -/
def stageEffect (p slot : Nat) : Effect := fun s =>
  let x := s.panel p
  if !s.frozen && (x.pstate = .held || x.pstate = .running) && x.switch.isNone then
    match x.slot slot with
    | .staged => (.ok, s)
    | .valid => (.ok, s.setPanel p (x.startStage slot .plain))
    | _ => (.stateConflict, s)
  else (s.shuttleRefusal p, s)

/-- UNSTAGE (R80): target STAGED, no switch pending; the slot becomes VALID. -/
def unstageEffect (p slot : Nat) : Effect := fun s =>
  let x := s.panel p
  if !s.frozen && x.pstate ≠ .test && x.switch.isNone && x.slot slot = .staged then
    (.ok, s.setPanel p (x.setSlot slot .valid))
  else (s.shuttleRefusal p, s)

/-- SELECT (R80): in HELD the planes exchange with no state saved, after staging a VALID target; in EMPTY a VALID
target is activated (R70). -/
def selectEffect (p slot : Nat) : Effect := fun s =>
  let x := s.panel p
  if s.frozen then (s.shuttleRefusal p, s)
  else
    match x.pstate, x.slot slot with
    | .held, .active => (.ok, s)
    | .held, .staged => (.ok, s.setPanel p { x.exchange slot with live := (x.exchange slot).initLive })
    | .held, .valid => (.ok, s.setPanel p (x.startStage slot .select))
    | .empty, .valid => (.ok, s.setPanel p (x.startStage slot .activation))
    | _, _ => (s.shuttleRefusal p, s)

/-- RELEASE (R80): HELD, in OPERATIONAL. -/
def releaseEffect (p : Nat) (fresh : Bool) : Effect := fun s =>
  if !s.frozen && (s.panel p).pstate = .held && s.dev.state = .operational then
    (.ok, s.releasePanel p fresh)
  else (s.shuttleRefusal p, s)

/-- A RUNNING panel is parked (R60): state saved, accesses and queue transfers in flight settled (R79, R164), one
PANEL_PARKED event, contention evaluated again. -/
def State.parkPanel (s : State) (p : Nat) : State :=
  if (s.panel p).pstate = .running then
    ((((s.setPanel p (s.panel p).park).crossAccesses p).parkQueuePort p).event (fabricCode p) 0x11 p).recount p
  else s

/-- HOLD (R80): RUNNING with no switch pending. -/
def holdEffect (p : Nat) : Effect := fun s =>
  let x := s.panel p
  if !s.frozen && x.pstate = .running && x.switch.isNone then (.ok, s.parkPanel p)
  else (s.shuttleRefusal p, s)

/-- A stage of a slot in progress is abandoned (R80). -/
def Panel.dropStage (x : Panel) (slot : Nat) : Panel :=
  match x.staging with
  | some g => if g.1 = slot then { x with staging := none } else x
  | none => x

/-- A panel whose activation was abandoned is EMPTY again: no slot is ACTIVE or LOADING (R68; log 130). -/
def Panel.dropActivation (x : Panel) : Panel :=
  if x.pstate = .loading && (x.slotsIn .loading).isEmpty && x.staging.isNone then { x with pstate := .empty } else x

/-- INVALIDATE (R80): a VALID slot, or the ACTIVE slot of a HELD panel with no other slot VALID or STAGED. A stage of the slot is
abandoned and a switch pending on it cancelled; the table's own stage may then start (R88). -/
def invalidateEffect (p slot : Nat) : Effect := fun s =>
  let x := s.panel p
  if s.frozen || x.pstate = .test then (s.shuttleRefusal p, s)
  else
    match x.slot slot with
    | .valid =>
      let s1 := s.cancelSwitchTo p slot
      (.ok, ((s1.setPanel p ((s1.panel p).dropStage slot).dropActivation).invalidateSlot p slot).sliceStage p)
    | .active =>
      if x.pstate = .held ∧ (x.slotsIn .valid).isEmpty ∧ (x.slotsIn .staged).isEmpty then
        (.ok, (s.setPanel p { x.dropStage slot with pstate := .empty, parked := false }).invalidateSlot p slot)
      else (.stateConflict, s)
    | _ => (.stateConflict, s)

/-- SHUTTLE_REQUEST values that R80 rejects with VALUE_RANGE. -/
def shuttleFits (v : Nat) : Bool :=
  let a := bits v 7 4
  v < 256 && 1 ≤ a && a ≤ 7 && (!v.testBit 3 || a = 1 || a = 5) && (v % 8 = 0 || (a ≠ 5 && a ≠ 6))

/-- The effect of a SHUTTLE_REQUEST value (R80). -/
def shuttleEffect (p v : Nat) : Effect :=
  match bits v 7 4 with
  | 1 => switchEffect p (v % 8) (v.testBit 3)
  | 2 => stageEffect p (v % 8)
  | 3 => unstageEffect p (v % 8)
  | 4 => selectEffect p (v % 8)
  | 5 => releaseEffect p (v.testBit 3)
  | 6 => holdEffect p
  | _ => invalidateEffect p (v % 8)

/-- A SHUTTLE_REQUEST write of panel `p` (R80). -/
def State.shuttleWrite (s : State) (src : Source) (p v : Nat) : State :=
  s.command src 0x3100 p 3 (leBytes 2 v) [] true (shuttleFits v) (shuttleEffect p v)

/-- A request of a source without a reply path is taken at the request point. -/
def State.takeRival (s : State) (p : Nat) (r : Rival) : State :=
  let s1 := s.leaves p r
  match r.kind with
  | 1 => s1.shuttleWrite (rivalSource r.who) p (switchValue r.slot r.fresh)
  | 4 =>
    match s1.sliceAsks p with
    | some a => s1.slicePresent p a.1 a.2
    | none => s1
  | k => s1.silentSwitch p (k - 1) r.who r.slot r.fresh

/-- The request that R22 takes: the one highest in its order, and of two alike the first of the list (log 139). -/
def topRival : List Rival → Option Rival
  | [] => none
  | r :: t =>
    match topRival t with
    | none => some r
    | some q => if r.kind ≤ q.kind then some r else some q

/-- The requests for a panel that reach the request point in one SHUT cycle (R22): one is taken, the others are refused. -/
def State.arbitrate (s : State) (p : Nat) (l : List Rival) : State :=
  let real := s.presented p l
  match topRival real with
  | some r => (s.takeRival p r).refuseRivals p (real.erase r)
  | none => s

/-- The requests of other sources that stood beside a SHUTTLE_REQUEST write which an earlier check turned away: they reach the
request point without it (R13, R22). -/
def State.besideWrite (s : State) (src : Source) (p ty : Nat) (bytes : List Byte) (rivals : List Rival) (t : State) : State :=
  if s.served src && s.writeStatus 0x3100 p ty bytes true (shuttleFits (leValue bytes)) = .ok then t else t.arbitrate p rivals

/-- What a SHUTTLE_REQUEST row does: the write, with the requests of other sources in the same SHUT cycle (R22). -/
def State.shuttleRow (s : State) (src : Source) (p v : Nat) (rivals : List Rival) (eff : Effect) : State :=
  s.besideWrite src p 3 (leBytes 2 v) rivals <|
    s.command src 0x3100 p 3 (leBytes 2 v) [] true (shuttleFits v) (rivalled p rivals eff)

/-- SHUTTLE_SWITCH (R75). -/
def execShuttleSwitch (src : Source) (panel slot : Nat) (fresh : Bool) (rivals : List Rival) (s : State) :
    Host.Outcome State Fault Refusal :=
  .next (s.shuttleRow src panel (switchValue slot fresh) rivals (switchEffect panel slot fresh))

/-- SHUTTLE_STAGE (R80). -/
def execShuttleStage (src : Source) (panel slot : Nat) (rivals : List Rival) (s : State) : Host.Outcome State Fault Refusal :=
  .next (s.shuttleRow src panel (0x20 + slot) rivals (stageEffect panel slot))

/-- SHUTTLE_UNSTAGE (R80). -/
def execShuttleUnstage (src : Source) (panel slot : Nat) (rivals : List Rival) (s : State) : Host.Outcome State Fault Refusal :=
  .next (s.shuttleRow src panel (0x30 + slot) rivals (unstageEffect panel slot))

/-- SHUTTLE_SELECT (R80). -/
def execShuttleSelect (src : Source) (panel slot : Nat) (rivals : List Rival) (s : State) : Host.Outcome State Fault Refusal :=
  .next (s.shuttleRow src panel (0x40 + slot) rivals (selectEffect panel slot))

/-- SHUTTLE_RELEASE (R80). -/
def execShuttleRelease (src : Source) (panel : Nat) (fresh : Bool) (rivals : List Rival) (s : State) :
    Host.Outcome State Fault Refusal :=
  .next (s.shuttleRow src panel (0x50 + 8 * flag fresh) rivals (releaseEffect panel fresh))

/-- SHUTTLE_HOLD (R80). -/
def execShuttleHold (src : Source) (panel : Nat) (rivals : List Rival) (s : State) : Host.Outcome State Fault Refusal :=
  .next (s.shuttleRow src panel 0x60 rivals (holdEffect panel))

/-- SHUTTLE_INVALIDATE (R80). -/
def execShuttleInvalidate (src : Source) (panel slot : Nat) (rivals : List Rival) (s : State) :
    Host.Outcome State Fault Refusal :=
  .next (s.shuttleRow src panel (0x70 + slot) rivals (invalidateEffect panel slot))

/-- The panel whose request for panel `p` is on its way: the one that captured it, else the one that SHUTTLE_REQ_SOURCE selects. -/
def State.requester (s : State) (p slot : Nat) (fresh : Bool) : Option Nat :=
  match (List.range 32).find? (fun q => (s.panel q).sreq.contains (p, slot, fresh)) with
  | some q => some q
  | none => reqSource p (s.rd 0x3104 p)

/-- FABRIC_SHUTTLE_REQ (R82): the request of the panel that SHUTTLE_REQ_SOURCE selects reaches the request point as a SWITCH. -/
def execFabricShuttleReq (panel slot : Nat) (fresh : Bool) (rivals : List Rival) (s : State) :
    Host.Outcome State Fault Refusal :=
  match s.requester panel slot fresh with
  | some q => .next (s.arbitrate panel (⟨2, q, slot, fresh⟩ :: rivals))
  | none => .next s

/-- QUEUE_ARRIVAL_REQUEST (R83): the oldest arrival raised for the panel reaches the request point. -/
def execQueueArrivalRequest (panel : Nat) (rivals : List Rival) (s : State) :
    Host.Outcome State Fault Refusal :=
  match s.arrivals.find? (fun a => a.2.1 = panel) with
  | some a => .next (s.arbitrate panel (⟨3, a.1, a.2.2.1, a.2.2.2⟩ :: rivals))
  | none => .next s

/-- TSLICE_CONTROL values that R87 rejects with VALUE_RANGE. -/
def sliceFits (v : Nat) : Bool :=
  bits v 14 9 = 0 && bits v 7 5 = 0 && 1 ≤ v % 32 && v % 32 ≤ 16

/-- A write of TSLICE_CONTROL (R87, R88): ENTRY_COUNT is locked while ENABLE is 1; setting ENABLE on a RUNNING panel
starts the table; clearing it stops the table, and a switch of its own that is pending goes on (log 140). -/
def sliceControlEffect (p v : Nat) : Effect := fun s =>
  if s.sliceEnable p && s.sliceCount p ≠ v % 32 then (.stateConflict, s)
  else
    let x := s.panel p
    let s1 := s.wr 0x3105 p v
    if !v.testBit 15 then (.ok, s1.setPanel p x.sliceStop)
    else if !s.sliceEnable p && x.pstate = .running && !s.frozen then (.ok, s1.setPanel p x.sliceStart)
    else (.ok, s1)

/-- TSLICE_CONTROL_WRITE (R87). -/
def execTsliceControlWrite (src : Source) (panel value : Nat) (s : State) : Host.Outcome State Fault Refusal :=
  .next (s.command src 0x3105 panel 3 (leBytes 2 value) (s.regBytes 0x3105 panel) true (sliceFits value)
    (sliceControlEffect panel value))

/-- TSLICE_REQUEST (R88): a running table presents its first request, or the request of the next entry. -/
def execTsliceRequest (panel : Nat) (rivals : List Rival) (s : State) : Host.Outcome State Fault Refusal :=
  match s.sliceAsks panel with
  | some a => .next (s.arbitrate panel (⟨4, a.1, s.sliceSlot panel a.1, s.sliceFresh panel a.1⟩ :: rivals))
  | none => .next s

/-- TSLICE_ENTRY_ADVANCE (R88): the current entry's duration ends, counted in cycles of a panel clock that ticks, and the next one
starts with no switch; with ONCE the table stops after the last entry and clears ENABLE, which as a covered setting changes makes a
publication fall due (R332, R365; log 140). -/
def execTsliceEntryAdvance (panel : Nat) (s : State) : Host.Outcome State Fault Refusal :=
  let x := s.panel panel
  if s.panelTicks panel then
    match x.slice with
    | .noSwitch => .next (s.sliceStart panel x.sliceNext)
    | .counting =>
      match s.sliceAfter panel x.sliceEntry with
      | none =>
        .next ((s.setPanel panel x.sliceStop).wr 0x3105 panel (setBit (s.rd 0x3105 panel) 15 false))
      | some _ => .next s
    | _ => .next s
  else .next s

/-- Activation ends (R70): the slot is ACTIVE and the panel HELD with its reset asserted. -/
def Panel.activate (x : Panel) (k : Nat) : Panel :=
  { x.setSlot k .active with pstate := .held, parked := false, staging := none, releaseWait := none, live := x.initImage k }

/-- What a completed stage does in its panel (R71, R75, R70, R80, R436). A slot that SELECT staged in a panel that has been released
since is STAGED, and the planes stay as they are (log 140). -/
def Panel.staged (x : Panel) (k : Nat) (why : StageFor) : Panel :=
  match why with
  | .activation => x.activate k
  | .restage => { x with staging := none }
  | .select =>
    if x.pstate = .held then { x.exchange k with staging := none, live := (x.exchange k).initLive }
    else { x.setSlot k .staged with staging := none }
  | .switching =>
    { x.setSlot k .staged with
      staging := none
      switch := x.switch.map (fun w => if w.slot = k then { w with scheduled := true } else w) }
  | _ => { x.setSlot k .staged with staging := none }

/-- STAGING_COMPLETE (R71): 200 SHUT cycles after its start; staging runs in every panel state but TEST. -/
def execStagingComplete (panel : Nat) (s : State) : Host.Outcome State Fault Refusal :=
  let x := s.panel panel
  match x.staging with
  | some (k, why) =>
    if x.pstate = .test ∨ !s.shutRuns then .next s
    else .next (((s.setPanel panel (x.staged k why)).sliceStage panel).waitedRelease panel)
  | none => .next s

/-- Whether a stored frame with some of its bits flipped fails its CRC-32C (R66, R71). -/
def Panel.frameBad (x : Panel) (slot tile frame flip : Nat) : Bool :=
  let w := x.frame slot tile frame
  crc32c (leBytes 512 w) ≠ crc32c (leBytes 512 (w ^^^ flip))

/-- A staging CRC mismatch in `tile` (R73): the stage is abandoned, the slot INVALID, its pending switch cancelled; a
panel being activated, or whose active slot was being restaged, becomes EMPTY (R70, R436). -/
def State.stageFailed (s : State) (p k tile : Nat) (why : StageFor) : State :=
  let x := s.panel p
  let s1 := s.setPanel p { x with staging := none }
  let s2 := (s1.invalidateSlot p k).event 0x04 0x02 (slotInst p k tile)
  match why with
  | .activation | .restage => s2.setPanel p { s2.panel p with pstate := .empty, parked := false, releaseWait := none }
  | _ => (s2.cancelSwitchTo p k).sliceStage p

/-- STAGE_CRC_ERROR (R73): stored bits `flip` of a frame of the slot being staged have changed in T3, and its CRC
shows it. -/
def execStageCrcError (panel tile frame flip : Nat) (s : State) : Host.Outcome State Fault Refusal :=
  match (s.panel panel).staging with
  | some (k, why) =>
    if s.shutRuns ∧ (s.panel panel).frameBad k tile frame flip then .next (s.stageFailed panel k tile why)
    else .next s
  | none => .next s

/-- The panel after its switch cycle (R76 steps 5–9). The flip-flops captured as cycle k began go to the outgoing slot's store; the
incoming ones come from its store, or are INIT values with FRESH; an asserted reset wins (R59). In cycle k the boundary registers
do not capture, the tile memory ports are disabled (R45, R48), the T3 registers keep their values (R53), the synchronising
registers of the panel's stitches do as its boundary registers do (log 141) and the arithmetic registers clear (R43). -/
def Panel.switched (x : Panel) (w : Switch) : Panel :=
  let x1 :=
    match x.slotIn .active with
    | some a => x.setStore a (if x.reset.isSome then x.initLive else x.live)
    | none => x
  { x1.exchange w.slot with
    live := if w.fresh || x.reset.isSome then x.initImage w.slot else x.store w.slot
    arith := [], switch := none, switchedIn := true, freshIn := w.fresh, sreqWas := false }

/-- The panel clock edges up to the one that begins cycle k (R76 steps 2–4): those that the clock has not had since the switch was
scheduled. -/
def State.toSwitchCycle (s : State) (p edges : Nat) : State :=
  (List.range (3 - edges)).foldl (fun t _ => (t.panelEdges [p]).drawn) s

/-- SWITCH_CYCLE (R76): the third panel edge after scheduling, cycle k and the edge that ends it. SWITCH_WARN is 1 in cycle k − 1 and
SWITCHED_IN in cycle k + 1 (R77, R81). To other panels the boundary holds the values of cycle k − 1 through cycle k (R55): their edges
in that cycle are those taken before this row (log 141). -/
def execSwitchCycle (panel : Nat) (s : State) : Host.Outcome State Fault Refusal :=
  match (s.panel panel).switch with
  | some w =>
    if w.scheduled && s.panelTicks panel then
      let s1 := (s.toSwitchCycle panel w.edges).emit (.switchWarn panel)
      let x := s1.panel panel
      let s2 := ((((s1.setPanel panel (x.switched w)).emit (.switchedIn panel w.slot w.fresh)).crossAccesses panel).count64
        0x3106 panel 1).recount panel
      if w.table && (x.slice = .switching || x.slice = .starting) then .next (s2.sliceStart panel x.sliceNext)
      else .next (s2.sliceStage panel)
    else .next s
  | none => .next s

/-- Readback of a panel pauses while it is staging, loading or in TEST (R74). -/
def Panel.readable (x : Panel) : Bool :=
  x.staging.isNone && (x.slotsIn .loading).isEmpty && x.pstate ≠ .test

/-- The frame that readback of a panel takes next (R74): of the VALID and STAGED slots, every frame in turn. Positions are
slot × 4,000 + tile × 50 + frame. -/
def Panel.readNext (x : Panel) : Option Nat :=
  let open_ := fun k => x.slot k = .valid || x.slot k = .staged
  if open_ (x.readPos / 4000 % 8) then some (x.readPos % 32000)
  else
    (((List.range 7).map (fun i => (x.readPos / 4000 + 1 + i) % 8)).find? open_).map (fun k => 4000 * k)

/-- READBACK_FRAME (R74): the next stored frame of a VALID or STAGED slot, with the bits `flip` changed in T3, is checked;
a mismatch makes the slot INVALID and cancels a switch pending on it. -/
def execReadbackFrame (panel flip : Nat) (s : State) : Host.Outcome State Fault Refusal :=
  let x := s.panel panel
  match x.readNext with
  | some pos =>
    if s.rd 0x310B 1 = 1 ∧ x.readable ∧ s.shutRuns then
      let slot := pos / 4000
      let tile := pos % 4000 / 50
      let s1 := s.setPanel panel { x with readPos := (pos + 1) % 32000 }
      if x.frameBad slot tile (pos % 50) flip then
        .next (((((s1.invalidateSlot panel slot).event 0x04 0x03 (slotInst panel slot tile)).bump 0x310A panel 1).cancelSwitchTo
          panel slot).sliceStage panel)
      else .next s1
    else .next s
  | none => .next s

/-- The shuttle freezes (R85): every switch whose cycle has not begun is cancelled and every table stops. -/
def State.freezeShuttle (s : State) : State :=
  (List.range 32).foldl (fun t p =>
    let t1 := t.cancelSwitch p
    t1.setPanel p (t1.panel p).sliceStop) s

/-- SLOT_STATES of a panel (R91). -/
def Panel.slotStates (x : Panel) : Nat :=
  (List.range 8).foldl (fun n k => n + (match x.slot k with
    | .invalid => 0
    | .loading => 1
    | .valid => 2
    | .staged => 3
    | .active => 4) * 16 ^ k) 0

/-- A flag and a 3-bit slot field of PANEL_STATUS. -/
def slotField (o : Option Nat) (flagBit low : Nat) : Nat :=
  match o with
  | some k => 2 ^ flagBit + k * 2 ^ low
  | none => 0

/-- PANEL_STATUS (R92). TSLICE_RUNNING is 1 while the table counts, from the start of entry 0 (R88). -/
def State.panelStatus (s : State) (p : Nat) : Nat :=
  let x := s.panel p
  (match x.pstate with
    | .empty => 0
    | .held => 1
    | .loading => 2
    | .running => 3
    | .test => 4) + slotField (x.slotIn .active) 9 6 + slotField (x.slotIn .staged) 13 10
    + slotField (x.staging.map (·.1)) 17 14 + slotField (x.switch.map (·.slot)) 21 18
    + 2 ^ 22 * flag s.frozen + 2 ^ 23 * flag (x.slice = .counting || x.slice = .switching || x.slice = .noSwitch)
    + 2 ^ 24 * x.sliceEntry

end Sys2Proof.Machine
end

