-- ==== Sys2Proof/Machine/Loader.lean ====
section
/-! DEFINITION. The configuration loader (spec/12): commands, the flash preamble, header and record checks, verification,
boot loads with their attempts, and the configuration chain; and the slot digest of R330. -/

namespace Sys2Proof.Machine

/-- BOOT_SRC, AUTOLOAD and CHAIN_POS of the straps (R313). -/
def State.bootSrc (s : State) : Nat := s.rd 0x3000 0xC % 4
/-- AUTOLOAD. -/
def State.autoloadStrap (s : State) : Bool := (s.rd 0x3000 0xC).testBit 3
/-- CHAIN_POS. -/
def State.chainPos (s : State) : Nat := bits (s.rd 0x3000 0xC) 6 4

/-- A SHA-256 with nothing hashed. -/
def Hash.start : Hash := ⟨shaInit, [], 0⟩

/-- Hash more bytes. -/
def Hash.add (h : Hash) (l : List Byte) : Hash :=
  let t := h.tail ++ l
  ⟨shaBlocks (t.length / 64) h.chain t, t.drop (t.length / 64 * 64), h.count + l.length⟩

/-- The digest of what was hashed. -/
def Hash.digest (h : Hash) : List Byte := shaFinish h.chain h.tail h.count

/-- The slot digest (R330): zero unless the slot is VALID, STAGED or ACTIVE. -/
def Panel.slotDigest (x : Panel) (k : Nat) : List Byte :=
  match x.slot k with
  | .valid | .staged | .active =>
    ((List.range 80).foldl (fun (h : Hash) t =>
      (List.range 50).foldl (fun (g : Hash) f => g.add (leBytes 512 (x.frame k t f))) h) Hash.start).digest
  | _ => List.replicate 32 0

/-- Every panel is EMPTY. -/
def State.allEmpty (s : State) : Bool := (List.range 32).all (fun p => (s.panel p).pstate = .empty)

/-- The loader may take a command that starts a load (R314). -/
def State.loaderFree (s : State) : Bool :=
  match s.ld.lstate with
  | .idle | .done | .failed => true
  | _ => false

/-- CFG runs for a load (R33, R441, R442). -/
def State.cfgRuns (s : State) : Bool :=
  !s.clkLost.contains 5 &&
    match s.dev.state with
    | .managed | .operational | .quiescing => true
    | _ => false

/-- INSTANCE of LOAD_DONE and LOAD_FAILED (R334). -/
def Loader.inst (x : Loader) (result : Nat) : Nat :=
  2 ^ 14 * x.source + 2 ^ 12 * x.attempt + (if x.set = 0 then 0 else 2 ^ 8 * x.slot) + result

/-- A load that ends otherwise than OK leaves the target slots of an accepted header INVALID, its frames discarded, and
LOADING panels EMPTY (R321). -/
def State.dropSlot (s : State) (p : Nat) : State :=
  let x := s.panel p
  let k := s.ld.slot
  let y := { x.setSlot k .invalid with frames := Tab.keep (fun a => decide (a / 4096 ≠ k)) x.frames }
  s.setPanel p (if x.pstate = .loading then { y with pstate := .empty } else y)

/-- A load ends with a RESULT other than OK (R316, R321); a boot load is then not one that ended OK from the selvedge image (R336). -/
def State.failLoad (s : State) (result : Nat) : State :=
  let s1 := (members 32 s.ld.set).foldl State.dropSlot s
  let s2 := { s1 with ld := { s1.ld with
    lstate := .failed, result := result, set := 0, buf := [], ended := none, abort := false, preamble := false
    selvedge := if s1.ld.boot then false else s1.ld.selvedge
    sending := if s1.ld.boot then none else s1.ld.sending } }
  (s2.event 0x05 0x02 (s.ld.inst result)).bump 0x3000 8 1

/-- An attempt starts from the first byte of its stream. -/
def Loader.begin (x : Loader) (attempt : Nat) : Loader :=
  { x with
    lstate := .header, attempt := attempt, set := 0, count := 0, length := 0, frames := 0, written := []
    hash := Hash.start, ended := none, sigRec := [], abort := false, buf := [], asked := 0, nextSeq := 0
    begun := false, imageEnd := false }

/-- The flash is read from an offset (R324); a stream from the chain needs no read. -/
def State.flashFrom (s : State) (offset : Nat) : State :=
  if s.ld.source = 0 && !s.ld.preambleBad then s.emit (.flashRead offset) else s

/-- An attempt of a boot load starts its stream, read at the offset of its image (R324). -/
def State.startAttempt (s : State) (attempt : Nat) : State :=
  (State.wr { s with ld := s.ld.begin attempt } 0x3000 6 0).flashFrom (s.rd 0x3000 (if attempt = 3 then 0xB else 0xA))

/-- A failed attempt of a boot load passes to the next one (R316, R324): the primary image again, then FALLBACK; after a failed preamble
each attempt ends at once (R312). -/
def State.nextAttempt (s : State) : State :=
  let x := s.ld
  if !x.boot then s
  else if x.attempt = 3 then s.event 0x05 0x04 x.result
  else if x.stop then s
  else if x.attempt = 2 then State.event { s with ld := { x with lstate := .fallback } } 0x05 0x03 0
  else if x.preambleBad then
    let s1 := (s.startAttempt 2).failLoad 0x88
    State.event { s1 with ld := { s1.ld with lstate := .fallback } } 0x05 0x03 0
  else s.startAttempt 2

/-- A load ends with a RESULT other than OK, and a boot load goes on to its next attempt. -/
def State.endLoad (s : State) (result : Nat) : State := (s.failLoad result).nextAttempt

/-- FALLBACK is left: the read of the selvedge image is issued (R316). -/
def State.leaveFallback (s : State) : State :=
  if s.ld.lstate = .fallback && s.cfgRuns then
    let s1 := s.startAttempt 3
    if s.ld.preambleBad then s1.endLoad 0x88 else s1
  else s

/-- Ask the partner for the next bytes of a HOST stream (R311): the header first, then the rest of BYTE_LENGTH, at most
256 B at a time. -/
def State.loaderAsk (s : State) : State :=
  let x := s.ld
  let total := if x.length = 0 then 64 else x.length
  let n := if total - x.asked < 256 then total - x.asked else 256
  if n = 0 then s
  else
    match s.routeLink x.port x.partner with
    | none => s.endLoad 0x88
    | some l =>
      match (s.link l).freeTag with
      | some t =>
        State.sendRead (State.ask { s with ld := { x with asked := x.asked + n } } l t .loader) l x.partner t
          (x.addr + x.asked) n
      | none => s

/-- A read of a HOST stream is answered: bytes, or an error that ends the load with SOURCE_ERROR (R321). -/
def State.loaderAnswered (s : State) (status : Nat) (l : List Byte) : State :=
  let x := s.ld
  if x.source = 1 ∧ (x.lstate = .header ∨ x.lstate = .frames) then
    if status = 0 then State.loaderAsk { s with ld := { x with buf := x.buf ++ l } } else s.endLoad 0x88
  else s

/-- A load starts (R314, R316): FLASH runs its preamble first; HOST asks for its header. -/
def State.startLoad (s : State) (asker : Source) (cmd : Nat) (boot : Bool) (source : Nat) : State :=
  let x := { s.ld.begin (if boot then 1 else 0) with
    boot := boot, source := source, asker := asker, cmd := cmd, preamble := decide (source = 0), preambleBad := false
    stop := false, addr := cmd / 2 ^ 64, port := bits cmd 24 22, partner := bits cmd 19 8 }
  let s1 := State.wr { s with ld := x } 0x3000 6 0
  if source = 1 then s1.loaderAsk else s1

/-- LOADER_COMMAND values that fit (R314). -/
def loaderFits (v : Nat) : Bool :=
  let op := bits v 31 28
  let source := bits v 27 26
  let addr := v / 2 ^ 64
  let mask := bits v 39 32
  let place := bits v 24 22 = 0 && bits v 19 8 = 0
  v < 2 ^ 128 && bits v 63 40 = 0 && bits v 21 20 = 0 && v % 256 = 0 &&
    match op with
    | 1 =>
      mask = 0 && !v.testBit 25 && source < 3
        && (if source = 0 then addr < 2 ^ 32 && place else if source = 1 then bits v 24 22 < 6 else addr = 0 && place)
    | 2 | 3 => mask = 0 && source = 0 && !v.testBit 25 && addr = 0 && place
    | 4 => mask % 2 = 0 && source = 0 && addr = 0 && place
    | _ => false

/-- LOAD (R314). -/
def loadEffect (src : Source) (v : Nat) : Effect := fun s =>
  if s.loaderFree && (bits v 27 26 ≠ 2 || 0 < s.chainPos) then (.ok, s.startLoad src v false (bits v 27 26))
  else (.stateConflict, s)

/-- The stream source of a boot load (R313, R324). -/
def State.bootSource (s : State) : Nat := if s.bootSrc = 1 then 2 else 0

/-- BOOT_LOAD (R314, R324): a chain source needs a position above 0, as of LOAD. -/
def bootLoadEffect (src : Source) (v : Nat) : Effect := fun s =>
  if s.loaderFree && s.allEmpty && s.bootSrc < 2 && (s.bootSource ≠ 2 || 0 < s.chainPos) then (.ok, s.startLoad src v true s.bootSource)
  else (.stateConflict, s)

/-- CHAIN_SEND (R314, R329): the flash is read from the primary chain image, or from the selvedge one. -/
def chainSendEffect (v : Nat) : Effect := fun s =>
  if s.loaderFree && s.chainPos = 0 && s.bootSrc = 0 && s.ld.chainImage then
    (.ok, State.emit { s with ld := { s.ld with sending := some (bits v 39 32, v.testBit 25) } }
      (.flashRead (s.rd 0x3000 (if v.testBit 25 then 0xB else 0xA))))
  else (.stateConflict, s)

/-- What the loader does on its own: it leaves FALLBACK (R316), and a HOST stream that found no free tag of its link asks again once it
holds none (R262; log 163). -/
def State.loaderRetry (s0 : State) : State :=
  let s := s0.leaveFallback
  let x := s.ld
  if x.source = 1 && (x.lstate = .header || x.lstate = .frames) && s.cfgRuns && x.buf.isEmpty
      && !s.links.any (fun y => y.2.asks.any (fun a => a.2 = .loader)) then s.loaderAsk
  else s

/-- The loader takes bytes that a port or the chain has delivered; from FLASH it reads on its own. -/
def Loader.buffered (x : Loader) : Bool := x.source ≠ 0 || x.boot && x.chainImage

/-- Whether the loader waits at a record boundary, so that ABORTED is acted on at once (R323). -/
def Loader.waits (x : Loader) : Bool :=
  x.lstate = .verify || x.lstate = .fallback || (if x.buffered then x.buf.isEmpty else x.preamble)

/-- A load in progress is ended ABORTED (R323): at once while the loader waits, else at the next record boundary. No
further attempt is made. -/
def State.abortLoad (s : State) : State :=
  let s1 := { s with ld := { s.ld with stop := true } }
  if s.ld.waits then s1.endLoad 0x89 else { s1 with ld := { s1.ld with abort := true } }

/-- ABORT (R314, R323). -/
def loaderAbortEffect : Effect := fun s =>
  match s.ld.lstate with
  | .header | .frames | .verify | .fallback => (.ok, s.abortLoad)
  | _ => (.stateConflict, s)

/-- The effect of a LOADER_COMMAND value (R314). -/
def loaderEffect (src : Source) (v : Nat) : Effect :=
  match bits v 31 28 with
  | 1 => loadEffect src v
  | 2 => loaderAbortEffect
  | 3 => bootLoadEffect src v
  | _ => chainSendEffect v

/-- A value with its OP field replaced. -/
def withOp (v op : Nat) : Nat := 2 ^ 32 * (v / 2 ^ 32) + 2 ^ 28 * op + v % 2 ^ 28

/-- A LOADER_COMMAND write (R314). -/
def State.loaderWrite (s : State) (src : Source) (v : Nat) : State :=
  s.command src 0x3000 1 10 (leBytes 16 v) [] true (loaderFits v) (loaderEffect src v)

/-- LOADER_LOAD (R314). -/
def execLoaderLoad (src : Source) (value : Nat) (s : State) : Host.Outcome State Fault Refusal :=
  .next (s.loaderWrite src (withOp value 1))

/-- LOADER_ABORT (R323). -/
def execLoaderAbort (src : Source) (s : State) : Host.Outcome State Fault Refusal :=
  .next (s.loaderWrite src (withOp 0 2))

/-- LOADER_BOOT_LOAD (R324). -/
def execLoaderBootLoad (src : Source) (s : State) : Host.Outcome State Fault Refusal :=
  .next (s.loaderWrite src (withOp 0 3))

/-- LOADER_CHAIN_SEND (R329). -/
def execLoaderChainSend (src : Source) (value : Nat) (s : State) : Host.Outcome State Fault Refusal :=
  .next (s.loaderWrite src (withOp value 4))

/-- A boot load starts on its own at entry to MANAGED (R324). -/
def State.autoload (s : State) : State :=
  if s.autoloadStrap && s.bootSrc < 2 && s.allEmpty && s.loaderFree then
    s.startLoad ⟨0x23, 0⟩ (withOp 0 3) true s.bootSource
  else s

/-- The flash boot header (R312): its CRC-32C and MAGIC are right. -/
def bootHeaderGood (h : List Byte) : Bool :=
  leValue (h.take 4) = 0x4D354248 && leValue (slice h 28 4) = crc32c (h.take 28)

/-- What the boot header gives (R312): offsets and CHAIN, or the defaults with HEADER_DEFAULTED and one event. A boot load from a
chain image forwards the envelopes of every other position, in its first attempt (R329). -/
def State.takeBootHeader (s : State) (h : List Byte) : State :=
  if bootHeaderGood h then
    ((State.wr { s with ld := { s.ld with
        chainImage := (leValue h).testBit 96, defaulted := false
        sending := if s.ld.boot && (leValue h).testBit 96 then some (0xFE, false) else s.ld.sending } } 0x3000 0xA
      (leValue (slice h 4 4))).wr 0x3000 0xB (leValue (slice h 8 4)))
  else
    (((State.wr { s with ld := { s.ld with chainImage := false, defaulted := true } } 0x3000 0xA 0x1000).wr 0x3000 0xB
      0x0F000000).event 0x05 0x06 0)

/-- FLASH_PREAMBLE_DONE (R312): the boot header is taken; a flash with no 8D-8D-8D mode fails the load, and every
attempt of a boot load, with SOURCE_ERROR. -/
def execFlashPreambleDone (header : List Byte) (ok : Bool) (s : State) : Host.Outcome State Fault Refusal :=
  if s.ld.preamble && s.cfgRuns && 32 ≤ header.length then
    let s1 := s.takeBootHeader header
    let s2 := { s1 with ld := { s1.ld with preamble := false, preambleBad := !ok } }
    .next (if ok then s2.flashFrom (if s.ld.boot then s2.rd 0x3000 0xA else s.ld.addr) else s2.endLoad 0x88)
  else .next s

/-- Whether the bytes stand next in the stream: any from FLASH, those delivered from a port or the chain. -/
def Loader.offers (x : Loader) (l : List Byte) : Bool := !x.buffered || x.buf.take l.length = l

/-- Take bytes of the stream (STREAM_BYTES). -/
def State.takeBytes (s : State) (l : List Byte) : State :=
  State.count64 { s with ld := { s.ld with buf := if s.ld.buffered then s.ld.buf.drop l.length else [] } } 0x3000 6 l.length

/-- Panels of a PANEL_SET. -/
def setSize (m : Nat) : Nat := popCount 32 m

/-- The header checks of R317 in their order: 0 when every one passes, else the RESULT. -/
def State.headerResult (s : State) (h : List Byte) : Nat :=
  let v := leValue h
  let count := bits v 191 160
  let set := bits v 127 96
  let signed := v.testBit 137
  let full := v.testBit 136
  let slot := bits v 130 128
  let ps := members 32 set
  if v % 2 ^ 32 ≠ 0x4D354C43 || bits v 47 32 ≠ 1 || bits v 511 480 ≠ crc32c (h.take 60) then 0x85
  else if bits v 63 48 ≠ 0x4D05 || !(bits v 95 64).testBit (s.rd 0x1000 3) then 0x80
  else if s.lifecycle = 0 || 5 ≤ s.lifecycle || s.lifecycle = 3 && !signed then 0x51
  else if 4000 * setSize set < count then 0x34
  else if count = 0 || count ≠ 4000 * setSize set || set = 0 || full && set ≠ 2 ^ 32 - 1 || s.ld.boot && !full
      || bits v 255 192 ≠ 64 + 524 * count + 40 + (if signed then 72 else 0)
      || bits v 479 256 ≠ 0 || bits v 159 138 ≠ 0 || bits v 135 131 ≠ 0 then 0x33
  else if ps.any (fun p => decide ((s.panel p).pstate = .test)) then 0x42
  else if ps.any (fun p => !decide ((s.panel p).slot slot = .invalid) && !decide ((s.panel p).slot slot = .valid)) then 0x41
  else 0

/-- An accepted header makes the target slot LOADING and an EMPTY panel LOADING (R318). -/
def Panel.takeLoad (x : Panel) (k : Nat) : Panel :=
  let y := { (x.setSlot k .loading).setStore k [] with
    frames := Tab.keep (fun a => decide (a / 4096 ≠ k)) x.frames }
  if x.pstate = .empty then { y with pstate := .loading } else y

/-- One panel of the set takes the load (R318, R91): a VALID slot's digest becomes zero; a stage of it is abandoned and a
switch that waits on it is cancelled. -/
def State.takeLoad (s : State) (k p : Nat) : State :=
  let x := s.panel p
  let s1 := if x.slot k = .valid then (s.cancelSwitchTo p k).digestChange else s
  let y := s1.panel p
  let drops := match y.staging with
    | some g => decide (g.1 = k)
    | none => false
  s1.setPanel p ({ y with staging := if drops then none else y.staging }.takeLoad k)

/-- The header is accepted (R318). -/
def State.acceptHeader (s : State) (h : List Byte) : State :=
  let v := leValue h
  let set := bits v 127 96
  let slot := bits v 130 128
  let s1 := (members 32 set).foldl (fun (t : State) p => t.takeLoad slot p) s
  let s2 := State.wr { s1 with ld := { s1.ld with
    lstate := .frames, set := set, slot := slot, count := bits v 191 160, signed := v.testBit 137
    length := bits v 255 192, hash := Hash.start.add h } } 0x3000 3 set
  if s2.ld.source = 1 then s2.loaderAsk
  else if s2.ld.buffered && s2.ld.asked = 1 && 64 + s2.ld.buf.length < bits v 255 192 then s2.endLoad 0x81
  else s2

/-- A refused header is journalled with its RESULT as STATUS (R317). -/
def State.headerRefused (s : State) (result : Nat) : State :=
  (s.journalInternal ⟨0x3000, 1, result, s.ld.asker, 10, none, leBytes 16 s.ld.cmd⟩).endLoad result

/-- LOAD_HEADER (R317): a header taken whole is checked. -/
def execLoadHeader (header : List Byte) (s0 : State) : Host.Outcome State Fault Refusal :=
  let s := s0.leaveFallback
  let x := s.ld
  let h := header.take 64
  if x.lstate = .header && !x.preamble && s.cfgRuns && h.length = 64 && x.offers h then
    let s1 := s.takeBytes h
    if x.abort then .next (s1.endLoad 0x89)
    else if s1.headerResult h = 0 then .next (s1.acceptHeader h)
    else .next (s1.headerRefused (s1.headerResult h))
  else .next s

/-- Bytes of a record by its TYPE (R310). -/
def recordSize (ty : Nat) : Nat := if ty = 0x46 then 524 else if ty = 0x45 then 40 else if ty = 0x53 then 72 else 8

/-- A record fails: its record word is kept and the load ends (R319). -/
def State.recordFails (s : State) (w result : Nat) : State := (s.wr 0x3000 5 w).endLoad result

/-- The panel of a frame address (R309). -/
def framePanel (w : Nat) : Nat := bits w 13 9 / 8 * 4 + bits w 19 14 / 10 + (if w.testBit 20 then 16 else 0)

/-- The local tile of a frame address. -/
def frameTile (w : Nat) : Nat := bits w 13 9 % 8 * 10 + bits w 19 14 % 10

/-- The result of a frame record's checks 2 to 5 (R319); 0 when it passes. -/
def State.frameResult (s : State) (l : List Byte) : Nat :=
  let w := leValue (l.take 8)
  if leValue (slice l 520 4) ≠ crc32c (l.take 520) || s.sramMarked 2 then 0x83
  else if 39 < bits w 19 14 || 49 < bits w 8 3 || bits w 55 21 ≠ 0 then 0x84
  else if !s.ld.set.testBit (framePanel w) || w % 8 ≠ s.ld.slot then 0x82
  else if Tab.look (fun _ => false) s.ld.written (4096 * framePanel w + frameTile w * 50 + bits w 8 3) then 0x84
  else 0

/-- A frame record (R319). -/
def State.takeFrame (s : State) (l : List Byte) : State :=
  let w := leValue (l.take 8)
  match s.frameResult l with
  | 0 =>
    let p := framePanel w
    let s1 := s.setPanel p ((s.panel p).setFrame s.ld.slot (frameTile w) (bits w 8 3) (leValue (slice l 8 512)))
    { s1 with ld := { s1.ld with
        frames := s1.ld.frames + 1
        written := Tab.put (fun _ => false) s1.ld.written (4096 * p + frameTile w * 50 + bits w 8 3) true
        hash := s1.ld.hash.add l } }
  | r => (s.sramTaken 2).recordFails w r

/-- The end record after FRAME_COUNT frames (R316): to VERIFY, or to wait for the signature record. -/
def State.takeEnd (s : State) (l : List Byte) : State :=
  let w := leValue (l.take 8)
  if w % 2 ^ 56 ≠ 0 then s.recordFails w 0x84
  else
    { s with ld := { s.ld with
        ended := some (slice l 8 32), hash := s.ld.hash.add (l.take 8)
        lstate := if s.ld.signed then .frames else .verify } }

/-- The signature record (R316). -/
def State.takeSignature (s : State) (l : List Byte) : State :=
  let w := leValue (l.take 8)
  if bits w 55 8 ≠ 0 then s.recordFails w 0x84
  else { s with ld := { s.ld with sigRec := l, lstate := .verify } }

/-- A record in FRAMES (R319): one whose TYPE may not stand at its place is judged on its record word alone. -/
def State.takeRecord (s : State) (r : List Byte) : State :=
  let x := s.ld
  let w := leValue (r.take 8)
  let ty := bits w 63 56
  let early := x.ended.isNone && ty = 0x45 && x.frames < x.count
  let legal := if x.ended.isSome then ty = 0x53 else ty = 0x46 || ty = 0x45 && !early
  let n := if legal then recordSize ty else 8
  let l := r.take n
  if x.lstate = .frames && s.cfgRuns && l.length = n && x.offers l then
    let s1 := s.takeBytes l
    if x.abort then s1.endLoad 0x89
    else if early then s1.recordFails w 0x81
    else if !legal then s1.recordFails w 0x84
    else if ty = 0x46 then s1.takeFrame l
    else if ty = 0x45 then s1.takeEnd l
    else s1.takeSignature l
  else s

/-- LOAD_FRAME_RECORD (R319). -/
def execLoadFrameRecord (record : List Byte) (s : State) : Host.Outcome State Fault Refusal := .next (s.takeRecord record)

/-- LOAD_END_RECORD (R316). -/
def execLoadEndRecord (record : List Byte) (s : State) : Host.Outcome State Fault Refusal := .next (s.takeRecord record)

/-- LOAD_SIGNATURE_RECORD (R316). -/
def execLoadSignatureRecord (record : List Byte) (s : State) : Host.Outcome State Fault Refusal :=
  .next (s.takeRecord record)

/-- Whether the signature record verifies under a key in force (R310, R320, R385). -/
def State.signatureGood (s : State) : Bool :=
  let k := (leValue (s.ld.sigRec.take 8)) % 256
  let key := Tab.look (fun _ => []) s.bsKeys k
  k < 4 && key.length = 64 && ecdsaVerify key s.ld.hash.digest (s.ld.sigRec.drop 8)

/-- The RESULT of VERIFY (R320); a verification that the security engine ends with INTERNAL is a bad signature (R141; log 11). -/
def State.verifyResult (s : State) (crcFail : Bool) : Nat :=
  if s.ld.ended ≠ some s.ld.hash.digest then 0x86
  else if s.ld.signed && (s.sramMarked 5 || !s.signatureGood) then 0x87
  else if crcFail then 0x83
  else 0

/-- The target slot of a panel becomes VALID with its flip-flop store filled from the INIT bits (R320, R70); activation
follows in a panel with no ACTIVE slot. -/
def State.validSlot (s : State) (k p : Nat) : State :=
  let x := ((s.panel p).setSlot k .valid).setStore k ((s.panel p).initImage k)
  s.setPanel p (if (x.slotIn .active).isNone && x.pstate ≠ .test then x.startStage k .activation else x)

/-- The load ends OK (R320, R324). -/
def State.loadDone (s : State) : State :=
  let x := s.ld
  let s1 := (members 32 x.set).foldl (fun (t : State) p => t.validSlot x.slot p) s
  let golden := x.boot && x.attempt = 3
  let s2 := { s1 with ld := { s1.ld with
    lstate := .done, result := 0, set := 0, selvedge := if x.boot then golden else x.selvedge, buf := [], ended := none } }
  let s3 := ((s2.digestChange.bump 0x3000 7 1).event 0x05 0x01 (x.inst 0))
  if golden then s3.bump 0x3000 9 1 else s3

/-- LOAD_VERIFY_DONE (R320): `crcFail` says that a stored frame failed its CRC as the slot was read back. -/
def execLoadVerifyDone (crcFail : Bool) (s : State) : Host.Outcome State Fault Refusal :=
  if s.ld.lstate = .verify && s.cfgRuns then
    match s.verifyResult crcFail with
    | 0 => .next s.loadDone
    | r => .next ((if s.ld.signed && r = 0x87 then s.sramTaken 5 else s).endLoad r)
  else .next s

/-- LOAD_TIMEOUT (R322): a CHAIN source does not time out before its first segment. -/
def execLoadTimeout (s : State) : Host.Outcome State Fault Refusal :=
  let x := s.ld
  if (x.lstate = .header || x.lstate = .frames) && !x.preamble && s.cfgRuns && (x.source ≠ 2 || x.begun) then
    .next (s.endLoad 0x81)
  else .next s

/-- POS, FIRST, LAST, LENGTH and SEG_SEQ of an envelope (R327). -/
def envPos (d : List Byte) : Nat := bits (leValue (d.take 12)) 63 61
/-- FIRST. -/
def envFirst (d : List Byte) : Bool := (leValue (d.take 12)).testBit 60
/-- LAST. -/
def envLast (d : List Byte) : Bool := (leValue (d.take 12)).testBit 59
/-- LENGTH. -/
def envLen (d : List Byte) : Nat := bits (leValue (d.take 12)) 32 16
/-- SEG_SEQ. -/
def envSeq (d : List Byte) : Nat := leValue (d.take 12) % 2 ^ 16

/-- The cause an envelope that the loader takes is refused for (R328, R334): 1 CRC, 2 SEG_SEQ, 3 FIRST missing. -/
def Loader.envCause (x : Loader) (d : List Byte) : Nat :=
  let n := envLen d
  if d.length ≠ n + 16 || n = 0 || 65536 < n || leValue (slice d (n + 12) 4) ≠ crc32c (d.take (n + 12)) then 1
  else if !x.begun && !envFirst d then 3
  else if envSeq d ≠ x.nextSeq then 2
  else 0

/-- The loader takes an envelope's payload (R328): the last one of a stream that holds too few bytes ends it INCOMPLETE
(R322). `asked` of a chain stream notes that its last segment was taken. -/
def State.takeEnvelope (s : State) (d : List Byte) : State :=
  let x := s.ld
  match x.envCause d with
  | 0 =>
    let buf := x.buf ++ slice d 12 (envLen d)
    let s1 := { s with ld := { x with
      buf := buf, nextSeq := (x.nextSeq + 1) % 65536, begun := true, asked := flag (envLast d) } }
    let short := if x.length = 0 then decide (buf.length < 64) else decide (s.rd 0x3000 6 + buf.length < x.length)
    if envLast d && short then s1.endLoad 0x81 else s1
  | c => (s.event 0x05 0x05 (256 * envPos d + c)).endLoad 0x88

/-- The loader waits for envelopes of its own position (R328, R329). -/
def State.chainWaits (s : State) : Bool :=
  (s.ld.lstate = .header || s.ld.lstate = .frames) && !s.ld.preamble
    && (s.ld.source = 2 || s.chainPos = 0 && s.ld.boot && s.ld.chainImage)

/-- SYNC of an envelope matches (R327). -/
def envSync (d : List Byte) : Bool := bits (leValue (d.take 12)) 95 64 = 0xE7A15C3D

/-- The positions whose streams are sent from the flash now (R314, R329). -/
def Loader.sends (x : Loader) (pos : Nat) : Bool :=
  match x.sending with
  | some (mask, _) => mask.testBit pos
  | none => false

/-- An envelope that position 0 reads from its flash (R328, R329): a CHAIN_SEND sends the streams of its mask; a boot load
takes its own and, in its first attempt, forwards the rest, after its own stream has ended too; an envelope of its own with no load
waiting is counted; the image ends where SYNC does not match. -/
def State.flashEnvelope (s : State) (d : List Byte) : State :=
  if !envSync d then { s with ld := { s.ld with sending := none, imageEnd := true } }
  else if s.ld.sends (envPos d) then s.emit (.chain d)
  else if envPos d ≠ 0 then s
  else if !s.chainWaits then s.bump 0x3000 0xD 1
  else if s.ld.imageEnd then s
  else s.takeEnvelope d

/-- CHAIN_ENVELOPE (R328): forwarded, passed to the loader, or discarded and counted, by its POS. -/
def execChainEnvelope (data : List Byte) (s0 : State) : Host.Outcome State Fault Refusal :=
  let s := s0.leaveFallback
  if 12 ≤ data.length && s.cfgRuns && (s.dev.state = .managed || s.dev.state = .operational) then
    if s.chainPos = 0 then .next (s.flashEnvelope data)
    else if !envSync data then .next s
    else if s.chainPos < envPos data then .next (s.emit (.chain data))
    else if s.chainPos = envPos data ∧ s.chainWaits then .next (s.takeEnvelope data)
    else .next (s.bump 0x3000 0xD 1)
  else .next s

/-- Every LOADING slot of a panel becomes INVALID, its frames discarded, and a LOADING panel EMPTY (R323). -/
def State.stopLoading (s : State) (p : Nat) : State :=
  let x := s.panel p
  let gone := x.slotsIn .loading
  if gone.isEmpty && x.pstate ≠ .loading then s
  else
    let y := gone.foldl (fun (z : Panel) k => z.setSlot k .invalid) x
    s.setPanel p { y with
      frames := Tab.keep (fun a => !gone.contains (a / 4096)) x.frames
      pstate := if x.pstate = .loading then .empty else x.pstate }

/-- A load in progress is stopped by BASE_WARM reset (R323): LOADING slots INVALID, LOADING panels EMPTY, no record. -/
def State.stopLoad (s : State) : State :=
  { (List.range 32).foldl State.stopLoading s with ld := Loader.init }

/-- At entry to FAULT a load in progress freezes (R323): the reads that it waits for are not answered. -/
def State.freezeLoad (s : State) : State :=
  { s with links := s.links.map (fun x => (x.1, { x.2 with asks := x.2.asks.filter (fun a => a.2 ≠ .loader) })) }

/-- The codes of R315. -/
def LoadState.code : LoadState → Nat
  | .idle => 0 | .header => 1 | .frames => 2 | .verify => 3 | .done => 4 | .failed => 5 | .fallback => 6

/-- LOADER_STATUS (R336). -/
def Loader.status (x : Loader) : Nat :=
  x.frames + 2 ^ 39 * x.slot + 2 ^ 42 * flag x.defaulted + 2 ^ 43 * flag x.selvedge + 2 ^ 44 * x.source
    + 2 ^ 46 * x.attempt + 2 ^ 48 * flag x.boot + 2 ^ 49 * x.lstate.code + 2 ^ 56 * x.result

end Sys2Proof.Machine
end

