-- ==== Sys2Proof/Machine/Lanes.lean ====
section
/-! DEFINITION. Serial lanes (spec/09) with the training frames and markers of the Lace link (R281–R284): states, timeouts,
equalization, marker lock, link formation, loopback and eye measurement; and the loss of a link (R276, R300), which every
fall of a lane out of its link causes. -/

namespace Sys2Proof.Machine

/-- Lane `k`. -/
def State.lane (s : State) (k : Nat) : Lane := Tab.look (fun _ => Lane.init) s.lanes k

/-- Store lane `k`. -/
def State.setLane (s : State) (k : Nat) (x : Lane) : State :=
  { s with lanes := Tab.put (fun _ => Lane.init) s.lanes k x }

/-- ENABLE of a port (R255). -/
def State.portEnabled (s : State) (p : Nat) : Bool := (s.rd 0x5100 p).testBit 24

/-- The lanes at which links of a port begin (R255). -/
def State.linkStarts (s : State) (p : Nat) : List Nat :=
  (members 16 (s.rd 0x5100 p)).map (fun i => 16 * p + i)

/-- Whether a link begins at a lane (R278). -/
def State.beginsLink (s : State) (k : Nat) : Bool := (s.rd 0x5100 (portOf k)).testBit (k % 16)

/-- The first lane of the link a lane is in (R256). -/
def State.linkOfLane (s : State) (k : Nat) : Nat :=
  (((s.linkStarts (portOf k)).filter (fun l => l ≤ k)).getLast?).getD (16 * portOf k)

/-- The configured width of the link that begins at a lane (R256). -/
def State.linkWidth (s : State) (l : Nat) : Nat :=
  (((s.linkStarts (portOf l)).filter (fun k => l < k)).headD (16 * portOf l + 16)) - l

/-- The lanes of the link that begins at a lane. -/
def State.linkLanes (s : State) (l : Nat) : List Nat := (List.range (s.linkWidth l)).map (fun i => l + i)

/-- MAX_RATE of a port (R255). -/
def State.maxRate (s : State) (p : Nat) : Nat := bits (s.rd 0x5100 p) 23 20

/-- DISABLE of LANE_CONTROL (R254). -/
def State.laneOff (s : State) (k : Nat) : Bool := (s.rd 0x5001 k).testBit 15

/-- A lane owned by self-test (R246). -/
def State.testOwned (s : State) (k : Nat) : Bool := s.testLanes.contains k

/-- Lanes train in these device states (R232, R236): as their ports are configured, and those of the boot function in
AWAIT_FW. -/
def State.lanesLive (s : State) (k : Nat) : Bool :=
  !s.dev.held &&
  match s.dev.state with
  | .managed | .operational | .quiescing => true
  | .awaitFw => s.bootFn && portOf k = 0
  | _ => false

/-- A lane's number within its link as the standard counts it (R230). -/
def State.standardNumber (s : State) (k : Nat) : Nat :=
  let l := s.linkOfLane k
  if (s.link l).flipped then s.linkWidth l - 1 - (k - l) else k - l

/-- In PCIe and CXL modes a lane is DISABLED while its LTSSM is, and outside the configured link (R235). -/
def State.standardOff (s : State) (k : Nat) : Bool :=
  let x := s.link (s.linkOfLane k)
  !s.isLace k && (x.ltssm = 10 || x.configured ≠ 0 && x.configured ≤ s.standardNumber k)

/-- Whether a lane may be in DETECT (R232, R235): its link is enabled and nothing holds it DISABLED. A DISABLED lane does not begin
in QUIESCING, as the first row asks for MANAGED or OPERATIONAL. -/
def State.mayDetect (s : State) (k : Nat) : Bool :=
  s.portEnabled (portOf k) && !s.laneOff k && !(s.lane k).givenUp && !s.testOwned k && s.lanesLive k && !s.standardOff k
    && ((s.lane k).lstate ≠ .disabled || s.dev.state ≠ .quiescing)

/-- A lane runs a test of its own (R246) or of self-test: no training of its link moves it. -/
def State.laneTested (s : State) (k : Nat) : Bool :=
  (s.lane k).lstate = .loopback && (s.testOwned k || (s.rd 0x500A k).testBit 31)

/-- A lane in DETECT (R232, R241): settings and what training found are dropped. -/
def Lane.detect (x : Lane) : Lane :=
  { Lane.init with
    lstate := .detect, txPower := 0, rxPower := 0, dropped := x.dropped, givenUp := x.givenUp, failRun := x.failRun }

/-- A lane that is DISABLED. -/
def Lane.disable (x : Lane) : Lane :=
  { Lane.init with dropped := x.dropped, givenUp := x.givenUp, failRun := x.failRun }

/-- A lane returns to DETECT, or to DISABLED where the first row of R232 does not hold. -/
def State.laneToDetect (s : State) (k : Nat) : State :=
  s.setLane k (if s.mayDetect k then (s.lane k).detect else (s.lane k).disable)

/-- A lane's training has failed (R233): FAIL_RUN and TRAIN_FAIL_COUNT rise; at 8 it is given up. -/
def State.laneFailed (s : State) (k : Nat) : State :=
  let x := s.lane k
  let s1 := (s.setLane k { x with failRun := x.failRun + 1 }).bump 0x5008 k 1
  if x.failRun + 1 = 8 then
    (s1.setLane k { x.disable with failRun := 8, givenUp := true }).event 0x09 0x04 k
  else s1

/-- A nonzero nonce from the TRNG (R283): a free value (log 16). A TRNG that failed its health test gives none (R379): the link has
nonce 0, which no lane leaves TRAIN with (log 175). -/
def State.drawNonce (s : State) (l : Nat) : State :=
  if s.sec.trngBad then s.setLace l { (s.link l).lace with nonce := 0, peerNonce := 0 }
  else (s.setLace l { (s.link l).lace with nonce := s.freeNow % 65535 + 1, peerNonce := 0 }).drawn

/-- Every lane of a link is in DETECT: a new nonce is drawn, the marker schedule ends, dropped lanes rejoin (R281, R283,
R234). -/
def State.linkInDetect (s : State) (l : Nat) : State :=
  if s.isLace l && (s.linkLanes l).all (fun k => (s.lane k).lstate = .detect || (s.lane k).lstate = .disabled) then
    let s1 := (s.linkLanes l).foldl (fun (t : State) k =>
      if (t.lane k).dropped then t.laneToDetect k else t) s
    let s2 := s1.setLace l { (s1.link l).lace with scheduled := false }
    s2.drawNonce l
  else s

/-- The requester of a lost non-posted request (R276): a mover halts with PORT_ERROR; a ROOT_CFG_DATA read returns all
ones with status Completion Timeout; a shim's completion is never delivered. -/
def State.settleAsk (s : State) (who : Asker) : State :=
  match who with
  | .mover m => s.moverAnswered m 7 []
  | .rootCfg src write _ =>
    let s1 := s.wr 0x5120 3 (Config.timeoutStatus % 256)
    if write then s1 else s1.giveValue src 0x5120 2 4 (leBytes 4 0xFFFFFFFF)
  | .shim _ => s
  | .loader => s.loaderAnswered 7 []

/-- Whether the key store holds a key of a link (R387). -/
def State.linkKeys (s : State) (l : Nat) : Bool := s.ideKeys.any (fun k => k.1 / 32 = l)

/-- A link's keys are zeroized (R387): one IDE_KEYS_ZEROIZED event with cause 1. -/
def State.zeroizeLink (s : State) (l : Nat) : State :=
  State.event { s with ideKeys := Tab.keep (fun k => decide (k / 32 ≠ l)) s.ideKeys } 0x11 0x04 (0x100 + l)

/-- A request from a lost link keeps its place, and its completion is discarded (R276): its answer goes to no link. -/
def BaseReq.orphan (l : Nat) (r : BaseReq) : BaseReq := if r.link = l then { r with link := 4096 } else r

/-- A dequeue by a read of DEQ_VALUE on a lost link: it is performed, and its completion discarded (R276). -/
def Deq.orphan (l : Nat) (d : Deq) : Deq := if d.kind = 0 && d.who = l then { d with who := 4096 } else d

/-- A queue whose reads of DEQ_VALUE on a lost link are orphaned. -/
def Queue.orphan (l : Nat) (x : Queue) : Queue :=
  { x with deq := x.deq.map (Deq.orphan l), waiting := x.waiting.map (Deq.orphan l) }

/-- The link from which a row that is held back comes (log 146). -/
def heldLink (c : Instr) : Option Nat :=
  match c with
  | .barRequest link _ _ _ _ _ _ _ _ => some link
  | .enqValue link _ _ => some link
  | .enqBuffer link _ _ _ => some link
  | .deqValue link _ _ _ => some link
  | .deqBuffer link _ _ _ => some link
  | .queueSetupApply link _ => some link
  | .moverSkip link _ => some link
  | _ => none

/-- What a lost link still has in the device (R276): requests passed to their target are performed and their answers go to no link;
requests that wait for their target, and packets that the shim holds, are discarded; the registers of its functions are reset. -/
def State.dropHeld (s : State) (l : Nat) : State :=
  let x := s.shim (portOf l)
  let f := { x with rx := x.rx.filter (fun k => k.link ≠ l), tx := x.tx.filter (fun k => k.link ≠ l) }
  { s with
    qm := { s.qm with queues := s.qm.queues.map (fun c => (c.1, c.2.orphan l)) }
    dir := { s.dir with txns := s.dir.txns.map (fun t => if t.link = l && t.cls < 8 then { t with link := 4096 } else t) }
    hdm := Tab.keep (fun k => decide (k / 32 ≠ l)) s.hdm
    ras := Tab.keep (fun k => decide (k ≠ l)) s.ras
    block := Tab.keep (fun k => decide (k / 2 ^ 17 ≠ l)) s.block
    mem := { s.mem with
      hostReads := s.mem.hostReads.filter (fun h => h.link ≠ l)
      channel := s.mem.channel.map (fun c => (c.1, c.2.map (BaseReq.orphan l)))
      atBank := s.mem.atBank.map (fun c => (c.1, c.2.map (BaseReq.orphan l))) }
    shims := Tab.put (fun _ => Shim.init) s.shims (portOf l) f
    errLog := s.errLog.filter (fun e => e.link ≠ l)
    stalled := s.stalled.filter (fun c => heldLink c.2 ≠ some l)
    cfg := Tab.keep (fun k => decide (k / 8192 ≠ l)) s.cfg }

/-- A link's transactions are settled as it is lost (R276, R300): its requests are answered, what it holds is discarded,
its IDE streams are Insecure, its Lace state is dropped. One LINK_DOWN event. -/
def State.loseLink (s : State) (l : Nat) : State :=
  let x := s.link l
  if x.active || x.lace.retraining then
    let s1 := State.dropHeld (s.setLink l { Link.down with lace := { Lace.init with nonce := x.lace.nonce } }) l
    let s2 := (x.asks.foldl (fun (t : State) a => t.settleAsk a.2) s1).event 0x0A 0x02 l
    if s.linkKeys l then s2.zeroizeLink l else s2
  else s.setLink l Link.down

/-- Every lane of a link falls back to DETECT or DISABLED (R232, R250, R300), but for one that runs a test. -/
def State.linkToDetect (s : State) (l : Nat) : State :=
  ((s.linkLanes l).foldl (fun (t : State) k => if t.laneTested k then t else t.laneToDetect k) (s.loseLink l)).linkInDetect l

/-- TRAIN_DONE of an EQ_REQUEST (R238). -/
def eqDone (v : Nat) : Bool := v.testBit 15

/-- The training frames' preset taps (R237): C_PRE2, C_PRE1, C_POST1. -/
def presetTaps (p : Nat) : Int × Int × Int :=
  match p with
  | 0 => (0, 0, 0)
  | 1 => (0, -4, -8)
  | 2 => (0, -6, -12)
  | 3 => (0, -8, -4)
  | 4 => (-2, -8, -8)
  | 5 => (-2, -10, -12)
  | 6 => (-4, -12, -16)
  | _ => (0, 0, -16)

/-- A preset is put in force. -/
def Lane.preset (x : Lane) (p : Nat) : Lane :=
  { x with pre2 := (presetTaps p).1, pre1 := (presetTaps p).2.1, post1 := (presetTaps p).2.2 }

/-- A lane sends PAM4 levels (R229, R230): precoded at 112 Gb/s, its pair inverted where TX_INVERT is set. -/
def State.sendLevels (s : State) (k : Nat) (l : List Nat) : State :=
  let x := s.lane k
  let out := lineLevels x.rate x.level l
  (s.setLane k { x with level := out.2 }).emit (.levels k (mirror ((s.rd 0x5001 k).testBit 13) out.1))

/-- A lane in its rate phase announces the change of rate once the link rate is taken and above 32 Gb/s (R284). -/
def Lane.switching (x : Lane) : Bool := !x.equalizing && 8 < x.linkRate

/-- A lane has ended equalization at both ends, but for its 16 further frames (R241). -/
def Lane.trained (x : Lane) : Bool := eqDone x.request && 3 ≤ x.doneSeen

/-- The frame that a lane in TRAIN sends next (R282, R284): it goes on with the pattern's sequence, and counts where it is a switch frame
or one of the 16 further frames with TRAIN_DONE (R241). -/
def State.sendFrame (s : State) (k : Nat) : State :=
  let x := s.lane k
  let l := s.linkOfLane k
  let v := prbsBits 368 0 x.prbs
  let y := { x with
    prbs := v.2, switches := x.switches + flag x.switching, doneSent := if x.trained then x.doneSent + 1 else 0 }
  State.sendLevels (s.setLane k y) k
    (bitLevels 512 (trainingFrame (k - l) (s.maxRate (portOf k)) (if x.switching then x.linkRate else x.rate) x.switching
      (s.link l).lace.nonce x.request x.status v.1))

/-- RECEIVER_DETECT (R232, R284): a lane in DETECT finds a receiver and enters TRAIN at 32 Gb/s with preset P1. Where its pattern's sequence
starts is a free value (log 165). -/
def execReceiverDetect (lane : Nat) (s : State) : Host.Outcome State Fault Refusal :=
  let x := s.lane lane
  if x.lstate = .detect ∧ s.isLace lane ∧ s.lanesLive lane then
    .next (s.setLane lane ({ x with lstate := .train, rate := 8, prbs := s.freeNow % 8191 + 1 }.preset 1)).drawn
  else .next s

/-- The part of an EQ_REQUEST that asks for something: INIT with its preset, or the tap fields (R238). -/
def eqAsk (v : Nat) : Nat := if v.testBit 14 then 2 ^ 14 + 2 ^ 11 * bits v 13 11 else bits v 9 4 * 2 ^ 4

/-- One tap under a request field (R240): its new value and its status. -/
def tapStep (v lo hi : Int) (f : Nat) : Int × Nat :=
  match f with
  | 1 => if v < hi then (v + 1, 1) else (v, 3)
  | 2 => if lo < v then (v - 1, 1) else (v, 2)
  | _ => (v, 0)

/-- Whether a request holds a reserved tap field (R240). -/
def eqReserved (v : Nat) : Bool := !v.testBit 14 && (bits v 9 8 = 3 || bits v 7 6 = 3 || bits v 5 4 = 3)

/-- A request is applied to the transmitter and answered (R240 step 2). -/
def Lane.serve (x : Lane) (v : Nat) : Lane :=
  if v.testBit 14 then { x.preset (bits v 13 11) with status := 2 ^ 12, serving := eqAsk v }
  else
    let a := tapStep x.post1 (-16) 0 (bits v 9 8)
    let b := tapStep x.pre1 (-16) 0 (bits v 7 6)
    let c := tapStep x.pre2 (-6) 6 (bits v 5 4)
    { x with post1 := a.1, pre1 := b.1, pre2 := c.1, status := 2 ^ 8 * a.2 + b.2 * 2 ^ 6 + c.2 * 2 ^ 4, serving := eqAsk v }

/-- A received EQ_REQUEST (R240): applied when none is being answered; HOLD ends an answer; one that changes before that
is ignored and counts once, as does one with a reserved tap field. -/
def State.takeRequest (s : State) (k v : Nat) : State :=
  let x := s.lane k
  let a := eqAsk v
  if a = 0 then s.setLane k { x with serving := 0, status := 0, strange := 0 }
  else if x.serving = 0 then
    let s1 := s.setLane k (x.serve v)
    if eqReserved v then s1.bump 0x5009 k 1 else s1
  else if x.serving = a || x.strange = a then s
  else (s.setLane k { x with strange := a }).bump 0x5009 k 1

/-- A received EQ_STATUS (R240 steps 3 and 4): an answer returns the request to HOLD; NOT_UPDATED after it allows the
next. -/
def Lane.takeAnswer (x : Lane) (v : Nat) : Lane :=
  let a := 2 ^ 12 * bits v 12 12 + bits v 9 4 * 2 ^ 4
  if a = 0 then { x with settled := false }
  else if eqAsk x.request ≠ 0 then { x with request := 2 ^ 15 * (x.request / 2 ^ 15), settled := true }
  else x

/-- Equalization begins (R241, R284): INIT of EQ_START_PRESET is requested. -/
def State.startEq (s : State) (k : Nat) : State :=
  s.setLane k { s.lane k with
    equalizing := true, request := 2 ^ 14 + 2 ^ 11 * bits (s.rd 0x5001 k) 12 10, doneSeen := 0 }

/-- The check of a training frame (R282). -/
def frameGood (f : Nat) : Bool :=
  bits f 511 448 = 0x3CA55AC3F00F0FF0 && f % 2 ^ 16 = crc16 (msbBits 496 (f / 2 ^ 16))
    && 8 ≤ bits f 443 440 && bits f 443 440 ≤ 0xA

/-- The rate phase of a lane on a good frame (R284): after 8 of them the link rate is taken; a switch frame is one that names it. -/
def State.ratePhase (s : State) (k f : Nat) : State :=
  let x := s.lane k
  let r := min (s.maxRate (portOf k)) (bits f 443 440)
  let y := { x with good := x.good + 1, switchSeen := x.switchSeen || f.testBit 435 && bits f 439 436 = r }
  if y.equalizing then s.setLane k y
  else if y.linkRate = 0 ∧ 8 ≤ y.good then
    let s1 := s.setLane k { y with linkRate := r }
    if r = 8 then s1.startEq k else s1
  else s.setLane k y

/-- Lead and lane numbers from a frame (R283): the larger nonce leads and numbers the lane with its own index. Equal
nonces draw a new one. -/
def State.numberLane (s : State) (k f : Nat) : State :=
  let l := s.linkOfLane k
  let z := (s.link l).lace
  let n := bits f 431 416
  let s1 := s.setLane k { s.lane k with
    peerIndex := some (bits f 447 444), logical := if n < z.nonce then k - l else bits f 447 444 }
  if n = z.nonce then (s1.setLace l { z with peerNonce := n }).drawNonce l
  else s1.setLace l { z with peerNonce := n }

/-- A good training frame (R282–R284, R240). -/
def State.takeTraining (s : State) (k f : Nat) : State :=
  let s1 := (s.numberLane k f).ratePhase k f
  let y := s1.lane k
  if y.equalizing then
    let s2 := s1.setLane k { y.takeAnswer (bits f 399 384) with
      doneSeen := if eqDone (bits f 415 400) then y.doneSeen + 1 else 0 }
    s2.takeRequest k (bits f 415 400)
  else s1

/-- TRAINING_FRAME_RECEIVE (R282–R284, R229, R230, R240): the frame's levels, after the level before it. The pair's inversion is found by
the polarity at which it checks; a frame that fails its check is ignored. -/
def execTrainingFrameReceive (lane : Nat) (levels : List Nat) (s : State) : Host.Outcome State Fault Refusal :=
  let x := s.lane lane
  if x.lstate = .train ∧ s.isLace lane then
    match heardValue frameGood x.rate levels with
    | some v => .next ((s.setLane lane { x with inverted := v.2 }).takeTraining lane v.1)
    | none => .next (s.setLane lane { x with good := 0 })
  else .next s

/-- LACE_RATE_CHANGE (R284): after its 16 switch frames and one received, the lane runs the link rate and equalizes. -/
def execLaceRateChange (lane : Nat) (s : State) : Host.Outcome State Fault Refusal :=
  let x := s.lane lane
  if x.lstate = .train ∧ x.switching ∧ x.switchSeen ∧ 16 ≤ x.switches then
    .next ((s.setLane lane { x with rate := x.linkRate, frameBits := 0 }).startEq lane)
  else .next s

/-- EQ_REQUEST_RECEIVED (R240). -/
def execEqRequestReceived (lane value : Nat) (s : State) : Host.Outcome State Fault Refusal :=
  if (s.lane lane).lstate = .train ∧ (s.lane lane).equalizing then .next (s.takeRequest lane value) else .next s

/-- EQ_ANSWER_RECEIVED (R240). -/
def execEqAnswerReceived (lane value : Nat) (s : State) : Host.Outcome State Fault Refusal :=
  if (s.lane lane).lstate = .train then .next (s.setLane lane ((s.lane lane).takeAnswer value)) else .next s

/-- EQ_ANSWER_TIMEOUT (R240): the request returns to HOLD and counts. -/
def execEqAnswerTimeout (lane : Nat) (s : State) : Host.Outcome State Fault Refusal :=
  let x := s.lane lane
  if x.lstate = .train ∧ eqAsk x.request ≠ 0 then
    .next ((s.setLane lane { x with request := 2 ^ 15 * (x.request / 2 ^ 15) }).bump 0x5009 lane 1)
  else .next s

/-- A tap field as the device requests it: a reserved one is HOLD (R238). -/
def tapAsk (f : Nat) : Nat := if f % 4 = 3 then 0 else f % 4

/-- EQ_EVALUATION_DONE (R241): TRAIN_DONE when the ratio is met; else a tap request, unless EQ_FIXED, once the last one
is released. After TRAIN_DONE no request is made. -/
def execEqEvaluationDone (lane : Nat) (met : Bool) (request : Nat) (s : State) : Host.Outcome State Fault Refusal :=
  let x := s.lane lane
  if x.lstate = .train ∧ x.equalizing ∧ !eqDone x.request ∧ eqAsk x.request = 0 ∧ !x.settled then
    if met then .next (s.setLane lane { x with request := 2 ^ 15 })
    else if (s.rd 0x5001 lane).testBit 9 then .next s
    else .next (s.setLane lane { x with
      request := tapAsk (bits request 9 8) * 2 ^ 8 + tapAsk (bits request 7 6) * 2 ^ 6 + tapAsk (bits request 5 4) * 2 ^ 4 })
  else .next s

/-- The lead of a link is settled (R283): both ends' nonces are known and differ. -/
def Lace.leadKnown (x : Lace) : Bool := x.nonce ≠ 0 && x.peerNonce ≠ 0 && x.nonce ≠ x.peerNonce

/-- The marker schedule of a link starts, unless it runs (R281). -/
def Lace.schedule (x : Lace) : Lace :=
  if x.scheduled then x else { x with scheduled := true, slotBits := 0, since := 0, markers := 0, own := [], ownBlocks := 0 }

/-- LANE_TRAIN_DONE (R241, R281, R283): with its own TRAIN_DONE and 3 consecutive received ones, a lane that has sent 16 more frames
enters LOCK, where the lead is settled; the first lane to leave TRAIN starts the marker schedule. -/
def execLaneTrainDone (lane : Nat) (s : State) : Host.Outcome State Fault Refusal :=
  let x := s.lane lane
  let l := s.linkOfLane lane
  if x.lstate = .train ∧ x.trained ∧ 16 ≤ x.doneSent ∧ (s.link l).lace.leadKnown then
    let s1 := s.setLane lane { x with
      lstate := .lock, markerLane := none, locked := false, markerBad := 0, scrambler := scramblerLoad x.logical, badSlot := 0 }
    .next (s1.setLace l (s1.link l).lace.schedule)
  else .next s

/-- LANE_TRAIN_TIMEOUT (R232, R233): back to DETECT with one TRAIN_TIMEOUT event and one failure. -/
def execLaneTrainTimeout (lane : Nat) (s : State) : Host.Outcome State Fault Refusal :=
  if (s.lane lane).lstate = .train ∧ s.isLace lane then
    .next ((((s.laneToDetect lane).event 0x09 0x01 lane).laneFailed lane).linkInDetect (s.linkOfLane lane))
  else .next s

/-- The cause a lane is excluded for at formation (R234): 4 EXCLUDED, 1 NO_LOCK, 2 SKEW; none where it remains. -/
def State.exclusion (s : State) (k : Nat) : Option Nat :=
  let x := s.lane k
  if x.lstate = .disabled || x.lstate = .loopback || s.testOwned k then some 4
  else if !x.locked then some 1
  else if 64000 < x.skew then some 2
  else none

/-- The logical lanes that remain (R234). -/
def State.remaining (s : State) (l : Nat) : List Nat :=
  ((s.linkLanes l).filter (fun k => (s.exclusion k).isNone)).map (fun k => (s.lane k).logical)

/-- The width a link forms at (R234 step 4); none without logical lane 0. -/
def State.formWidth (s : State) (l : Nat) : Option Nat :=
  [16, 8, 4, 2, 1].find? (fun w =>
    w ≤ s.linkWidth l && (List.range w).all (fun i => (s.remaining l).contains i))

/-- One lane as its link forms at width `w` (R234): it enters EXCHANGE, or is dropped with its cause. -/
def State.formLane (s : State) (w k : Nat) : State :=
  let x := s.lane k
  match s.exclusion k with
  | some c =>
    let s1 := (s.setLane k (if c = 4 then { x with dropped := true } else { x.disable with dropped := true })).event
      0x09 0x03 (256 * c + k)
    if c = 1 ∨ c = 2 then s1.laneFailed k else s1
  | none =>
    if x.logical < w then s.setLane k { x with lstate := .exchange, inLink := true, dropped := false }
    else (s.setLane k { x.disable with dropped := true }).event 0x09 0x03 (0x300 + k)

/-- A link that lost a lane of its width in a retrain is a new one (R300); its marker schedule runs on, since its lanes stay (R281). -/
def State.loseKept (s : State) (l : Nat) : State :=
  let x := (s.link l).lace
  let s1 := s.loseLink l
  s1.setLace l { (s1.link l).lace with
    scheduled := x.scheduled, slotBits := x.slotBits, since := x.since, markers := x.markers, own := x.own, ownBlocks := x.ownBlocks
    peerNonce := x.peerNonce }

/-- The exchange of a link begins with an RX width (R285, R287): CAP flits with ACK 0 follow on every lane. -/
def Lace.exchange (x : Lace) (w : Nat) : Lace :=
  { x with rxWidth := w, capSeen := false, startSent := false, acksSent := 0, ackSeen := false, startAt := 0, starts := [] }

/-- A link forms and its exchange begins (R287), after a retrain that loses a lane of its width as a lost link (R300);
or with no logical lane 0 its lanes return to DETECT with a failure each and one LOCK_TIMEOUT (R233,
R234). -/
def State.formLink (s : State) (l : Nat) : State :=
  match s.formWidth l with
  | some w =>
    let cut := (s.linkLanes l).any (fun k =>
      (s.lane k).inLink && (s.lane k).logical < (s.link l).width && ((s.exclusion k).isSome || w ≤ (s.lane k).logical))
    let s0 := if (s.link l).lace.retraining && cut then s.loseKept l else s
    let s1 := (s.linkLanes l).foldl (fun (t : State) k => t.formLane w k) s0
    s1.setLace l ((s1.link l).lace.exchange w)
  | none =>
    let locks := (s.linkLanes l).filter (fun k => (s.lane k).lstate = .lock)
    let s1 := (s.linkToDetect l).event 0x09 0x02 l
    locks.foldl State.laneFailed s1

/-- LACE_LINK_FORMATION (R234): once every lane of the link has marker lock or is excluded. -/
def execLaceLinkFormation (lane : Nat) (s : State) : Host.Outcome State Fault Refusal :=
  let l := s.linkOfLane lane
  let ls := s.linkLanes l
  if s.isLace l ∧ ls.any (fun k => (s.lane k).lstate = .lock)
      ∧ ls.all (fun k => (s.lane k).locked || s.exclusion k = some 4) then .next (s.formLink l)
  else .next s

/-- LANE_LOCK_TIMEOUT (R232, R234): 16 ms after the first lane's entry to LOCK the link forms of what has locked, or its
lanes return to DETECT. -/
def execLaneLockTimeout (lane : Nat) (s : State) : Host.Outcome State Fault Refusal :=
  let l := s.linkOfLane lane
  if s.isLace l ∧ (s.linkLanes l).any (fun k => (s.lane k).lstate = .lock) then .next (s.formLink l) else .next s

/-- EXCHANGE_TIMEOUT (R232, R287). -/
def execExchangeTimeout (link : Nat) (s : State) : Host.Outcome State Fault Refusal :=
  let l := s.linkOfLane link
  if s.isLace l ∧ (s.linkLanes l).any (fun k => (s.lane k).lstate = .exchange) then .next (s.linkToDetect l)
  else .next s

/-- Values of LANE_CONTROL that fit (R254, R6). -/
def laneControlFits (v : Nat) : Bool := v % 512 = 0

/-- LANE_CONTROL (R252, R254): written in DISABLED and DETECT; RETRY clears GIVEN_UP, DROPPED and FAIL_RUN; DISABLE holds
the lane DISABLED. -/
def laneControlEffect (k v : Nat) : Effect := fun s =>
  let x := s.lane k
  if s.testOwned k then (.busyInTest, s)
  else if x.lstate = .disabled || x.lstate = .detect then
    let s1 := s.wr 0x5001 k (setBit v 14 false)
    let s2 := if v.testBit 14 then s1.setLane k { x with givenUp := false, dropped := false, failRun := 0 } else s1
    let y := s2.lane k
    if v.testBit 15 then (.ok, s2.setLane k y.disable)
    else if y.lstate = .disabled ∧ !y.dropped then (.ok, (s2.laneToDetect k).linkInDetect (s2.linkOfLane k))
    else (.ok, s2)
  else (.stateConflict, s)

/-- LANE_RETRY, a write to LANE_CONTROL with RETRY (R254). -/
def execLaneRetry (src : Source) (lane value : Nat) (s : State) : Host.Outcome State Fault Refusal :=
  let v := setBit value 14 true
  .next (s.command src 0x5001 lane 3 (leBytes 2 v) (s.regBytes 0x5001 lane) true (laneControlFits v)
    (laneControlEffect lane v))

/-- LANE_DISABLE, a write to LANE_CONTROL with DISABLE (R254). -/
def execLaneDisable (src : Source) (lane value : Nat) (s : State) : Host.Outcome State Fault Refusal :=
  let v := setBit value 15 true
  .next (s.command src 0x5001 lane 3 (leBytes 2 v) (s.regBytes 0x5001 lane) true (laneControlFits v)
    (laneControlEffect lane v))

/-- A marker that a receiver accepts (R281): SYNC differs in at most 8 bits, LANE_N is the complement, CRC is right. -/
def markerGood (m : Nat) : Bool :=
  popCount 64 (bits m 119 56 ^^^ 0xA5C33C5A0F96E187) ≤ 8 && bits m 51 48 = 15 - bits m 55 52
    && m % 2 ^ 16 = crc16 (msbBits 104 (m / 2 ^ 16))

/-- A retrain begins for a cause (R299): ignored unless the link is ACTIVE; one LACE_RETRAIN event, counted; idle is sent
on every lane until LACE_RETRAIN_IDLE_END. -/
def State.retrain (s : State) (l cause : Nat) : State :=
  let x := s.link l
  if x.active && s.isLace l then
    let s1 := s.setLink l { x with
      active := false
      lace := { x.lace with retraining := true, idling := true, tx := .awake, sleepRx := 0, capSeen := false
                            startSent := false, waiting := false, nakDue := false, narrow := false, wantTx := 0
                            widths := [], stream := [], signal := false } }
    (s1.bump 0x5136 l 1).event 0x0A 0x07 (2 ^ 12 * cause + l)
  else s

/-- A receiver is off: it keeps no marker lock (R244). -/
def Lane.rxOff (x : Lane) : Lane := { x with rxPower := 2, locked := false, markerLane := none }

/-- A good marker with the lane's number at a receiver that is off: two of them, an interval apart, are marker lock, and it is on
again (R242, R244). -/
def Lane.rewake (x : Lane) (n : Nat) (onTime : Bool) : Lane :=
  if x.markerLane = some n ∧ onTime then { x with rxPower := 0, locked := true, markerBad := 0 }
  else { x with markerLane := some n }

/-- A marker in LOCK, with the polarity at which it was found (R230, R242, R243). -/
def State.lockMarker (s : State) (k : Nat) (marker : Option (Nat × Bool)) (skew : Nat) (onTime : Bool) : State :=
  match marker with
  | some v =>
    let x := s.lane k
    let n := bits v.1 55 52
    let y := { x with inverted := v.2, skew := skew }
    let s1 := s.wr 0x5005 k (satAdd 64000 0 skew)
    if x.markerLane = some n ∧ onTime then s1.setLane k { y with locked := true }
    else s1.setLane k { y with markerLane := some n }
  | none => s

/-- The lane number of an acceptable marker at the polarity that lock has found; none where the marker is not (R281). -/
def Lane.heardMarker (x : Lane) (levels : List Nat) : Option Nat :=
  let v := levelBits (heardLevels x.rate x.inverted levels)
  if markerGood v then some (bits v 55 52) else none

/-- A marker in ACTIVE, or none at its expected place (R242); at a receiver that is off it shows that the signal is back (R244). -/
def State.activeMarker (s : State) (k : Nat) (marker : Option Nat) (onTime : Bool) : State :=
  let x := s.lane k
  let l := s.linkOfLane k
  if x.rxPower = 2 then
    if marker = some x.logical then
      (s.setLane k (x.rewake x.logical onTime)).setLace l { (s.link l).lace with signal := true }
    else s
  else if marker = some x.logical ∧ onTime then s.setLane k { x with markerBad := 0, locked := true }
  else
    let s1 := (s.setLane k { x with markerBad := x.markerBad + 1 }).bump 0x5007 k 1
    if x.markerBad + 1 = 3 then
      ((s1.setLane k { x with markerBad := 0, locked := false }).event 0x09 0x05 k).retrain l 1
    else s1

/-- MARKER_RECEIVED (R242, R243, R281): two markers with one lane number an interval apart give marker lock; in ACTIVE a
missing or wrong marker counts, and three in a row lose lock and retrain the link. `levels` are the marker's, after the level
before it; `skew` is its arrival after the link's earliest lane in ps, `corrected` the symbols the lane's decoder has corrected
since its last marker (R252; log 159). -/
def execMarkerReceived (lane : Nat) (levels : List Nat) (skew : Nat) (onTime : Bool) (corrected : Nat) (s0 : State) :
    Host.Outcome State Fault Refusal :=
  let s := if s0.isLace lane then s0.count64 0x5006 lane corrected else s0
  let x := s.lane lane
  if !s.isLace lane then .next s
  else
    match x.lstate with
    | .lock => .next (s.lockMarker lane (heardValue markerGood x.rate levels) skew onTime)
    | .active => .next (s.activeMarker lane (x.heardMarker levels) onTime)
    | _ => .next s

/-- The lane state of a standard LTSSM state (R235): 0 Detect, 1 Polling, 2 Configuration, 3 Recovery.Equalization,
4 Recovery otherwise, 5 L0, 6 L0s sending, 7 L0s receiving, 8 L1 and its substates, 9 Loopback, 10 Disabled, 11 Hot
Reset, 12 L0s in both directions, 13 L0p. -/
def ltssmState (l : Nat) : LaneState :=
  match l with
  | 1 | 4 => .lock
  | 2 => .exchange
  | 3 => .train
  | 5 | 6 | 7 | 8 | 12 | 13 => .active
  | 9 => .loopback
  | 10 => .disabled
  | _ => .detect

/-- A lane as the standard numbers it (R230): its rate, its number within the link, the partner's number for it, an inverted
pair. -/
def Lane.numbered (x : Lane) (rate logical peer : Nat) (inverted : Bool) : Lane :=
  { x with rate := rate, logical := logical, peerIndex := some peer, inverted := inverted }

/-- A lane under a standard LTSSM state (R235, R244); `on` says that the link's width under L0p takes it in. -/
def Lane.ltssm (x : Lane) (l : Nat) (on : Bool) : Lane :=
  match ltssmState l with
  | .active =>
    { x with lstate := .active, inLink := true
             txPower := if l = 8 || !on then 2 else if l = 6 || l = 12 then 1 else 0
             rxPower := if l = 8 || !on then 2 else if l = 7 || l = 12 then 1 else 0 }
  | st => { x with lstate := st, txPower := 0, rxPower := 0 }

/-- The width a link runs at now (R275). -/
def Link.presentWidth (x : Link) : Nat := if x.l0p = 0 then x.width else x.l0p

/-- A width that a link can have (R256). -/
def widthLegal (w : Nat) : Bool := w = 1 || w = 2 || w = 4 || w = 8 || w = 16

/-- A rate that a standard link may run, in training too (R228): a code of PCIe and CXL modes up to MAX_RATE. -/
def State.rateFits (s : State) (link rate : Nat) : Bool := 1 ≤ rate && rate ≤ 6 && rate ≤ s.maxRate (portOf link)

/-- What a standard link may train to (R228, R257, R262–R264): a width of its lanes; in PCIe flit mode at 64 GT/s; in CXL 256 B flits at
32 and 64 GT/s, or 68 B flits at 32 GT/s and below where FLIT68_EN allows them (log 176). -/
def State.ltssmFits (s : State) (link width rate : Nat) (flitMode flit68 : Bool) : Bool :=
  let p := portOf link
  widthLegal width && width ≤ s.linkWidth link
    && (if s.portMode p = 2 then
          if flit68 then !flitMode && rate ≤ 5 && (s.rd 0x5100 p).testBit 25 else 5 ≤ rate && flitMode
        else !flit68 && (rate ≠ 6 || flitMode))

/-- The transitions to a power state (R262, R275): L0s outside flit mode only; L0p on an ACTIVE link in flit mode, to a width
within it, which during NARROW_LINKS is never wider than the present one. -/
def State.powerFits (s : State) (link ltssm width : Nat) (flitMode : Bool) : Bool :=
  let x := s.link link
  if ltssm = 6 || ltssm = 7 || ltssm = 12 then !flitMode
  else if ltssm = 13 then
    x.active && x.flitMode && widthLegal width && width ≤ (if s.throttle.narrow then x.presentWidth else x.width)
  else true

/-- One lane of a standard link at a transition (R230, R235): outside the configured link it is DISABLED, as is one that is held
off; one in a test is left alone. `width` 0 says that no link is configured yet. -/
def State.ltssmLane (s : State) (link ltssm width rate : Nat) (reversed : Bool) (inverted k : Nat) : State :=
  let x := s.lane k
  let n := if reversed then s.linkWidth link - 1 - (k - link) else k - link
  if s.laneTested k then s
  else if s.laneOff k || s.testOwned k || width ≠ 0 && width ≤ n || ltssm = 10 then s.setLane k x.disable
  else if ltssm = 0 then s.setLane k x.detect
  else
    let y := if ltssm = 11 then { x.detect with rate := rate }
      else (x.numbered rate n n (inverted.testBit (k - link))).ltssm ltssm (n < (s.link link).presentWidth)
    s.setLane k y

/-- A link under L0p at a width (R275, R262); its full width ends L0p. -/
def Link.lowered (x : Link) (width : Nat) : Link := { x with l0p := if width < x.width then width else 0 }

/-- PCIE_LTSSM_TRANSITION (R230, R235, R262, R264): the lanes of a link report a standard LTSSM state. Detect, Disabled and Hot
Reset lose the link. `width` is that of the configured link, 0 before there is one; `rate` is the rate now run; `reversed`
and bit i of `inverted`, for lane i, what the receiver found; bit i of `errors` that the standard's Lane Error Status reports
an error of lane i (R252). -/
def execPcieLtssmTransition (link ltssm width rate : Nat) (flitMode flit68 reversed : Bool) (inverted errors : Nat)
    (s : State) : Host.Outcome State Fault Refusal :=
  let p := portOf link
  if (s.portMode p = 1 || s.portMode p = 2) && s.beginsLink link && s.portEnabled p && s.lanesLive link then
    let up := ltssmState ltssm = .active
    let x := s.link link
    let w := if ltssm ≤ 1 then 0 else if ltssm = 13 then x.width else width
    if !s.powerFits link ltssm width flitMode || up && !s.ltssmFits link w rate flitMode flit68
        || ltssm ≠ 0 && ltssm ≠ 10 && !s.rateFits link rate then .next s
    else
      let s1 := if ltssm = 0 || ltssm = 10 || ltssm = 11 then s.loseLink link else s
      let y := if !up then s1.link link else
        Link.lowered { x with width := w, rate := rate, flitMode := flitMode, flit68 := flit68 }
          (if ltssm = 13 then width else if x.l0p = 0 then w else x.l0p)
      let s2 := s1.setLink link { y with ltssm := ltssm, configured := w, flipped := reversed }
      let s3 := (s.linkLanes link).foldl (fun (t : State) k => t.ltssmLane link ltssm w rate reversed inverted k) s2
      .next ((s.linkLanes link).foldl (fun (t : State) k =>
        if errors.testBit (k - link) then t.count64 0x5006 k 1 else t) s3)
  else .next s

/-- Values of LOOPBACK_CONTROL that fit (R247); PATTERN 0 is FAR_END's alone (log 158). -/
def loopbackFits (v : Nat) : Bool :=
  let rate := bits v 27 24
  let pattern := bits v 23 20
  let mode := bits v 19 18
  let pam := rate = 6 || 8 ≤ rate
  bits v 30 28 = 0 && bits v 17 16 = 0 && mode ≠ 3 && pattern ≤ 5
    && (1 ≤ rate && rate ≤ 6 || 8 ≤ rate && rate ≤ 10)
    && (if mode = 1 then pattern = 0 else if pam then 4 ≤ pattern else 1 ≤ pattern && pattern ≤ 3)

/-- A test ends or aborts (R246, R248): its counters, its state, one LOOPBACK_DONE event; the lane leaves LOOPBACK. -/
def State.endLoopback (s : State) (k st cause nbits nerrors : Nat) : State :=
  let far := bits (s.rd 0x500A k) 19 18 = 1
  let s1 := ((s.wr 0x500B k (2 ^ 30 * st + 2 ^ 29 * flag (!far && nbits ≠ 0) + cause)).wr 0x500C k (if far then 0 else nbits)).wr 0x500D k
    (if far then 0 else nerrors)
  let s2 := s1.wr 0x500A k (setBit (s1.rd 0x500A k) 31 false)
  ((s2.laneToDetect k).linkInDetect (s2.linkOfLane k)).event 0x09 0x06 (256 * st + k)

/-- A test is aborted by something other than its own time (R246): what it counted by then is open, a free value
(log 16). -/
def State.abortLoopback (s : State) (k cause : Nat) : State :=
  if (s.lane k).lstate = .loopback ∧ (s.rd 0x500A k).testBit 31 then
    s.drawn.drawn.endLoopback k 3 cause (s.freeNow % 2 ^ 64) (s.drawn.freeNow % 2 ^ 64)
  else s

/-- The device leaves MANAGED or OPERATIONAL (R246): every test in progress is aborted. -/
def State.abortTests (s : State) : State := (s.lanes.map (·.1)).foldl (fun (t : State) k => t.abortLoopback k 2) s

/-- LOOPBACK_CONTROL (R246, R247): RUN 1 starts a test from DISABLED or DETECT; RUN 0 ends it. -/
def loopbackEffect (k v nbits nerrors : Nat) : Effect := fun s =>
  let old := s.rd 0x500A k
  if s.testOwned k then (.busyInTest, s)
  else if old.testBit 31 then
    if v % 2 ^ 31 ≠ old % 2 ^ 31 then (.stateConflict, s)
    else if v.testBit 31 then (.ok, s)
    else (.ok, s.endLoopback k 2 0 nbits nerrors)
  else if !v.testBit 31 then (.ok, s.wr 0x500A k v)
  else
    let x := s.lane k
    if x.lstate = .disabled || x.lstate = .detect then
      let s1 := (((s.wr 0x500A k v).wr 0x500B k (2 ^ 30)).wr 0x500C k 0).wr 0x500D k 0
      (.ok, s1.setLane k { x with
        lstate := .loopback, rate := bits v 27 24, rxPower := 0
        txPower := if bits v 19 18 = 0 then 1 else 0 })
    else (.stateConflict, s)

/-- LOOPBACK_START, a write to LOOPBACK_CONTROL with RUN (R246, R247). -/
def execLoopbackStart (src : Source) (lane value : Nat) (s : State) : Host.Outcome State Fault Refusal :=
  let v := setBit value 31 true
  .next (s.command src 0x500A lane 4 (leBytes 4 v) (s.regBytes 0x500A lane) true (loopbackFits v)
    (loopbackEffect lane v 0 0))

/-- LOOPBACK_STOP, a write to LOOPBACK_CONTROL with RUN 0 and the rest unchanged (R247); the counters hold what the
checker has counted. -/
def execLoopbackStop (src : Source) (lane bits errors : Nat) (s : State) : Host.Outcome State Fault Refusal :=
  let v := setBit (s.rd 0x500A lane) 31 false
  .next (s.command src 0x500A lane 4 (leBytes 4 v) (s.regBytes 0x500A lane) true (loopbackFits v)
    (loopbackEffect lane v (bits % 2 ^ 64) (errors % 2 ^ 64)))

/-- A timed test of a lane runs (R246). -/
def State.loopbackRuns (s : State) (k : Nat) : Bool :=
  (s.lane k).lstate = .loopback && (s.rd 0x500A k).testBit 31 && !s.testOwned k

/-- LOOPBACK_DURATION_END (R246). -/
def execLoopbackDurationEnd (lane bits errors : Nat) (s : State) : Host.Outcome State Fault Refusal :=
  if s.loopbackRuns lane && s.rd 0x500A lane % 2 ^ 16 ≠ 0 then
    .next (s.endLoopback lane 2 0 (bits % 2 ^ 64) (errors % 2 ^ 64))
  else .next s

/-- LOOPBACK_NO_LOCK (R246): FAR_END and EXTERNAL abort without bit lock. -/
def execLoopbackNoLock (lane : Nat) (s : State) : Host.Outcome State Fault Refusal :=
  let mode := bits (s.rd 0x500A lane) 19 18
  if s.loopbackRuns lane && (mode = 1 || mode = 2) then .next (s.endLoopback lane 3 3 0 0) else .next s

/-- EYE_COMMAND (R249): accepted in ACTIVE and LOOPBACK while no measurement or margining is in progress. -/
def eyeEffect (k : Nat) : Effect := fun s =>
  let x := s.lane k
  if (x.lstate = .active || x.lstate = .loopback) && bits (s.rd 0x5004 k) 31 30 ≠ 3 && !x.margining then
    (.ok, s.wr 0x5004 k (3 * 2 ^ 30))
  else (.stateConflict, s)

/-- EYE_COMMAND, a write to 0x5003:k (R249). -/
def execEyeCommand (src : Source) (lane value : Nat) (s : State) : Host.Outcome State Fault Refusal :=
  .next (s.command src 0x5003 lane 2 (leBytes 1 value) [] true true (eyeEffect lane))

/-- EYE_MEASUREMENT_DONE (R249). -/
def execEyeMeasurementDone (lane height width : Nat) (s : State) : Host.Outcome State Fault Refusal :=
  if bits (s.rd 0x5004 lane) 31 30 = 3 then
    .next (s.wr 0x5004 lane (2 ^ 30 + 2 ^ 16 * satAdd 1023 0 height + satAdd 64 0 width))
  else .next s

/-- LANE_MARGINING_COMMAND (R249): served at once on an ACTIVE lane; it aborts a measurement. `busy` says whether the
margining operation goes on after the command. -/
def execLaneMarginingCommand (lane : Nat) (busy : Bool) (s : State) : Host.Outcome State Fault Refusal :=
  let x := s.lane lane
  if x.lstate = .active ∧ !s.isLace lane then
    let s1 := s.setLane lane { x with margining := busy }
    if bits (s.rd 0x5004 lane) 31 30 = 3 then .next (s1.wr 0x5004 lane (2 * 2 ^ 30)) else .next s1
  else .next s

/-- What the checker of a running test has counted by now (R248): compared bits, and errored bits among them, from the moment
it synchronises; 0 in FAR_END, which self-test does not run. The data are the line's, so the counts are free (log 160). -/
def State.checked (s : State) (k : Nat) : Nat × Nat :=
  if bits (s.rd 0x500A k) 19 18 = 1 && !s.testOwned k then (0, 0)
  else
    let n := Config.checkerBits k s.dev.aonTime s.freeCount % 2 ^ 64
    (n, Config.checkerErrors k s.dev.aonTime s.freeCount % (n + 1))

/-- LOOPBACK_STATUS, LOOPBACK_BITS and LOOPBACK_ERRORS as they read (R248): live while a test runs. -/
def State.checkerWord (s : State) (idx k : Nat) : Nat :=
  if s.laneTested k then
    match idx with
    | 0x500B => s.rd 0x500B k + 2 ^ 29 * flag ((s.checked k).1 ≠ 0)
    | 0x500C => (s.checked k).1
    | _ => (s.checked k).2
  else s.rd idx k

/-- The code of a lane state (R231). -/
def LaneState.code : LaneState → Nat
  | .disabled => 0 | .detect => 1 | .train => 2 | .lock => 3 | .exchange => 4 | .active => 5 | .loopback => 6

/-- REVERSED of a lane's link (R283). -/
def State.reversed (s : State) (k : Nat) : Bool :=
  let l := s.linkOfLane k
  1 < s.linkWidth l && (s.lane k).peerIndex = some (s.linkWidth l - 1 - (k - l)) && 2 * (k - l) + 1 ≠ s.linkWidth l

/-- LANE_STATUS (R253). -/
def State.laneStatus (s : State) (k : Nat) : Nat :=
  let x := s.lane k
  2 ^ 28 * x.lstate.code + 2 ^ 26 * x.txPower + 2 ^ 24 * x.rxPower + 2 ^ 20 * x.rate + 2 ^ 19 * flag x.inverted
    + 2 ^ 18 * flag (s.reversed k) + 2 ^ 14 * x.logical + 2 ^ 13 * flag x.inLink + 2 ^ 12 * flag (s.testOwned k)
    + 2 ^ 11 * flag x.dropped + 2 ^ 10 * flag x.givenUp + x.failRun

/-- A tap as a two's complement byte (R252). -/
def tapByte (v : Int) : Nat := (v % 256).toNat

/-- TX_COEFF (R252): C_MAIN is 64 less the taps' magnitudes (R237). -/
def State.txCoeff (s : State) (k : Nat) : Nat :=
  let x := s.lane k
  2 ^ 24 * (64 - x.pre2.natAbs - x.pre1.natAbs - x.post1.natAbs) + 2 ^ 16 * tapByte x.post1 + 2 ^ 8 * tapByte x.pre1
    + tapByte x.pre2

/-- Every lane DISABLED and every link lost (R236, R250, R276): entry to SAFE_STOP and FAULT, and the device resets. -/
def State.lanesDown (s : State) : State :=
  let s1 := s.abortTests
  let s2 := (List.range 96).foldl (fun (t : State) k => if t.beginsLink k then t.loseLink k else t) s1
  (List.range 96).foldl (fun (t : State) k => t.setLane k (t.lane k).disable) s2

/-- Every enabled link trains (R232, R236): entry to MANAGED after CLEAR or firmware's start. -/
def State.lanesUp (s : State) : State :=
  let s1 := (List.range 96).foldl (fun (t : State) k =>
    if (t.lane k).lstate = .disabled then t.laneToDetect k else t) s
  (List.range 96).foldl (fun (t : State) k => if t.beginsLink k then t.linkInDetect k else t) s1

end Sys2Proof.Machine
end

