-- ==== Sys2Proof/Machine/SelfTest.lean ====
section
/-! DEFINITION. Self-test on command (spec/18): the four engines, their gating and checks, memory slices, the logic, lane
and fuse tests, and their ends; and BANK_OWNER, whose handovers self-test holds off (R110, R462). -/

namespace Sys2Proof.Machine

/-- A group's part of the MEMORY engine. -/
def State.testGroup (s : State) (g : Nat) : TestGroup := Tab.look (fun _ => TestGroup.none) s.st.groups g

/-- Store a group's part of the MEMORY engine. -/
def State.setTestGroup (s : State) (g : Nat) (x : TestGroup) : State :=
  { s with st := { s.st with groups := Tab.put (fun _ => TestGroup.none) s.st.groups g x } }

/-- Fields of SELFTEST_COMMAND (R457). -/
def stOp (v : Nat) : Nat := bits v 63 60
/-- ENGINE. -/
def stEngine (v : Nat) : Nat := bits v 59 56
/-- RATE. -/
def stRate (v : Nat) : Nat := bits v 55 52
/-- PATTERN. -/
def stPattern (v : Nat) : Nat := bits v 51 48
/-- FIRST_BANK and BANK_COUNT, or FIRST_LANE and LANE_COUNT. -/
def stFirst (v : Nat) : Nat := if stEngine v = 3 then v % 128 else v % 2048
/-- The count of a MEMORY or LANE target. -/
def stCount (v : Nat) : Nat := if stEngine v = 3 then bits v 14 8 else bits v 26 16

/-- The lanes of a LANE target. -/
def stLanes (v : Nat) : List Nat := ((List.range (stCount v)).map (fun i => stFirst v + i)).filter (fun k => k < 96)

/-- Whether the life-cycle state in force permits a START (R456). -/
def State.stLife (s : State) (v : Nat) : Bool :=
  match s.lifecycle with
  | 1 | 4 => true
  | 2 => stEngine v ≠ 4
  | 3 =>
    match stEngine v with
    | 1 => !v.testBit 32
    | 3 => (stLanes v).all (fun k => !decide ((s.lane k).lstate = .active))
    | 2 | 4 => false
    | _ => true
  | _ => false

/-- The LENGTH_EXCEEDS check of R458. -/
def stInRange (v : Nat) : Bool :=
  match stEngine v with
  | 1 => stFirst v + stCount v ≤ 1280
  | 3 => stFirst v + stCount v ≤ 96
  | _ => true

/-- A near-end pattern that suits a rate (R247, R458). -/
def stPatternFits (rate pattern : Nat) : Bool :=
  (1 ≤ rate && rate ≤ 5 && 1 ≤ pattern && pattern ≤ 3)
    || ((rate = 6 || 8 ≤ rate && rate ≤ 10) && (pattern = 4 || pattern = 5))

/-- The VALUE_RANGE checks of R458 on a START. -/
def stFits (v : Nat) : Bool :=
  let t := v % 2 ^ 32
  let plain := stRate v = 0 && stPattern v = 0
  bits v 47 34 = 0 &&
    match stEngine v with
    | 1 => plain && !v.testBit 33 && bits t 31 27 = 0 && bits t 15 11 = 0 && stCount v ≠ 0
    | 2 => plain && !v.testBit 32 && t ≠ 0
    | 3 => stPatternFits (stRate v) (stPattern v) && !v.testBit 33 && !v.testBit 32 && bits t 31 15 = 0
        && t.testBit 7 = false && stCount v ≠ 0
    | 4 => plain && !v.testBit 33 && !v.testBit 32 && t = 0
    | _ => false

/-- The state of an engine (R470). -/
def SelfTest.engine (x : SelfTest) (e : Nat) : Nat :=
  match e with
  | 1 => x.memory
  | 2 => x.logic
  | 3 => x.lane
  | _ => x.fuse

/-- Set the state of an engine. -/
def SelfTest.setEngine (x : SelfTest) (e v : Nat) : SelfTest :=
  match e with
  | 1 => { x with memory := v }
  | 2 => { x with logic := v }
  | 3 => { x with lane := v }
  | _ => { x with fuse := v }

/-- An engine ends in a state, with one SELFTEST_DONE event (R467). -/
def State.endEngine (s : State) (e v : Nat) : State :=
  State.event { s with st := s.st.setEngine e v } 0x15 0x01 (2 ^ 12 * e + v)

/-- The banks of a range. -/
def rangeBanks (first count : Nat) : List Nat := (List.range count).map (fun i => first + i)

/-- The state checks of R458, in the order of their table. -/
def State.stStatus (s : State) (v : Nat) : Status :=
  let e := stEngine v
  if !(s.dev.state = .managed || s.dev.state = .operational) then .stateConflict
  else if s.st.engine e = 1 then .stateConflict
  else
    match e with
    | 1 =>
      let bs := rangeBanks (stFirst v) (stCount v)
      if v.testBit 32 && bs.any (fun b => (s.bank b).owner ≠ 0) then .ownerMismatch
      else if v.testBit 32 && bs.any (fun b => (s.bank b).handover) then .stateConflict
      else .ok
    | 2 =>
      if (members 32 (v % 2 ^ 32)).all (fun p =>
        ((s.panel p).pstate = .empty || (s.panel p).pstate = .held) && !(s.panel p).tileBusy && !s.ld.set.testBit p)
      then .ok else .stateConflict
    | 3 =>
      if (stLanes v).all (fun k => (s.lane k).lstate = .disabled || (s.lane k).lstate = .detect) then .ok
      else .stateConflict
    | _ => .ok

/-- The MEMORY engine starts: its result objects clear. -/
def State.startMemory (s : State) (v : Nat) : State :=
  let s1 := [1, 2, 3, 4, 5].foldl (fun (t : State) k => t.wr 0x7802 k 0) s
  { s1 with st := { s1.st with
      memory := 1, first := stFirst v, count := stCount v, destructive := v.testBit 32, aborting := false, groups := [] } }

/-- A panel enters TEST (R463, R86): its STAGED slot returns to VALID and a stage in progress is dropped. -/
def Panel.enterTest (x : Panel) : Panel :=
  { x.unstage with pstate := .test, entryState := x.pstate, staging := none }

/-- The LOGIC engine starts (R463). -/
def State.startLogic (s : State) (v : Nat) : State :=
  let ps := members 32 (v % 2 ^ 32)
  let s1 := (List.range 32).foldl (fun (t : State) p => t.wr 0x7803 p 0) s
  let s2 := ps.foldl (fun (t : State) p => t.setPanel p (t.panel p).enterTest) s1
  { s2 with st := { s2.st with logic := 1, panels := v % 2 ^ 32, set := v % 2 ^ 32, tile := v.testBit 33 } }

/-- One lane enters LOOPBACK owned by self-test (R465). -/
def State.startTestLane (s : State) (rate k : Nat) : State :=
  let x := s.lane k
  let s1 := s.setLane k { x with lstate := .loopback, rate := rate, txPower := 1, rxPower := 0 }
  ((s1.wr 0x500B k (2 ^ 30)).wr 0x500C k 0).wr 0x500D k 0

/-- The LANE engine starts (R465). -/
def State.startLanes (s : State) (v : Nat) : State :=
  let s1 := [0, 1, 2].foldl (fun (t : State) k => t.wr 0x7804 k 0) s
  let s2 := (stLanes v).foldl (fun (t : State) k => t.startTestLane (stRate v) k) s1
  { s2 with testLanes := stLanes v, st := { s2.st with lane := 1, laneCut := false } }

/-- The FUSE engine starts (R466). -/
def State.startFuse (s : State) : State :=
  State.wr { s with st := { s.st with fuse := 1 } } 0x7805 1 0

/-- A lane leaves the lane test (R465): it follows R232 from LOOPBACK. -/
def State.leaveTestLane (s : State) (k : Nat) : State :=
  let s1 := { s with testLanes := s.testLanes.erase k }
  (s1.laneToDetect k).linkInDetect (s1.linkOfLane k)

/-- A lane's test is ended ABORTED: what its checker counted by then is open (log 16). -/
def State.cutTestLane (s : State) (k cause : Nat) : State :=
  let s1 := ((s.wr 0x500B k (3 * 2 ^ 30 + cause)).wr 0x500C k (s.freeNow % 2 ^ 64)).wr 0x500D k
    (s.drawn.freeNow % 2 ^ 64)
  State.leaveTestLane { s1.drawn.drawn with st := { s1.st with laneCut := true } } k

/-- The LANE engine ends once no lane is in its test (R465): ABORTED where a lane's test was ended so, else by its map. -/
def State.endLanes (s : State) : State :=
  if s.st.lane = 1 ∧ s.testLanes.isEmpty then
    let failed := [0, 1, 2].any (fun k => s.rd 0x7804 k ≠ 0)
    s.endEngine 3 (if s.st.laneCut then 4 else if failed then 3 else 2)
  else s

/-- A PORTn reset or a change of the port's layout ends the test on that port's lanes as ABORTED (R465). -/
def State.cutPortLanes (s : State) (p : Nat) : State :=
  ((s.testLanes.filter (fun k => portOf k = p)).foldl (fun (t : State) k => t.cutTestLane k 1) s).endLanes

/-- What a panel holds as it leaves TEST (R464). -/
def Panel.leaveTest (x : Panel) (tile : Bool) : Panel :=
  { x with pstate := x.entryState, arith := [], stitchReg := [], tileMem := if tile then [] else x.tileMem }

/-- A panel leaves TEST. -/
def State.leaveTest (s : State) (p : Nat) : State :=
  let s1 := (s.setPanel p ((s.panel p).leaveTest s.st.tile)).clearDriven p
  { s1 with st := { s1.st with panels := setBit s1.st.panels p false } }

/-- Every panel in TEST leaves it: ABORT, the orderly stop and BASE_WARM (R467). -/
def State.leaveAllTests (s : State) : State := (members 32 s.st.panels).foldl State.leaveTest s

/-- The MEMORY engine ends when it is aborted and no slice runs, or when every group's banks have ended (R459, R467). A
destructive test that is aborted inside a bank wipes it (R462). -/
def State.endMemory (s : State) : State :=
  let gs := List.range 40
  if s.st.memory ≠ 1 || gs.any (fun g => (s.testGroup g).slice) then s
  else if s.st.aborting then
    let s1 :=
      if s.st.destructive then
        gs.foldl (fun (t : State) g =>
          match t.testBank g with
          | some b => if (t.testGroup g).row ≠ 0 then t.wipeBank b else t
          | none => t) s
      else s
    State.endEngine { s1 with st := { s1.st with groups := [], count := 0 } } 1 4
  else if gs.all (fun g => (s.testBank g).isNone) then
    let failed := s.rd 0x7802 2 ≠ 0 || s.rd 0x7802 4 ≠ 0
    State.endEngine { s with st := { s.st with groups := [], count := 0 } } 1 (if failed then 3 else 2)
  else s

/-- An engine in progress is ended by ABORT or by the orderly stop (R467). A slice in progress ends at its row first. -/
def State.cutEngine (s : State) (e : Nat) : State :=
  if s.st.engine e ≠ 1 then s
  else
    match e with
    | 1 => State.endMemory { s with st := { s.st with aborting := true } }
    | 2 => s.leaveAllTests.endEngine 2 4
    | 3 => (s.testLanes.foldl (fun (t : State) k => t.cutTestLane k 0) s).endLanes
    | _ => s.endEngine 4 4

/-- Every test in progress is ended: the orderly stop (R467). -/
def State.cutTests (s : State) : State := [1, 2, 3, 4].foldl State.cutEngine s

/-- Self-test as BASE_WARM leaves it (R467): the panels leave TEST and every state and result is as at reset. -/
def State.resetTests (s : State) : State :=
  { s.leaveAllTests with st := SelfTest.init, testLanes := [] }

/-- A START of an engine (R458). -/
def stStartEffect (v : Nat) : Effect := fun s =>
  match s.stStatus v with
  | .ok =>
    match stEngine v with
    | 1 => (.ok, (s.startMemory v).endMemory)
    | 2 => (.ok, s.startLogic v)
    | 3 => (.ok, s.startLanes v)
    | _ => (.ok, s.startFuse)
  | st => (st, s)

/-- ABORT (R458): accepted while its engine runs. -/
def stAbortEffect (v : Nat) : Effect := fun s =>
  if s.st.engine (stEngine v) = 1 then (.ok, s.cutEngine (stEngine v)) else (.stateConflict, s)

/-- SELFTEST_COMMAND values that fit, once LENGTH_EXCEEDS has been ruled out (R457, R458). -/
def stCommandFits (v : Nat) : Bool :=
  match stOp v with
  | 1 => stFits v
  | 2 => 1 ≤ stEngine v && stEngine v ≤ 4 && v % 2 ^ 56 = 0
  | _ => false

/-- A write of SELFTEST_COMMAND (R458): life cycle, LENGTH_EXCEEDS, VALUE_RANGE, state. -/
def selfTestEffect (v : Nat) : Effect := fun s =>
  if stOp v = 1 && !stInRange v then (.lengthExceeds, s)
  else if !stCommandFits v then (.valueRange, s)
  else if s.writesHeld 0x7800 then (.stateConflict, s)
  else if stOp v = 2 then stAbortEffect v s
  else stStartEffect v s

/-- A SELFTEST_COMMAND write (R455, R458). -/
def State.selfTestWrite (s : State) (src : Source) (v : Nat) : State :=
  s.command src 0x7800 1 5 (leBytes 8 v) [] (stOp v ≠ 1 || s.stLife v) true (selfTestEffect v)

/-- A command value with its OP and ENGINE fields replaced. -/
def stValue (v op engine : Nat) : Nat := v % 2 ^ 56 + 2 ^ 56 * engine + 2 ^ 60 * op

/-- SELFTEST_START_MEMORY (R459). -/
def execSelftestStartMemory (src : Source) (value : Nat) (s : State) : Host.Outcome State Fault Refusal :=
  .next (s.selfTestWrite src (stValue value 1 1))

/-- SELFTEST_START_LOGIC (R463). -/
def execSelftestStartLogic (src : Source) (value : Nat) (s : State) : Host.Outcome State Fault Refusal :=
  .next (s.selfTestWrite src (stValue value 1 2))

/-- SELFTEST_START_LANE (R465). -/
def execSelftestStartLane (src : Source) (value : Nat) (s : State) : Host.Outcome State Fault Refusal :=
  .next (s.selfTestWrite src (stValue value 1 3))

/-- SELFTEST_START_FUSE (R466). -/
def execSelftestStartFuse (src : Source) (value : Nat) (s : State) : Host.Outcome State Fault Refusal :=
  .next (s.selfTestWrite src (stValue value 1 4))

/-- SELFTEST_ABORT (R458, R467). -/
def execSelftestAbort (src : Source) (value : Nat) (s : State) : Host.Outcome State Fault Refusal :=
  .next (s.selfTestWrite src (stValue value 2 (stEngine value)))

/-- MEM cycles that a row takes (R460, R462): 12 for a written row of a non-destructive test, 8 otherwise. -/
def State.rowCycles (s : State) (b row : Nat) : Nat := if !s.st.destructive && s.isWritten b row then 12 else 8

/-- The rows from `row` that fit in `left` MEM cycles. -/
def State.rowsFit (s : State) (b row left : Nat) : Nat → Nat
  | 0 => 0
  | n + 1 =>
    if row < 4096 ∧ s.rowCycles b row ≤ left then s.rowsFit b (row + 1) (left - s.rowCycles b row) n + 1 else 0

/-- The rows of a slice (R459, R460): its budget in MEM cycles of 1 ns, less the 8 of the save-row test. -/
def State.sliceRows (s : State) (b row : Nat) : Nat :=
  s.rowsFit b row (1000 * s.rd 0x7800 3 - (if s.st.destructive then 0 else 8)) 4096

/-- A bank's test ends. -/
def State.endBank (s : State) (g b : Nat) : State :=
  let x := s.testGroup g
  let s1 := (s.setTestGroup g { x with ended := x.ended + 1, row := 0, slice := false, last := some s.dev.aonTime }).wr 0x7802 5
    (satAdd 65535 (s.rd 0x7802 5) 1)
  (if s.st.destructive then s1.wipeBank b else s1).endMemory

/-- SLICE_INTERVAL_US has passed since a group's last slice (R459). -/
def State.sliceDue (s : State) (g : Nat) : Bool :=
  match (s.testGroup g).last with
  | some t => t + s.rd 0x7800 4 ≤ s.dev.aonTime
  | none => true

/-- MEMORY_SLICE_START (R459, R460): a slice is admitted where nothing of a higher place waits. `saveFails` says that the
bank's save row fails its test, which ends the bank's test. -/
def execMemorySliceStart (group : Nat) (saveFails : Bool) (s : State) : Host.Outcome State Fault Refusal :=
  let x := s.testGroup group
  match s.testBank group with
  | some b =>
    let rinse := s.rd 0x4300 4 = 1 && 0 < (s.bank b).rinseLag && !s.splitOn b
    if s.st.memory = 1 && !s.st.aborting && group < 40 && !x.slice && s.sliceDue group && s.memRuns && !s.serviceWaits b
        && !s.ownerWaits b && !(s.bank b).wipePending && !rinse then
      if saveFails && !s.st.destructive then
        .next (((s.wr 0x7802 4 (satAdd 65535 (s.rd 0x7802 4) 1)).event 0x15 0x03 b).endBank group b)
      else .next (s.setTestGroup group { x with slice := true })
    else .next s
  | none => .next s

/-- A failing word counts, and its migration is asked for unless it is darned or being migrated (R461). -/
def State.wordFails (s : State) (a : Nat) : State :=
  let b := bankOf a
  let x := s.bank b
  let s1 := (s.bump 0x7802 2 1).event 0x15 0x02 b
  if x.darn.any (fun d => d.2.row = rowOf a && d.2.word = a % 8) then s1
  else
    match x.freeEntry with
    | some e => s1.startMigration a 3 e
    | none => s1.darnExhausted b

/-- Rows that a destructive test has run hold what the last pattern left, a free value for each slice (log 1). -/
def State.overwrite (s : State) (b row : Nat) : Nat → State
  | 0 => s
  | n + 1 =>
    let s1 := (List.range 8).foldl (fun (t : State) w =>
      { t with mem := t.mem.store (t.place (wordAddr b row w)) (s.freeNow % 2 ^ 256) (s.drawn.freeNow % 2 ^ 32) }) s
    s1.overwrite b (row + 1) n

/-- MEMORY_SLICE_END (R460–R462): the rows that fit in the budget are tested, or `rows` of them where the test was aborted;
`failing` lists row × 8 + word of the words that failed. -/
def execMemorySliceEnd (group rows : Nat) (failing : List Nat) (s : State) : Host.Outcome State Fault Refusal :=
  let x := s.testGroup group
  match s.testBank group with
  | some b =>
    if x.slice && s.memRuns then
      let fit := s.sliceRows b x.row
      let n := if s.st.aborting && rows < fit then rows else fit
      let s1 := s.count64 0x7802 1 n
      let s2 := if s.st.destructive then (s1.overwrite b x.row n).drawn.drawn else s1
      let bad := failing.eraseDups.filter (fun f => x.row ≤ f / 8 && f / 8 < x.row + n)
      let s3 := bad.foldl (fun (t : State) f => t.wordFails (32768 * b + f)) s2
      if x.row + n = 4096 then .next (s3.endBank group b)
      else .next (s3.setTestGroup group { x with row := x.row + n, slice := false, last := some s.dev.aonTime }).endMemory
    else .next s
  | none => .next s

/-- A result code that the test of a panel can give (R463, R469). -/
def State.logicCode (s : State) (p r : Nat) : Bool :=
  match r with
  | 1 | 2 => true
  | 3 => s.st.set.testBit ((p + 16) % 32)
  | 4 => s.st.tile
  | _ => false

/-- LOGIC_TEST_END (R463, R464): a panel's test ends with its LOGIC_RESULT code. -/
def execLogicTestEnd (panel result : Nat) (s : State) : Host.Outcome State Fault Refusal :=
  if s.st.logic = 1 && panel < 32 && s.st.panels.testBit panel && s.logicCode panel result then
    let s1 := (s.leaveTest panel).wr 0x7803 panel result
    let s2 := if result = 1 then s1 else s1.event 0x15 0x04 (256 * panel + result)
    if s2.st.panels = 0 then
      let failed := (List.range 32).any (fun p => 1 < s2.rd 0x7803 p)
      .next (s2.endEngine 2 (if failed then 3 else 2))
    else .next s2
  else .next s

/-- A lane's test ends (R465): it passes when its checker synchronised and found no error. -/
def State.endTestLane (s : State) (results : List LaneCheck) (k : Nat) : State :=
  let r := (results.find? (fun c => c.lane = k)).getD ⟨k, false, 0, 0⟩
  let good := r.synced && r.errors = 0
  let s1 := ((s.wr 0x500B k (2 * 2 ^ 30 + 2 ^ 29 * flag r.synced)).wr 0x500C k (r.bits % 2 ^ 64)).wr 0x500D k
    (r.errors % 2 ^ 64)
  let s2 := if good then s1
    else (s1.wr 0x7804 (k / 32) (setBit (s1.rd 0x7804 (k / 32)) (k % 32) true)).event 0x15 0x05 k
  s2.leaveTestLane k

/-- LANE_TEST_END (R465). -/
def execLaneTestEnd (results : List LaneCheck) (s : State) : Host.Outcome State Fault Refusal :=
  if s.st.lane = 1 then .next (s.testLanes.foldl (fun (t : State) k => t.endTestLane results k) s).endLanes
  else .next s

/-- FUSE_TEST_END (R466). -/
def execFuseTestEnd (fails : Nat) (s : State) : Host.Outcome State Fault Refusal :=
  if s.st.fuse = 1 then .next ((s.wr 0x7805 1 (satAdd maxU32 0 fails)).endEngine 4 (if fails = 0 then 2 else 3))
  else .next s

/-- SELFTEST_STATUS (R470). -/
def SelfTest.status (x : SelfTest) : Nat := x.memory + x.logic * 16 + 256 * x.lane + 4096 * x.fuse

/-- A destructive memory test with banks still to run holds every bank of its range (R462). -/
def State.testHolds (s : State) (b : Nat) : Bool :=
  s.st.memory = 1 && s.st.destructive && s.st.first ≤ b && b < s.st.first + s.st.count

/-- QM or DIR owns a bank and reports it in use (R110). -/
def State.ownerUses (s : State) (b : Nat) : Bool :=
  (s.bank b).owner = 0x40 && s.qmUses b || (s.bank b).owner = 0x41 && s.dirUses b

/-- BANK_OWNER_WRITE (R110–R112): refused while QM or DIR uses the bank or self-test holds it. -/
def execBankOwnerWrite (src : Source) (bank value : Nat) (s : State) : Host.Outcome State Fault Refusal :=
  .next (s.command src (0x4100 + bank / 256) (bank % 256) 4 (leBytes 4 value)
    (leBytes 4 (s.bank bank).ownerValue) true (bankOwnerFits bank value)
    (fun t => bankOwnerEffect bank value (t.ownerUses bank) (t.testHolds bank) t))

end Sys2Proof.Machine
end

