-- ==== Sys2Proof/Machine/Ports.lean ====
section
/-! DEFINITION. Ports in PCIe and CXL modes (spec/10): configuration, resets and link loss, the spaces behind the BARs
(R166–R168), configuration requests, completions, IDE failures, fabric shims and link narrowing. -/

namespace Sys2Proof.Machine

/-- The offsets of a port's links (R255). -/
def startsOf (v : Nat) : List Nat := members 16 v

/-- LINK_STARTS fits (R256): first lane, widths, alignment, count. -/
def linkStartsFit (v : Nat) : Bool :=
  let l := startsOf v
  v.testBit 0 && l.length ≤ 8 && l.all (fun i =>
    let w := ((l.filter (fun j => i < j)).headD 16) - i
    (w = 1 || w = 2 || w = 4 || w = 8 || w = 16) && i % w = 0)

/-- The rates a mode allows (R255); OFF runs no link, so it allows any. -/
def maxRateFits (mode rate : Nat) : Bool :=
  match mode with
  | 0 => true
  | 1 => 1 ≤ rate && rate ≤ 6
  | 2 => rate = 5 || rate = 6
  | _ => 8 ≤ rate && rate ≤ 10

/-- Values of PORT_CONFIG that fit (R255, R256). -/
def portConfigFits (v : Nat) : Bool :=
  let mode := bits v 31 30
  let role := bits v 29 28
  bits v 19 16 = 0 && role < 2 && !(mode = 3 && role ≠ 0) && linkStartsFit v && !(v.testBit 24 && mode = 0)
    && !(v.testBit 27 && mode ≠ 2) && !(v.testBit 26 && (mode ≠ 2 || role ≠ 0)) && !(v.testBit 25 && mode ≠ 2)
    && maxRateFits mode (bits v 23 20)

/-- A port whose ENABLE needs a shim (R273): CACHE_EN or the HOST role. -/
def needsShim (v : Nat) : Bool := v.testBit 26 || bits v 31 30 = 2 && bits v 29 28 = 1

/-- One lane under a PORTn reset (R250): loopback and eye measurement abort; GIVEN_UP, DROPPED and FAIL_RUN clear. -/
def State.resetLane (s : State) (k : Nat) : State :=
  let s1 := s.abortLoopback k 1
  let s2 := if bits (s1.rd 0x5004 k) 31 30 = 3 then s1.wr 0x5004 k (2 * 2 ^ 30) else s1
  let s3 := s2.setLane k { s2.lane k with givenUp := false, dropped := false, failRun := 0 }
  s3.laneToDetect k

/-- A PORTn reset (R250, R276, R465): links lost, self-test of its lanes ended, lanes to DETECT or DISABLED. -/
def State.resetPort (s : State) (p : Nat) : State :=
  let s1 := s.cutPortLanes p
  let s2 := (s1.linkStarts p).foldl State.loseLink s1
  let s3 := (lanesOf p).foldl State.resetLane s2
  (s3.linkStarts p).foldl State.linkInDetect s3

/-- A port's links are enabled (R232, R283): its Lace links start from nothing with a nonce of their own, and its DISABLED lanes go to
DETECT. -/
def State.enablePort (s : State) (p : Nat) : State :=
  let s1 := (s.linkStarts p).foldl (fun (t : State) l =>
    if t.isLace l then (t.setLink l Link.down).drawNonce l else t.setLink l Link.down) s
  let s2 := (lanesOf p).foldl (fun (t : State) k =>
    if (t.lane k).lstate = .disabled then t.laneToDetect k else t) s1
  (s2.linkStarts p).foldl State.linkInDetect s2

/-- PORT_CONFIG (R257, R260, R273): other fields change only while ENABLE is 0; clearing ENABLE is a PORTn reset, which
replaces PORT0's boot function; a changed layout ends a lane test on the port (R465). -/
def portConfigEffect (p v : Nat) : Effect := fun s =>
  let old := s.rd 0x5100 p
  let on := old.testBit 24
  if on && setBit v 24 true ≠ old then (.stateConflict, s)
  else if v.testBit 24 && !on && needsShim v && s.rd 0x5103 p = 0xFF then (.stateConflict, s)
  else
    let s1 := if p = 0 && v ≠ old then { s with bootFn := false } else s
    if on && !v.testBit 24 then (.ok, (s1.wr 0x5100 p v).resetPort p)
    else
      let moved := bits v 31 30 ≠ bits old 31 30 || v % 2 ^ 16 ≠ old % 2 ^ 16
      let s2 := if moved then (lanesOf p).foldl (fun (t : State) k => t.abortLoopback k 1) (s1.cutPortLanes p) else s1
      let s3 := s2.wr 0x5100 p v
      if v.testBit 24 && !on then (.ok, s3.enablePort p) else (.ok, s3)

/-- PORT_CONFIG_WRITE, a write to 0x5100:p (R257). -/
def execPortConfigWrite (src : Source) (port value : Nat) (s : State) : Host.Outcome State Fault Refusal :=
  .next (s.command src 0x5100 port 4 (leBytes 4 value) (s.regBytes 0x5100 port) true (portConfigFits value)
    (portConfigEffect port value))

/-- PORT_RESET (R276). -/
def portResetEffect (p : Nat) : Effect := fun s => (.ok, s.resetPort p)

/-- PORT_RESET, a write to 0x5102:p (R276). -/
def execPortReset (src : Source) (port value : Nat) (s : State) : Host.Outcome State Fault Refusal :=
  .next (s.command src 0x5102 port 2 (leBytes 1 value) [] true true (portResetEffect port))

/-- Links may be reset from outside: lanes are live in these device states (R236). -/
def State.portsLive (s : State) : Bool :=
  match s.dev.state with
  | .awaitFw | .managed | .operational | .quiescing => true
  | _ => false

/-- PERST_ASSERT (R446): PORTn_PERST_N low is a PORTn reset in the ENDPOINT and DEVICE roles while ENABLE is 1. -/
def execPerstAssert (port : Nat) (s : State) : Host.Outcome State Fault Refusal :=
  if s.portsLive && port < 6 && (s.portMode port = 1 || s.portMode port = 2) && s.portRole port = 0
      && s.portEnabled port then .next (s.resetPort port)
  else .next s

/-- LINK_LOSS (R276): Hot Reset or Link Down from either side; the link's transactions are settled and its lanes return
to DETECT. -/
def execLinkLoss (link : Nat) (s : State) : Host.Outcome State Fault Refusal :=
  if (s.link link).active then .next (s.linkToDetect link) else .next s

/-- The width a link narrows to (R275): max(1, width ÷ NARROW_DIVISOR). -/
def State.narrowWidth (s : State) (l w : Nat) : Nat :=
  if w / s.rd 0x5105 (portOf l) = 0 then 1 else w / s.rd 0x5105 (portOf l)

/-- Transmit power of a link's lanes for a transmit width: on below it, off at and above it (R303). -/
def State.txLanes (s : State) (l w : Nat) : State :=
  (s.linkLanes l).foldl (fun (t : State) k =>
    let x := t.lane k
    if x.lstate = .active then t.setLane k { x with txPower := if x.logical < w then 0 else 2 } else t) s

/-- Receive power of a link's lanes for a receive width (R303). -/
def State.rxLanes (s : State) (l w : Nat) : State :=
  (s.linkLanes l).foldl (fun (t : State) k =>
    let x := t.lane k
    if x.lstate = .active then t.setLane k (if x.logical < w then { x with rxPower := 0 } else x.rxOff) else t) s

/-- A LINK flit (R289). -/
def State.sendLink (s : State) (l : Nat) (payload : List Byte) : State :=
  s.sendFlit l ⟨1, 0, s.rd 0x5131 l, payload⟩

/-- A WIDTH flit: the transmit width is `w` from the slot after the one in which it ends (R303); `req` asks the partner for its own. -/
def State.sendWidth (s : State) (l w req : Nat) : State :=
  State.sendLink (s.setLace l { (s.link l).lace with txGoal := w, wantTx := 0 }) l
    [0x05, BitVec.ofNat 8 w, BitVec.ofNat 8 req]

/-- The transmit width is to be `w` (R303): a narrower one is announced at once; a wider one first wakes its lanes and waits for
RX_READY. -/
def State.setTxWidth (s : State) (l w : Nat) : State :=
  let x := s.link l
  if w < x.lace.txGoal then s.sendWidth l w 0
  else if x.lace.txGoal < w then State.txLanes (s.setLace l { x.lace with wantTx := w }) l w
  else s.setLace l { x.lace with wantTx := 0 }

/-- A Lace link under NARROW_LINKS (R303): it sets its transmit width to the narrowed one, and requests the same of its partner. -/
def State.laceNarrow (s : State) (l : Nat) : State :=
  let x := s.link l
  if s.throttle.narrow && x.active && s.isLace l && !x.lace.narrow then
    let w := s.narrowWidth l x.width
    let s1 := s.setLace l { x.lace with narrow := true }
    if x.lace.txGoal < w then (s1.sendWidth l x.lace.txGoal w).setTxWidth l w else s1.sendWidth l w w
  else s

/-- NARROW_UNSUPPORTED for a link (R275): counted once per action, with one event. -/
def State.narrowRefused (s : State) (l : Nat) : State :=
  ((s.setLink l { s.link l with narrowed := true }).bump 0x511A (portOf l) 1).event 0x0A 0x06 l

/-- A link meets a narrowing in force (R275, R303): a flit-mode link asks its partner for L0p, a standard link in another mode
keeps its width. -/
def State.meetNarrow (s : State) (l : Nat) : State :=
  let x := s.link l
  if s.throttle.narrow && x.active && !s.isLace l && !x.narrowed then
    if x.flitMode then s.emit (.l0p l (s.narrowWidth l x.width)) else s.narrowRefused l
  else s.laceNarrow l

/-- LINK_UP (R276): the lanes of a link are ACTIVE, and the link enters ACTIVE with one event; its FAIL_RUN is 0 (R233)
and a port's vectors may be blocked anew (R176). -/
def execLinkUp (link : Nat) (s : State) : Host.Outcome State Fault Refusal :=
  let x := s.link link
  let ls := (s.linkLanes link).filter (fun k => decide ((s.lane k).lstate = .active))
  if s.beginsLink link && s.portEnabled (portOf link) && !x.active && !ls.isEmpty && x.width ≠ 0 then
    let s1 := s.setLink link { x with active := true }
    let s2 := ls.foldl (fun (t : State) k => t.setLane k { t.lane k with failRun := 0 }) s1
    let s3 := { s2 with qm := { s2.qm with blocked := s2.qm.blocked.erase (portOf link) } }
    .next ((s3.event 0x0A 0x01 (2 ^ 11 * x.width + x.rate * 2 ^ 7 + link)).meetNarrow link)
  else .next s

/-- The link that ROOT_CFG_ADDR names (R261). -/
def State.rootLink (s : State) : Nat := bits (s.rd 0x5120 1) 38 32

/-- The link is ACTIVE in the ROOT or HOST role (R278). -/
def State.rootReady (s : State) : Bool :=
  let l := s.rootLink
  s.linkActive l && (s.portMode (portOf l) = 1 || s.portMode (portOf l) = 2) && s.portRole (portOf l) = 1

/-- A configuration request is sent on the addressed link (R261). -/
def State.rootRequest (s : State) (src : Source) (write : Bool) (v : Nat) : State :=
  let l := s.rootLink
  match (s.link l).freeTag with
  | some t => (s.ask l t (.rootCfg src write v)).emit (.config l (s.spid l) t (s.rd 0x5120 1 % 2 ^ 28) write v)
  | none => s

/-- A request to the addressed link does not have to wait for a tag (R262; log 163). -/
def State.rootOpen (s : State) : Bool := !s.rootReady || (s.link s.rootLink).freeTag.isSome

/-- A read of ROOT_CFG_DATA (R261). -/
def State.rootRead (s : State) (src : Source) : State :=
  if s.served src then
    let s1 := s.countRequest src
    match s1.readStatus 0x5120 2 true with
    | .ok =>
      if s1.sec.dead && firmwareServes src 0x5120 2 false then s1.say src 1 0x5120 2 (.status src Status.internal.code)
      else if s1.rootReady then (s1.openReq (s1.rowReq src 1 0x5120 2 [])).rootRequest src false 0
      else s1.say src 1 0x5120 2 (.status src Status.stateConflict.code)
    | st => s1.say src 1 0x5120 2 (.status src st.code)
  else s

/-- ROOT_CFG_READ, a read of ROOT_CFG_DATA (R261): the value follows with the completion. -/
def execRootCfgRead (src : Source) (s : State) : Host.Outcome State Fault Refusal :=
  .next (s.whenOpen s.rootOpen 0x45 (.rootCfgRead src) (s.rootRead src))

/-- A write of ROOT_CFG_DATA (R261). -/
def rootCfgEffect (src : Source) (v : Nat) : Effect := fun s =>
  if s.rootReady then (.ok, (s.wr 0x5120 2 v).rootRequest src true v) else (.stateConflict, s)

/-- ROOT_CFG_WRITE, a write to 0x5120:02 (R261). -/
def execRootCfgWrite (src : Source) (value : Nat) (s : State) : Host.Outcome State Fault Refusal :=
  .next (s.whenOpen s.rootOpen 0x45 (.rootCfgWrite src value)
    (s.command src 0x5120 2 4 (leBytes 4 value) (s.regBytes 0x5120 2) true true (rootCfgEffect src value)))

/-- A request through a BAR that the queue manager serves (R166, R168): BAR2, and a write that covers QUEUE_COMMAND. -/
def forQueues (bar off n : Nat) (write : Bool) : Bool := bar = 2 || bar = 0 && write && off < 0x124 && 0x120 < off + n

/-- A BAR0 write that gives a mover's CONTROL the ACTION SKIP (R172, R173), with which the mover reads and writes the tier. -/
def skipsMover (bar off : Nat) (l : List Byte) : Bool :=
  bar = 0 && (List.range 16).any (fun m =>
    let a := 0x10020 + 256 * m
    off ≤ a && a < off + l.length && bits (leValue (slice l (a - off) 1)) 5 4 = 2)

/-- The tier takes the accesses that a request through a BAR makes now (log 146). -/
def State.barOpen (s : State) (bar off n : Nat) (write : Bool) (l : List Byte) : Bool :=
  (!forQueues bar off n write || s.hostOpen) && (!(write && skipsMover bar off l) || s.moverOpen)

/-- Who waits for a tag of a link. -/
def Link.asker (x : Link) (tag : Nat) : Option Asker := (x.asks.find? (fun a => a.1 = tag)).map (·.2)

/-- A tag is free again. -/
def State.dropTag (s : State) (link tag : Nat) : State :=
  s.setLink link { s.link link with asks := (s.link link).asks.filter (fun a => a.1 ≠ tag) }

/-- A configuration request's completion (R261): its status goes to ROOT_CFG_STATUS; a read returns its data, or all ones where it
was not successful. -/
def State.rootCompleted (s : State) (link tag status data : Nat) : State :=
  match (s.link link).asker tag with
  | some (.rootCfg src write _) =>
    let s1 := (s.dropTag link tag).wr 0x5120 3 (status % 256)
    if write then s1 else s1.giveValue src 0x5120 2 4 (leBytes 4 (if status = 0 then data else 0xFFFFFFFF))
  | _ => s

/-- ROOT_CFG_COMPLETION (R261, R268). -/
def execRootCfgCompletion (link dpid tag status data : Nat) (s : State) : Host.Outcome State Fault Refusal :=
  .next (s.routed link dpid (s.rootCompleted link tag status data))

/-! The BAR0, BAR2 and BAR4 spaces (R166–R168). -/

/-- A dword of the mover registers (R169). -/
def Mover.dword (x : Mover) (r : Nat) : Nat :=
  match r with
  | 0x00 => x.base
  | 0x08 => x.size
  | 0x10 => x.tail
  | 0x18 => x.head
  | 0x20 => flag x.enable
  | 0x28 => x.status % 2 ^ 32
  | 0x2C => x.status / 2 ^ 32
  | _ => 0

/-- A dword of BAR0 as it reads (R168); offsets not listed read 0. -/
def State.bar0Dword (s : State) (off : Nat) : Nat :=
  let half := fun (v : Nat) => v / 2 ^ (8 * (off % 8)) % 2 ^ 32
  if off < 8 then half s.qmStatus
  else if off < 0x10 then half s.freeCells
  else if 0x100 ≤ off && off < 0x120 then 2 ^ 170 * (s.qm.staging / 2 ^ 170) / 2 ^ (8 * (off - 0x100)) % 2 ^ 32
  else if off = 0x128 then s.qm.cmdStatus
  else if 0x10000 ≤ off && off < 0x11000 then (s.mover ((off - 0x10000) / 256)).dword (off % 256)
  else if 0x100000 ≤ off && off < 0x110400 then
    let x := s.vector ((off - 0x100000) / 16)
    match off % 16 / 4 with
    | 0 => x.addr % 2 ^ 32
    | 1 => x.addr / 2 ^ 32
    | 2 => x.data
    | _ => x.control
  else if 0x120000 ≤ off && off < 0x120208 then
    (List.range 32).foldl (fun n i => n + flag (s.vector ((off - 0x120000) * 8 + i)).pending * 2 ^ i) 0
  else if 0x130000 ≤ off && off < 0x134100 then s.steer ((off - 0x130000) / 4)
  else if 0x200000 ≤ off && off < 0x240000 then
    let x := s.queue ((off - 0x200000) / 64)
    (x.word0 + 2 ^ 256 * x.setup) / 2 ^ (8 * (off % 64)) % 2 ^ 32
  else 0

/-- Bytes of BAR0 as they read. -/
def State.bar0Bytes (s : State) (off n : Nat) : List Byte :=
  (List.range n).map (fun i => BitVec.ofNat 8 (s.bar0Dword ((off + i) / 4 * 4) / 2 ^ (8 * ((off + i) % 4))))

/-- The CXL register blocks of BAR0 (R168, R259): present through a link in the CXL DEVICE role. -/
def State.cxlBlock (s : State) (link off : Nat) : Bool :=
  0x300000 ≤ off && off < 0x320000 && s.portMode (portOf link) = 2 && s.portRole (portOf link) = 0

/-- A mover register is written (R169, R173). -/
def State.moverReg (s : State) (m r v : Nat) : State :=
  let x := s.mover m
  match r with
  | 0x00 => s.setMover m { x with base := v % 2 ^ 31 }
  | 0x08 => s.setMover m { x with size := v }
  | 0x10 => if v < x.size then s.setMover m { x with tail := v } else s
  | 0x20 =>
    let s1 := if v.testBit 0 then s.startMover m else s.setMover m { x with enable := false }
    match bits v 5 4 with
    | 1 => s1.retryMover m
    | 2 => s1.skipMover m
    | 3 => s1.resetMover m
    | _ => s1
  | _ => s

/-- What a partial write to a dword of BAR0 keeps: what the dword reads, in a CXL block what was written to it. -/
def State.bar0Keep (s : State) (link d : Nat) : Nat :=
  if s.cxlBlock link d then s.blockStored link (d - 0x300000) else s.bar0Dword d

/-- A dword of BAR0 is written (R168); reserved bits are ignored and read 0 (R6). A steering word that names a reserved port is not taken (R175). -/
def State.bar0Put (s : State) (link off v : Nat) : State :=
  if 0x100 ≤ off && off < 0x120 then
    let sh := 2 ^ (8 * (off - 0x100))
    let old := s.qm.staging / sh % 2 ^ 32
    { s with qm := { s.qm with staging := s.qm.staging - old * sh + v * sh } }
  else if off = 0x120 then
    s.barQueueCommand link (bits v 23 20) (v % 4096)
  else if 0x10000 ≤ off && off < 0x11000 then s.moverReg ((off - 0x10000) / 256) (off % 256) v
  else if 0x100000 ≤ off && off < 0x110400 then s.vectorWrite ((off - 0x100000) / 16) (off % 16 / 4) v
  else if 0x130000 ≤ off && off < 0x134100 then
    let n := (off - 0x130000) / 4
    if bits v 14 12 < 6 then s.wr (0x6101 + n / 256) (n % 256) (v % 2 ^ 15) else s
  else if s.cxlBlock link off then s.blockPut link (off - 0x300000) v
  else s

/-- Bytes are written to BAR0, dword by dword: bytes of a dword that are not written keep what it reads. -/
def State.bar0Write (s : State) (link off : Nat) (l : List Byte) : Nat → State
  | 0 => s
  | n + 1 =>
    if l.isEmpty then s
    else
      let k := off % 4
      let here := l.take (4 - k)
      let d := off - k
      let old := s.bar0Keep link d
      let v := mergeBytes ((2 ^ here.length - 1) * 2 ^ k) old (leValue here * 256 ^ k) 4
      (s.bar0Put link d v).bar0Write link (d + 4) (l.drop (4 - k)) n

/-- A read of a BAR2 page (R166, R167): an 8-byte read of DEQ_VALUE dequeues; DEQ_STATUS reads; the rest reads 0. -/
def State.bar2Read (s : State) (link tag off n : Nat) : State :=
  let q := off / 4096
  let o := off % 4096
  if o = 0x10 ∧ n = 8 then s.deqValueOp link tag q n
  else
    let st := s.deqStatus q
    s.complete link tag 0 false ((List.range n).map (fun i =>
      if 0x20 ≤ o + i ∧ o + i < 0x28 then BitVec.ofNat 8 (st / 2 ^ (8 * (o + i - 0x20))) else 0))

/-- A write to a BAR2 page (R166): by the register it begins in. The bytes of a 64-bit register that it does not write are
taken as 0 (log 18). -/
def State.bar2Write (s : State) (link off : Nat) (l : List Byte) : State :=
  let q := off / 4096
  let o := off % 4096
  let v := leValue l * 256 ^ (o % 8)
  if o < 8 then (if o + l.length ≤ 8 then s.enqValueOp link q l else s.pageRefused link q l.length .valueRange)
  else if o < 0x10 then s.enqBufferOp link q (v % 2 ^ 31) (bits v 48 32)
  else if 0x18 ≤ o ∧ o < 0x20 then s.deqBufferOp link q (v % 2 ^ 31) (bits v 48 32)
  else s

/-- The words that `n` bytes from a byte address cover. -/
def coverWords (addr n : Nat) : List Nat := (List.range ((addr + n - 1) / 32 + 1 - addr / 32)).map (fun k => addr / 32 + k)

/-- A read of BAR4 (R168): its words are read on the base channel as requester HOST. -/
def State.hostRead (s : State) (link tag addr n : Nat) : State :=
  if n = 0 then s.complete link tag 0 false []
  else
    let s1 := { s with mem := { s.mem with hostReads := s.mem.hostReads ++ [⟨link, tag, addr, n, [], false⟩] } }
    (coverWords addr n).foldl (fun (t : State) w =>
      t.presentBase ⟨0x44, w * 32, false, 0, 0, false, none, link, tag, 0⟩) s1

/-- A write of BAR4 (R168, R267), word by word. -/
def State.hostWrite (s : State) (link addr : Nat) (l : List Byte) (poison : Bool) : Nat → State
  | 0 => s
  | n + 1 =>
    if l.isEmpty then s
    else
      let k := addr % 32
      let here := l.take (32 - k)
      (s.presentBase ⟨0x44, addr - k, true, (2 ^ here.length - 1) * 2 ^ k, leValue here * 256 ^ k, poison, none, link,
        0, 0⟩).hostWrite link (addr - k + 32) (l.drop (32 - k)) poison n

/-- An AtomicOp on BAR4 (R262), in order behind the requests before it. -/
def State.hostAtomic (s : State) (link tag addr op size operand compare : Nat) : State :=
  s.presentBase ⟨0x44, addr, false, 0, operand % 256 ^ size, false, some (op, size, compare % 256 ^ size), link, tag, 0⟩

/-- Bytes of a CXL block of BAR0 as they read (R259). -/
def State.blockBytes (s : State) (link off n : Nat) : List Byte :=
  (List.range n).map (fun i =>
    BitVec.ofNat 8 (s.blockDword link ((off + i) / 4 * 4 - 0x300000) / 2 ^ (8 * ((off + i) % 4))))

/-- A read of a space: BAR0, BAR2 or BAR4. -/
def State.spaceRead (s : State) (link tag bar off n : Nat) : State :=
  match bar with
  | 0 =>
    if s.cxlBlock link off then s.drawn.complete link tag 0 false (s.blockBytes link off n)
    else s.complete link tag 0 false (s.bar0Bytes off n)
  | 2 => s.bar2Read link tag off n
  | _ => s.hostRead link tag off n

/-- A write to a space; poisoned data to BAR0 or BAR2 is discarded and recorded (R267). -/
def State.spaceWrite (s : State) (link bar off : Nat) (l : List Byte) (poison : Bool) : State :=
  match bar with
  | 0 =>
    if poison then s.logError link 1 [bar, off, l.length] else s.bar0Write link off l 1100
  | 2 => if poison then s.logError link 1 [bar, off, l.length] else s.bar2Write link off l
  | _ => s.hostWrite link off l poison 200

/-- A request that a BAR takes (R259): bar 0, 2 or 4, within its size. -/
def barHolds (bar off n : Nat) : Bool :=
  match bar with
  | 0 => off + n ≤ 2 ^ 22
  | 2 => off + n ≤ 2 ^ 24
  | 4 => off + n ≤ 2 ^ 31
  | _ => false

/-- A received memory request to the endpoint functions' BARs (R261): no BAR that holds it makes a read an Unsupported Request. -/
def State.barAccess (s : State) (link bar off n tag : Nat) (write : Bool) (l : List Byte) (poison : Bool) : State :=
  if s.isLace link then s
  else if write then s.barPosted link (fun t => if barHolds bar off l.length then t.spaceWrite link bar off l poison else t)
  else
    s.barNonPosted link tag (fun t =>
      if barHolds bar off n then t.spaceRead link tag bar off n else t.complete link tag 1 false [])

/-- ATOMICOP_REQUEST (R262): FetchAdd, Swap and CAS of 4 and 8 bytes, naturally aligned, to BAR4; elsewhere Unsupported
Request. -/
def execAtomicopRequest (link dpid bar offset op size operand compare tag : Nat) (s : State) :
    Host.Outcome State Fault Refusal :=
  if s.isLace link || !s.linkActive link then .next s
  else
    .next (s.routed link dpid (s.barNonPosted link tag (fun t =>
      if bar = 4 && barHolds 4 offset size && (size = 4 || size = 8) && offset % size = 0 && 1 ≤ op && op ≤ 3 then
        t.hostAtomic link tag offset op size operand compare
      else t.complete link tag 1 false [])))

/-- The BARs of a function (R259, R260): log2 size and type bits of the BAR at a dword pair; 0 where there is none. -/
def State.barOf (s : State) (link fn k : Nat) : Nat × Nat :=
  let p := portOf link
  if s.bootFn && p = 0 then (if fn = 0 && k = 0 then (20, 4) else (0, 0))
  else
    match fn, k with
    | 0, 0 => (22, 4)
    | 0, 1 => (24, 4)
    | 0, 2 => (31, 12)
    | 1, 0 => (s.rd 0x5104 p, 12)
    | _, _ => (0, 0)

/-- A function that a link presents (R259, R260). -/
def State.hasFn (s : State) (link fn : Nat) : Bool :=
  fn = 0 || fn = 1 && s.rd 0x5103 (portOf link) ≠ 0xFF && !(s.bootFn && portOf link = 0)

/-- Memory_Active (R265): OPERATIONAL, every populated channel READY, SERVING set. -/
def State.memActive (s : State) : Bool := s.dev.state = .operational && s.ddrReady && s.serving

/-- A dword that only the standards give reads a free value, which may depend on what was written (log 1). -/
def State.cfgFree (s : State) (link fn off : Nat) : Nat :=
  Config.cfgOther fn off (s.cfgStored link fn off) s.freeNow % 2 ^ 32

/-- The dwords of the CXL device DVSEC that the spec gives a part of (R264, R265): Cache_Enable and Mem_Enable, 0 on a link with 68 B
flits, and Memory_Active. -/
def State.dvsecDword (s : State) (link off : Nat) : Nat :=
  let v := s.cfgFree link 0 (dvsecAt + off)
  if off = 0x0C && (s.link link).flit68 then setBit (setBit v 0 false) 2 false
  else if off = 0x1C then setBit v 1 s.memActive
  else v

/-- Function 0 through a link in the CXL DEVICE role, without the boot function. -/
def State.cxlFn (s : State) (link fn : Nat) : Bool :=
  fn = 0 && s.portMode (portOf link) = 2 && s.portRole (portOf link) = 0 && !(s.bootFn && portOf link = 0)

/-- A configuration dword of a capability as it reads. -/
def State.capDword (s : State) (link fn off : Nat) : Nat :=
  let main := fn = 0 && !(s.bootFn && portOf link = 0)
  if main && msixAt ≤ off && off < msixAt + 12 then s.msixDword link (off - msixAt)
  else if s.cxlFn link fn && dvsecAt ≤ off && off < dvsecAt + 0x38 then s.dvsecDword link (off - dvsecAt)
  else if off = aerAt + 4 then setBit (s.cfgFree link fn off) 12 (!(s.errors link 1).isEmpty)
  else
    match (if s.cxlFn link fn && locatorAt ≤ off then locatorDword (off - locatorAt) else none) with
    | some v => v
    | none => s.cfgFree link fn off

/-- A configuration dword as it reads: the identity, a BAR, or a capability. -/
def State.cfgDword (s : State) (link fn off : Nat) : Nat :=
  if off = 0 then 0x4D05 * 65536 + 0x1F2C
  else if 0x10 ≤ off && off < 0x28 then
    let b := s.barOf link fn ((off - 0x10) / 8)
    let v := s.cfgStored link fn off
    if b.1 = 0 then 0
    else if off % 8 = 0 then v / 2 ^ b.1 * 2 ^ b.1 % 2 ^ 32 + b.2
    else if 32 < b.1 then v / 2 ^ (b.1 - 32) * 2 ^ (b.1 - 32)
    else v
  else s.capDword link fn off

/-- A configuration dword is written: the message control of MSI-X keeps its mask and enable bits, the AER status clears the bits
written 1, and any other dword what is written. -/
def State.cfgPut (s : State) (link fn off be data : Nat) : State :=
  let put := fun (k : Nat) =>
    { s with cfg := Tab.put (fun _ => 0) s.cfg k (mergeBytes be (Tab.look (fun _ => 0) s.cfg k) (data % 2 ^ 32) 4) }
  if off < 0x28 then put (cfgKey link fn off)
  else if fn = 0 && off = msixAt then put (msixKey link)
  else if off = aerAt + 4 then (if be.testBit 1 && data.testBit 12 then s.clearErrors link 1 else s)
  else put (cfgKey link fn off)

/-- Configuration requests are served in these states (R261, R260). -/
def State.cfgServed (s : State) (link : Nat) : Bool :=
  s.linkActive link && (s.portMode (portOf link) = 1 || s.portMode (portOf link) = 2) && s.portRole (portOf link) = 0
    && match s.dev.state with
      | .awaitFw => s.bootFn && portOf link = 0
      | .managed | .operational => true
      | _ => false

/-- A configuration request (R261): served by the functions the link presents; another function is an Unsupported Request. -/
def State.cfgAccess (s : State) (link fn off tag be data : Nat) (write : Bool) : State :=
  if !s.hasFn link fn then s.complete link tag 1 false []
  else if write then (s.cfgPut link fn off be data).complete link tag 0 false []
  else s.drawn.complete link tag 0 false (leBytes 4 (s.cfgDword link fn off))

/-- PCIE_CONFIG_REQUEST (R261, R268). -/
def execPcieConfigRequest (link dpid fn offset tag be data : Nat) (write : Bool) (s : State) :
    Host.Outcome State Fault Refusal :=
  if !s.cfgServed link then .next s
  else .next (s.routed link dpid (s.cfgAccess link fn (offset % 4096 / 4 * 4) tag be data write))

/-! Fabric shims (R271–R274). -/

/-- The panel of a port's shim; none at 0xFF (R271). -/
def State.shimPanel (s : State) (port : Nat) : Option Nat :=
  if s.rd 0x5103 port < 32 then some (s.rd 0x5103 port) else none

/-- The kinds that a link sends to the shim (R272, R273): CXL.io alone where it has 68 B flits (R264). -/
def State.shimRxKind (s : State) (link kind : Nat) : Bool :=
  let mode := s.portMode (portOf link)
  let up := s.portRole (portOf link) = 1
  match kind with
  | 1 => mode = 1 || mode = 2
  | 2 | 3 => mode = 2 && !(s.link link).flit68 && !up && (s.rd 0x5100 (portOf link)).testBit 26
  | 4 | 5 => mode = 2 && !(s.link link).flit68 && up
  | _ => false

/-- An inbound request meets the device state (R261): 0 served, 1 refused and counted in MANAGED, 2 withheld. Only the
ENDPOINT and DEVICE roles have BARs to refuse; responses and S2M BISnp are always taken. -/
def State.shimGate (s : State) (port kind : Nat) : Nat :=
  if 3 ≤ kind then 0
  else
    match s.dev.state with
    | .operational => 0
    | .managed => if s.portRole port = 0 && kind = 1 then 1 else 0
    | _ => 2

/-- The key under which a request of the shim waits for its answer: the tags of TLPs, D2H and M2S requests are apart. -/
def shimKey (kind tag : Nat) : Nat := if kind = 1 then tag else 2 ^ 16 * kind + tag

/-- A packet in the FIFO toward the port leaves on its link: a non-posted one once its tag is free, a TLP once fewer than 1,024 requests
of the device are outstanding there (R262; log 163). -/
def State.shimGoes (s : State) (k : ShimPacket) : Bool :=
  !k.nonPosted || (k.kind ≠ 1 || (s.link k.link).asked < 1024) && ((s.link k.link).asker (shimKey k.kind k.tag)).isNone

/-- A packet from the shim is sent (R272). -/
def State.shimPut (s : State) (k : ShimPacket) : State :=
  let s1 := s.emit (.shimTx k.link (s.spid k.link) k.kind k.partner k.bytes)
  if k.nonPosted then s1.ask k.link (shimKey k.kind k.tag) (.shim k.kind) else s1

/-- The FIFO toward the port empties as far as its packets can go, in order (R271). -/
def State.drainShim (s : State) (port : Nat) : Nat → State
  | 0 => s
  | n + 1 =>
    match (s.shim port).tx with
    | k :: t => if s.shimGoes k then ((s.setShim port { s.shim port with tx := t }).shimPut k).drainShim port n else s
    | [] => s

/-- An inbound request or BISnp for the shim (R261, R273): with no panel named it is an Unsupported Request. -/
def State.shimRequest (s : State) (port panel : Nat) (k : ShimPacket) : State :=
  match s.shimGate port k.kind with
  | 0 =>
    if panel < 32 then s.shimTake port panel k
    else if k.nonPosted then s.complete k.link k.tag 1 false [] else s
  | 1 =>
    let s1 := s.bump 0x5116 port 1
    if k.nonPosted then s1.complete k.link k.tag 4 false [] else s1
  | _ => s

/-- An H2D or S2M response for the shim (R266, R273): a full FIFO takes none, and it stays with its sender (log 101); one whose tag the
shim did not issue is a protocol error. `nonPosted` says that
more of its request's responses follow. -/
def State.shimResponse (s : State) (port panel : Nat) (k : ShimPacket) : State :=
  let key := shimKey (if k.kind = 3 then 6 else 7) k.tag
  match (s.link k.link).asker key with
  | some _ =>
    if s.shimRoom port panel then
      ((if k.nonPosted then s else s.dropTag k.link key).shimTake port panel k).drainShim port 64
    else s
  | none => s.cxlError k.link [k.kind, k.tag]

/-- SHIM_RX_PACKET (R273, R268, R276): an inbound packet bound for the fabric shim; `spid` and `dpid` are those of a PBR flit. `cut`
is the number of bytes that have not come when the link is lost: they are zero, and SH_RX_ERR is set. -/
def execShimRxPacket (port kind link spid dpid tag : Nat) (nonPosted : Bool) (bytes : List Byte) (cut : Nat) (s : State) :
    Host.Outcome State Fault Refusal :=
  if portOf link = port && s.linkActive link && s.shimRxKind link kind then
    let k : ShimPacket := ⟨kind, link, s.partnerOf link spid, tag, nonPosted, bytes ++ List.replicate cut 0, cut ≠ 0⟩
    let t := s.routed link dpid
      (if kind = 3 || kind = 5 then s.shimResponse port (s.rd 0x5103 port) k
       else s.shimRequest port (s.rd 0x5103 port) k)
    .next (if cut = 0 then t else t.linkToDetect link)
  else .next s

/-- The kinds the panel may send on a link (R272, R264). -/
def State.shimTxKind (s : State) (link kind : Nat) : Bool :=
  let p := portOf link
  let mode := s.portMode p
  match kind with
  | 1 => mode = 1 || mode = 2
  | 6 => mode = 2 && !(s.link link).flit68 && s.portRole p = 0 && (s.rd 0x5100 p).testBit 26
  | 7 => mode = 2 && !(s.link link).flit68 && s.portRole p = 1
  | 8 => mode = 3
  | _ => false

/-- A user flit from the shim that its port rejects (R290): a fixed type, VC 0 or 1, a LEN above 240, a type the peer does
not accept, or not one beat of 256 B. -/
def State.userRefused (s : State) (link : Nat) (l : List Byte) : Bool :=
  let h := leValue (l.take 8)
  let ty := bits h 63 60
  l.length ≠ 256 || ty < 8 || bits h 35 33 < 2 || 240 < h % 256 || !(s.link link).lace.peerTypes.testBit (ty - 8)

/-- A user flit from the shim is sequenced and sent (R290): TYPE, VC, LEN and the payload are the panel's. -/
def State.sendUser (s : State) (link partner : Nat) (l : List Byte) : State :=
  let h := leValue (l.take 8)
  s.sendFlit link ⟨bits h 63 60, bits h 35 33, partner, slice l 8 (h % 256)⟩

/-- The tags of a link (R262): 14 bits in flit mode, 10 outside it; D2H and M2S tags have 16. -/
def State.tagSpace (s : State) (link kind : Nat) : Nat :=
  if kind ≠ 1 then 2 ^ 16 else if (s.link link).flitMode then 2 ^ 14 else 2 ^ 10

/-- A user flit's VC has a credit that no flit before it in the queue will take (R290). -/
def Lace.userCredit (x : Lace) (vc : Nat) : Bool :=
  (x.sendq.filter (fun f => f.credited && f.vc = vc)).length < vcCount x.credit vc

/-- A packet from the panel (R271, R272): rejected and counted where its KIND or LINK is not the port's; else it enters the 64-entry
FIFO toward the port. SH_TX_READY is low, and nothing is taken, for a link that is not ACTIVE, with a full FIFO, and for a user
flit whose VC has no credit (R290). -/
def State.shimSend (s : State) (port kind link partner tag : Nat) (nonPosted : Bool) (l : List Byte) : State :=
  if portOf link ≠ port || !s.beginsLink link || !s.shimTxKind link kind then s.bump 0x5119 port 1
  else if !s.linkActive link then s
  else if kind = 8 then
    if s.userRefused link l then s.bump 0x5119 port 1
    else if !(s.link link).lace.userCredit (bits (leValue (l.take 8)) 35 33) then s
    else s.sendUser link partner l
  else if 64 ≤ (s.shim port).tx.length then s.drainShim port 64
  else
    let k : ShimPacket := ⟨kind, link, partner, tag % s.tagSpace link kind, nonPosted, l, false⟩
    (s.setShim port { s.shim port with tx := (s.shim port).tx ++ [k] }).drainShim port 64

/-- A panel's shim sends while the panel runs. -/
def State.shimRuns (s : State) (port : Nat) : Bool :=
  port < 6 && match s.shimPanel port with
    | some panel => s.panelTicks panel
    | none => false

/-- SHIM_TX_PACKET (R272). -/
def execShimTxPacket (port kind link partner tag : Nat) (nonPosted : Bool) (bytes : List Byte) (s : State) :
    Host.Outcome State Fault Refusal :=
  if s.shimRuns port then .next (s.shimSend port kind link partner tag nonPosted bytes) else .next s

/-- The packets that a hold timeout settles (R274): TLPs, and user flits as posted ones. -/
def ShimPacket.settles (k : ShimPacket) : Bool := k.kind = 1 || k.kind = 8

/-- A held packet is settled (R274): Completer Abort for a non-posted one, discard for any other; each counts, and the first
since the panel last ran writes SHIM_DROPPED. -/
def State.settleShim (s : State) (port : Nat) (k : ShimPacket) : State :=
  let f := s.shim port
  let s1 := (s.setShim port { f with rx := f.rx.erase k, dropped := true }).bump 0x5118 port 1
  let s2 := if k.nonPosted then s1.complete k.link k.tag 4 false [] else s1
  let s3 := (if k.kind = 8 then s2.freeBuffer k.link (bits (leValue (k.bytes.take 8)) 35 33) else s2).admitUsers port (s.rd 0x5103 port)
  if f.dropped then s3 else s3.event 0x0A 0x05 port

/-- SHIM_HOLD_TIMEOUT (R274): the oldest packet that may be settled has been held longer than SHIM_HOLD_US. -/
def execShimHoldTimeout (port : Nat) (s : State) : Host.Outcome State Fault Refusal :=
  match s.shimPanel port, (s.shim port).rx.find? ShimPacket.settles with
  | some panel, some k => if (s.panel panel).pstate = .running then .next s else .next (s.settleShim port k)
  | _, _ => .next s

/-! Completions to the device (R269, R262, R276). -/

/-- A completion to a request of the device's own goes to its mover, loader or shim (R269); poisoned data halts a mover
with cause POISON (R172). -/
def State.passCompletion (s : State) (link partner tag status : Nat) (poison : Bool) (l : List Byte) (who : Asker) :
    State :=
  match who with
  | .mover m =>
    if status = 0 && poison then s.haltMover m 0x10 (s.mover m).moved else s.moverAnswered m status l
  | .loader => s.loaderAnswered (if poison then 7 else status) l
  | .shim _ =>
    match s.shimPanel (portOf link) with
    | some panel => s.shimTake (portOf link) panel ⟨1, link, partner, tag, false, l, false⟩
    | none => s
  | .rootCfg src write _ =>
    let s1 := s.wr 0x5120 3 (status % 256)
    if write then s1 else s1.giveValue src 0x5120 2 4 (if status = 0 then l.take 4 else leBytes 4 0xFFFFFFFF)

/-- Who waits can take its completion: a shim while its panel runs or its FIFO has room (R271; log 101). -/
def State.takesCompletion (s : State) (link : Nat) (who : Asker) : Bool :=
  match who, s.shimPanel (portOf link) with
  | .shim _, some panel => s.shimRoom (portOf link) panel
  | _, _ => true

/-- A completion of a request of the device's own frees its tag (R262, R269); one that its requester cannot take stays with its
sender. -/
def State.completed (s : State) (link partner tag status : Nat) (poison : Bool) (l : List Byte) : State :=
  match (s.link link).asker tag with
  | some who =>
    if s.takesCompletion link who then
      ((s.dropTag link tag).passCompletion link partner tag status poison l who).drainShim (portOf link) 64
    else s
  | none => s

/-- DEVICE_COMPLETION_RECEIVE (R268, R269). -/
def execDeviceCompletionReceive (link spid dpid tag status : Nat) (poison : Bool) (data : List Byte) (s : State) :
    Host.Outcome State Fault Refusal :=
  if s.isLace link || !s.linkActive link then .next s
  else .next (s.routed link dpid (s.completed link (s.partnerOf link spid) tag status poison data))

/-- COMPLETION_TIMEOUT (R262): settled as a lost completion (R276). -/
def execCompletionTimeout (link tag : Nat) (s : State) : Host.Outcome State Fault Refusal :=
  if s.isLace link then .next s
  else
    match (s.link link).asker tag with
    | some who => .next (((s.dropTag link tag).settleAsk who).drainShim (portOf link) 64)
    | none => .next s

/-- A stream becomes Insecure: none of its keys serves until the host has programmed it anew (R270). -/
def Link.insecure (x : Link) (link stream : Nat) : Link :=
  { x with
    ide := x.ide.filter (fun k => k ≠ stream)
    ideStale := x.ideStale ++ (List.range 4).map (fun i => link * 32 + stream * 4 + i) }

/-- IDE_INTEGRITY_FAILURE (R270): the stream becomes Insecure, and the TLPs or flits concerned are discarded; counted, with one
event. Stream 4 is CXL.cachemem's. -/
def execIdeIntegrityFailure (link stream : Nat) (s : State) : Host.Outcome State Fault Refusal :=
  let x := s.link link
  if x.active && !s.isLace link && x.ide.contains stream then
    .next (((s.setLink link (x.insecure link stream)).bump 0x5115 link 1).event 0x0A 0x04 (256 * stream + link))
  else .next s

/-- The lanes of a link at and above `w` are off in both directions, those below are on (R245). -/
def State.widthLanes (s : State) (l w : Nat) : State :=
  (s.linkLanes l).foldl (fun (t : State) k =>
    let x := t.lane k
    let p := if w ≤ x.logical then 2 else 0
    if x.lstate = .active then t.setLane k { x with txPower := p, rxPower := p } else t) s

/-- L0P_RESPONSE (R275): the partner's answer while NARROW_LINKS is in force narrows the link or counts it; after the
action is withdrawn a grant restores the full width. -/
def execL0pResponse (link : Nat) (granted : Bool) (s : State) : Host.Outcome State Fault Refusal :=
  let x := s.link link
  if x.active && !s.isLace link && x.flitMode then
    if s.throttle.narrow && !x.narrowed then
      if granted then
        let w := s.narrowWidth link x.width
        .next ((s.setLink link (Link.lowered { x with narrowed := true } w)).widthLanes link w)
      else .next (s.narrowRefused link)
    else if !s.throttle.narrow && x.l0p ≠ 0 && granted then
      .next ((s.setLink link { x with l0p := 0 }).widthLanes link x.width)
    else .next s
  else .next s

/-- PORT_STATUS (R278). -/
def State.portStatus (s : State) (p : Nat) : Nat :=
  flag (s.portEnabled p) + 2 * flag (s.bootFn && p = 0) + 4 * flag (s.dev.state = .quiescing)
    + 256 * (s.activeLinks p).length

/-- MEM_ACTIVE of a link (R265, R278). -/
def State.linkStatus (s : State) (l : Nat) : Nat :=
  let x := s.link l
  if x.active then
    2 ^ 27 * x.width + 2 ^ 23 * x.rate + 2 ^ 22 * flag x.flitMode + 2 ^ 21 * flag x.flit68 + 2 ^ 20 * flag (x.l0p ≠ 0)
      + 2 ^ 19 * flag (s.memLink l && s.memActive)
      + 2 ^ 18 * flag ((s.rd 0x5100 (portOf l)).testBit 26 && !x.flit68)
  else 0

end Sys2Proof.Machine
end

