-- ==== Sys2Proof/Machine/Lace.lean ====
section
/-! DEFINITION. The Lace link (spec/11): the capability exchange, reception of flits with acknowledgement, credits and
sequence, requests and completions, replay, retrain, sleep and width. -/

namespace Sys2Proof.Machine

/-- Fields of a flit header (R288). -/
def fTy (h : Nat) : Nat := bits h 63 60
/-- PARTNER. -/
def fPartner (h : Nat) : Nat := bits h 59 48
/-- SEQ. -/
def fSeq (h : Nat) : Nat := bits h 47 36
/-- VC. -/
def fVc (h : Nat) : Nat := bits h 35 33
/-- LEN. -/
def fLen (h : Nat) : Nat := h % 256

/-- The header of a flit. -/
def flitHead (l : List Byte) : Nat := leValue (l.take 8)

/-- A flit whose CRC is right (R288). -/
def flitGood (l : List Byte) : Bool := l.length = 256 && leValue (l.drop 248) = crc64 (l.take 248)

/-- A flit that is not sequenced (R289): NULL, and the LINK subtype CAP. -/
def flitPlain (l : List Byte) : Bool :=
  fTy (flitHead l) = 0 || fTy (flitHead l) = 1 && leValue (slice l 8 1) = 1

/-- The request header of a VC0 flit (R291). -/
def reqHead (l : List Byte) : Nat := leValue (slice l 8 16)
/-- TAG. -/
def qTag (r : Nat) : Nat := bits r 127 112
/-- SPACE. -/
def qSpace (r : Nat) : Nat := bits r 110 108
/-- LENGTH. -/
def qLen (r : Nat) : Nat := bits r 103 91
/-- ADDRESS. -/
def qAddr (r : Nat) : Nat := r % 2 ^ 48

/-- The replay buffer without the flits up to and with a sequence number; none where it does not hold it (R297). -/
def ackUpTo (seq : Nat) : List (Nat × TxFlit) → Option (List (Nat × TxFlit))
  | [] => none
  | f :: t => if f.1 = seq then some t else ackUpTo seq t

/-- Send every flit of the replay buffer again, in order (R298); an error in the replay buffer is a retrain instead (R141; its
cause is log 11's). -/
def State.resend (s : State) (l : Nat) : State :=
  if s.sramMarked 1 && !(s.link l).lace.replay.isEmpty then (s.sramTaken 1).retrain l 3
  else (s.link l).lace.replay.foldl (fun (t : State) f => t.putFlit l f.2.ty f.2.partner f.1 f.2.vc f.2.payload) s

/-- A replay starts from the oldest unacknowledged flit (R298): counted; the fourth in a row from the same SEQ is a retrain
with cause REPLAY_LIMIT instead. -/
def State.startReplay (s : State) (l : Nat) : State :=
  let x := (s.link l).lace
  match x.replay with
  | [] => s
  | f :: _ =>
    let n := if x.replays ≠ 0 && x.replayFrom = f.1 then x.replays + 1 else 1
    if 4 ≤ n then s.retrain l 2
    else
      let s1 := s.setLace l { x with replayFrom := f.1, replays := n, replayAt := s.dev.aonTime }
      (s1.bump 0x5133 l 1).resend l

/-- A NAK starts a replay unless one from the same point started within the last 2 µs (R298). -/
def State.takeNak (s : State) (l : Nat) : State :=
  let x := (s.link l).lace
  match x.replay with
  | [] => s
  | f :: _ =>
    if x.replays ≠ 0 && x.replayFrom = f.1 && s.dev.aonTime - x.replayAt < 2 then s else s.startReplay l

/-- The acknowledgement of a received header (R297): an ACK_SEQ that names nothing outstanding nor the last flit
acknowledged is a retrain with cause PROTOCOL. -/
def State.takeAck (s : State) (l h : Nat) : State :=
  let x := (s.link l).lace
  let seq := bits h 21 10
  if !h.testBit 9 || seq = x.acked then s
  else
    match ackUpTo seq x.replay with
    | some rest => s.setLace l { x with replay := rest, acked := seq, replays := 0 }
    | none => s.retrain l 3

/-- The credits of a received header (R288, R296): the running total gives what it rose by, modulo 256. -/
def State.takeCredits (s : State) (l h : Nat) : State :=
  let x := (s.link l).lace
  let vc := bits h 32 30
  let total := bits h 29 22
  let more := (total + 256 - vcCount x.peerTotal vc) % 256
  s.setLace l { x with credit := setVc x.credit vc (vcCount x.credit vc + more), peerTotal := setVc x.peerTotal vc total }

/-- The header of a good flit (R296–R298): acknowledgement, credits, NAK; what waits is then sent. -/
def State.takeHead (s : State) (l h : Nat) : State :=
  let s1 := s.takeAck l h
  if !(s1.link l).active then s1
  else
    let s2 := s1.takeCredits l h
    let s3 := if h.testBit 8 then s2.takeNak l else s2
    s3.pump l 16

/-- NAK goes out in the next flit, which is sent at once unless the transmitter sleeps (R298, R301). -/
def State.sendNak (s : State) (l : Nat) : State :=
  (s.setLace l { (s.link l).lace with nakDue := true }).sendNull l

/-- A bad flit (R298): discarded; a NAK follows where none is outstanding. -/
def State.badFlit (s : State) (l : Nat) : State :=
  let x := (s.link l).lace
  if x.waiting then s else (s.setLace l { x with waiting := true }).sendNak l

/-- A protocol error on a good flit (R300): counted, with one event. -/
def State.laceError (s : State) (l : Nat) : State := (s.bump 0x5113 l 1).event 0x0A 0x08 l

/-- A fixed type on its own VC, a user type on VC2 to VC7, LEN within 240 (R289, R300). -/
def flitFits (h : Nat) : Bool :=
  let ty := fTy h
  let vc := fVc h
  fLen h ≤ 240 && (if 8 ≤ ty then 2 ≤ vc else if ty = 4 then vc = 1 else vc = 0)

/-- The BAR of a SPACE (R292). -/
def spaceBar (sp : Nat) : Nat := if sp = 0 then 0 else if sp = 1 then 2 else 4

/-- A length and alignment a SPACE takes (R292). -/
def spaceFits (sp addr n : Nat) : Bool :=
  sp < 3 && 1 ≤ n && barHolds (spaceBar sp) addr n
    && (sp = 2 || (n = 1 || n = 2 || n = 4 || n = 8) && addr % n = 0)

/-- A received WRITE (R291, R292, R294). -/
def State.laceWriteOp (s : State) (l : Nat) (f : List Byte) : State :=
  let r := reqHead f
  let n := qLen r
  if s.dev.state = .managed then s.bump 0x5116 (portOf l) 1
  else if n ≤ 224 && fLen (flitHead f) = 16 + n && spaceFits (qSpace r) (qAddr r) n then
    s.spaceWrite l (spaceBar (qSpace r)) (qAddr r) (slice f 24 n) (r.testBit 111)
  else s

/-- A request without data has LEN 16 (R291). -/
def bareRequest (f : List Byte) : Bool := fLen (flitHead f) = 16

/-- A received READ (R292, R293). -/
def State.laceReadOp (s : State) (l : Nat) (f : List Byte) : State :=
  let r := reqHead f
  if s.dev.state = .managed then (s.bump 0x5116 (portOf l) 1).complete l (qTag r) 4 false []
  else if bareRequest f && qLen r ≤ 4096 && spaceFits (qSpace r) (qAddr r) (qLen r) then
    s.spaceRead l (qTag r) (spaceBar (qSpace r)) (qAddr r) (qLen r)
  else s.complete l (qTag r) 1 false []

/-- A received ATOMIC (R291, R292): in SPACE 2, of 4 or 8 bytes, naturally aligned; a CAS carries the compare value, then
the swap value. -/
def State.laceAtomicOp (s : State) (l : Nat) (f : List Byte) : State :=
  let r := reqHead f
  let op := bits r 107 104
  let n := qLen r
  if s.dev.state = .managed then (s.bump 0x5116 (portOf l) 1).complete l (qTag r) 4 false []
  else if qSpace r = 2 && (n = 4 || n = 8) && qAddr r % n = 0 && barHolds 4 (qAddr r) n && 1 ≤ op && op ≤ 3
      && fLen (flitHead f) = 16 + (if op = 3 then 2 * n else n) then
    s.hostAtomic l (qTag r) (qAddr r) op n (leValue (if op = 3 then slice f (24 + n) n else slice f 24 n))
      (leValue (slice f 24 n))
  else s.complete l (qTag r) 1 false []

/-- A received FLUSH waits for the partner's earlier writes (R293); one with a reserved SPACE, an ADDRESS beyond it or a LENGTH is
refused (R292). -/
def State.laceFlushOp (s : State) (l : Nat) (f : List Byte) : State :=
  let r := reqHead f
  let x := (s.link l).lace
  if s.dev.state = .managed then ((s.bump 0x5116 (portOf l) 1).complete l (qTag r) 4 false []).freeBuffer l 0
  else if !(bareRequest f && qSpace r < 3 && qLen r = 0 && barHolds (spaceBar (qSpace r)) (qAddr r) 1) then
    (s.complete l (qTag r) 1 false []).freeBuffer l 0
  else s.setLace l { x with flushes := x.flushes ++ [(qTag r, s.mem.age)] }

/-- A write of a link that is older than an age waits at the memory tier. -/
def State.writesBefore (s : State) (l age : Nat) : Bool :=
  let old := fun (r : BaseReq) => r.link = l && r.write && r.age < age
  s.mem.channel.any (fun c => c.2.any old) || s.mem.atBank.any (fun c => c.2.any old)

/-- A user flit (R290): to the shim, where it waits in its receive buffer while the FIFO has no room (R296); or discarded and counted
with its buffer freed. -/
def State.laceUserOp (s : State) (l : Nat) (f : List Byte) : State :=
  let h := flitHead f
  let p := portOf l
  let x := (s.link l).lace
  match s.shimPanel p with
  | some panel =>
    if (s.rd 0x5138 p).testBit (fTy h - 8) then (s.setLace l { x with users := x.users ++ [f] }).admitUsers p panel
    else (s.bump 0x5137 l 1).freeBuffer l (fVc h)
  | none => (s.bump 0x5137 l 1).freeBuffer l (fVc h)

/-- A request of the device's own is over: its tag is free, and nothing is kept of its completions (R293). -/
def State.dropRequest (s : State) (l tag : Nat) : State :=
  let x := (s.link l).lace
  (s.setLace l { x with parts := Tab.put (fun _ => LacePart.none) x.parts tag LacePart.none }).dropTag l tag

/-- The data of a COMPLETION flit (R288, R293): LENGTH bytes, none beyond LEN. -/
def completionData (f : List Byte) : List Byte := slice f 24 (min (bits (reqHead f) 103 91) (fLen (flitHead f) - 16))

/-- A COMPLETION flit joins what a request has (R293): its data at its OFFSET, poison, the first STATUS other than OK. Bytes before the
OFFSET that no flit brought are open: `free` (log 177). -/
def LacePart.join (x : LacePart) (f : List Byte) (free : Nat) : LacePart :=
  let c := reqHead f
  let off := bits c 90 78
  let d := completionData f
  { data := (x.data ++ leBytes (off - x.data.length) free).take off ++ d ++ x.data.drop (off + d.length)
    bad := x.bad || c.testBit 111
    status := if x.status = 0 then bits c 109 108 else x.status }

/-- A COMPLETION (R293): its data joins what the request has; with LAST it goes to the requester. -/
def State.laceCompletionOp (s : State) (l : Nat) (f : List Byte) : State :=
  let tag := bits (reqHead f) 127 112
  let x := s.link l
  match x.asker tag with
  | none => (s.laceError l).freeBuffer l 1
  | some who =>
    let old := Tab.look (fun _ => LacePart.none) x.lace.parts tag
    let y := old.join f s.freeNow
    let s0 := if old.data.length < bits (reqHead f) 90 78 then s.drawn else s
    if (reqHead f).testBit 110 then
      (((s0.dropRequest l tag).passCompletion l (s.rd 0x5110 l) tag y.status y.bad y.data who).drainShim (portOf l) 64).freeBuffer
        l 1
    else (s0.setLace l { x.lace with parts := Tab.put (fun _ => LacePart.none) x.lace.parts tag y }).freeBuffer l 1

/-- A transmit width that a WIDTH flit may name (R303). -/
def widthFits (w max : Nat) : Bool := (w = 1 || w = 2 || w = 4 || w = 8 || w = 16) && w ≤ max

/-- A WIDTH flit (R303): the partner's transmit width, and its request for the device's; one that names an invalid width is
a protocol error (R300). A request does not widen beyond a narrowing in force. -/
def State.laceWidthOp (s : State) (l : Nat) (f : List Byte) : State :=
  let new := leValue (slice f 9 1)
  let req := leValue (slice f 10 1)
  let x := s.link l
  if widthFits new x.width && (req = 0 || widthFits req x.width) then
    let s1 := State.rxLanes (s.setLace l { x.lace with rxNow := new }) l new
    if req = 0 then s1
    else s1.setTxWidth l (if s.throttle.narrow && s.narrowWidth l x.width < req then s.narrowWidth l x.width else req)
  else s.laceError l

/-- An accepted DOZE (1) or OFF (2) flit lets the receiving lanes sleep (R301). -/
def State.laceSleepOp (s : State) (l power : Nat) : State :=
  let s1 := s.setLace l { (s.link l).lace with sleepRx := power, signal := false }
  (s1.linkLanes l).foldl (fun (t : State) k =>
    let x := t.lane k
    if x.lstate = .active && x.rxPower = 0 then t.setLane k (if power = 1 then { x with rxPower := 1 } else x.rxOff) else t) s1

/-- An accepted RX_READY (R302, R303): the waking end resumes; a wider transmit width that it covers takes effect. -/
def State.laceReadyOp (s : State) (l : Nat) (f : List Byte) : State :=
  let ready := leValue (slice f 9 1)
  let x := (s.link l).lace
  let s1 := if x.tx = .waking then (s.setLace l { x with tx := .awake }).pump l 16 else s
  let w := (s1.link l).lace.wantTx
  if w ≠ 0 && w ≤ ready then s1.sendWidth l w (if s1.throttle.narrow then 0 else w) else s1

/-- What an accepted flit does (R289): its type is one of the sequenced ones and its form is right. MCTP flits are held first (R295). -/
def State.performFlit (s : State) (l : Nat) (f : List Byte) : State :=
  let h := flitHead f
  match fTy h with
  | 1 =>
    match leValue (slice f 8 1) with
    | 2 => s.laceSleepOp l 1
    | 3 => s.laceSleepOp l 2
    | 4 => s.laceReadyOp l f
    | 5 => s.laceWidthOp l f
    | _ => s.laceError l
  | 2 => (s.laceWriteOp l f).freeBuffer l 0
  | 3 => (s.laceReadOp l f).freeBuffer l 0
  | 4 => s.laceCompletionOp l f
  | 5 => (s.laceAtomicOp l f).freeBuffer l 0
  | 6 => s.laceFlushOp l f
  | 7 => s.freeBuffer l 0
  | _ => s.laceUserOp l f

/-- The transmit lanes of a link within its width take a power state. -/
def State.txPower (s : State) (l power : Nat) : State :=
  let w := (s.link l).lace.txWidth
  (s.linkLanes l).foldl (fun (t : State) k =>
    let x := t.lane k
    if x.lstate = .active && x.logical < w then t.setLane k { x with txPower := power } else t) s

/-- NULL flits for 128 ns at a rate and width (R302): three, two or one codeword slots. -/
def wakeNulls (rate w : Nat) : Nat := (5 * w * (match rate with | 10 => 3 | 9 => 2 | _ => 1) + 1) / 2

/-- `n` NULL flits. -/
def State.sendNulls (s : State) (l : Nat) : Nat → State
  | 0 => s
  | n + 1 => (s.sendNull l).sendNulls l n

/-- The transmitter leaves its sleep (R302): from doze NULL flits for 128 ns and then whatever waits; from off NULL flits until RX_READY
is accepted. -/
def State.wakeTx (s : State) (l : Nat) : State :=
  let x := s.link l
  match x.lace.tx with
  | .dozing =>
    (((s.setLace l { x.lace with tx := .awake }).txPower l 0).sendNulls l (wakeNulls x.rate x.lace.txWidth)).pump l 16
  | .off => (((s.setLace l { x.lace with tx := .waking }).txPower l 0).sendNull l).pump l 16
  | _ => s

/-- The memory tier has not performed all requests of a link that were passed to it. -/
def State.vc0Busy (s : State) (l : Nat) : Bool :=
  s.mem.channel.any (fun c => c.2.any (fun r => r.link = l)) || s.mem.atBank.any (fun c => c.2.any (fun r => r.link = l))

/-- A WRITE or READ does not have to wait for what it reaches behind its space (log 146). -/
def State.laceOpen (s : State) (f : List Byte) : Bool :=
  let r := reqHead f
  let ty := fTy (flitHead f)
  !(ty = 2 || ty = 3) || s.barOpen (spaceBar (qSpace r)) (qAddr r) (qLen r) (ty = 2) (slice f 24 (qLen r))

/-- A VC0 flit is held: a request from QUIESCING on (R261, R292), and in SEQ order (R294) behind those held, while the tier has earlier
ones of its partner, or while what it reaches has to wait (log 146). An MCTP flit is held until it is handled. -/
def State.holdsRequests (s : State) (l : Nat) (f : List Byte) : Bool :=
  let ty := fTy (flitHead f)
  ty = 7 || (ty = 2 || ty = 3 || ty = 5 || ty = 6)
    && (s.dev.state = .quiescing || !(s.link l).lace.requests.isEmpty || s.vc0Busy l || !s.laceOpen f)

/-- An accepted sequenced flit (R290, R296, R300): it takes a buffer; a malformed one, or one of types 2 to 7 for another
partner, is discarded and counted with its buffer freed. -/
def State.acceptFlit (s : State) (l : Nat) (f : List Byte) : State :=
  let h := flitHead f
  let ty := fTy h
  let x := (s.link l).lace
  let s1 := s.setLace l { x with
    rxNext := (x.rxNext + 1) % 4096, waiting := false, nakDue := false, heard := true, unreported := x.unreported + 1
    held := if 2 ≤ ty then setVc x.held (fVc h) (vcCount x.held (fVc h) + 1) else x.held }
  if !flitFits h then (if 2 ≤ ty then (s1.laceError l).freeBuffer l (fVc h) else s1.laceError l)
  else if 2 ≤ ty && ty ≤ 7 && fPartner h ≠ s.rd 0x5111 l then (s1.bump 0x5114 l 1).freeBuffer l (fVc h)
  else if s.holdsRequests l f then
    s1.setLace l { (s1.link l).lace with requests := (s1.link l).lace.requests ++ [f] }
  else s1.performFlit l f

/-- Accepted flits are reported in ACK_SEQ at least once per 16 (R297), for which a sleeping transmitter wakes. -/
def State.reportAcks (s : State) (l : Nat) : State :=
  let x := s.link l
  if x.active && 16 ≤ x.lace.unreported then
    if x.lace.tx = .dozing || x.lace.tx = .off then s.wakeTx l else s.sendNull l
  else s

/-- The held flit of a link that is performed next: the first, or from QUIESCING on the first MCTP flit (R350), unless it has to wait
(R294). -/
def State.nextHeld (s : State) (l : Nat) : Option (List Byte) :=
  let q := (s.link l).lace.requests
  match (if s.dev.state = .quiescing then q.find? (fun f => decide (fTy (flitHead f) = 7)) else q.head?) with
  | some f => if s.vc0Busy l || !s.laceOpen f then none else some f
  | none => none

/-- A held flit is taken. -/
def State.takeHeld (s : State) (l : Nat) (f : List Byte) : State :=
  let x := (s.link l).lace
  s.setLace l { x with requests := x.requests.erase f }

/-- A flit arrives on an ACTIVE Lace link (R296–R298). A failure before the receiver is back from doze is ignored (R298; log 178). -/
def State.receiveFlit (s : State) (l : Nat) (f : List Byte) : State :=
  if !((s.link l).active && s.isLace l && s.portClock l) then s
  else if !flitGood f then (if (s.link l).lace.sleepRx = 1 then s else (s.bump 0x5134 l 1).badFlit l)
  else
    let h := flitHead f
    let x := (s.link l).lace
    if flitPlain f then (if flitFits h then s.takeHead l h else (s.takeHead l h).laceError l)
    else if fSeq h = x.rxNext then
      let s1 := s.takeHead l h
      if !(s1.link l).active then s1
      else if 2 ≤ fTy h && vcBuffers (fVc h) ≤ vcCount (s1.link l).lace.held (fVc h) then s1.retrain l 3
      else (s1.acceptFlit l f).reportAcks l
    else if 1 ≤ (4096 + x.rxNext - fSeq h) % 4096 && (4096 + x.rxNext - fSeq h) % 4096 ≤ 128 then
      (s.takeHead l h).sendNull l
    else s.badFlit l

/-- LACE_WRITE (R291). -/
def execLaceWrite (link : Nat) (flit : List Byte) (s : State) : Host.Outcome State Fault Refusal :=
  if fTy (flitHead flit) = 2 then .next (s.receiveFlit link flit) else .next s

/-- LACE_READ (R291). -/
def execLaceRead (link : Nat) (flit : List Byte) (s : State) : Host.Outcome State Fault Refusal :=
  if fTy (flitHead flit) = 3 then .next (s.receiveFlit link flit) else .next s

/-- LACE_ATOMIC (R291). -/
def execLaceAtomic (link : Nat) (flit : List Byte) (s : State) : Host.Outcome State Fault Refusal :=
  if fTy (flitHead flit) = 5 then .next (s.receiveFlit link flit) else .next s

/-- LACE_FLUSH (R293). -/
def execLaceFlush (link : Nat) (flit : List Byte) (s : State) : Host.Outcome State Fault Refusal :=
  if fTy (flitHead flit) = 6 then .next (s.receiveFlit link flit) else .next s

/-- LACE_FLUSH_DONE (R293): the oldest FLUSH of a link completes once every earlier write is performed. -/
def execLaceFlushDone (link : Nat) (s : State) : Host.Outcome State Fault Refusal :=
  match (s.link link).lace.flushes with
  | (tag, age) :: t =>
    if s.writesBefore link age then .next s
    else
      .next (((s.setLace link { (s.link link).lace with flushes := t }).complete link tag 0 false []).freeBuffer link 0)
  | [] => .next s

/-- LACE_COMPLETION (R293). -/
def execLaceCompletion (link : Nat) (flit : List Byte) (s : State) : Host.Outcome State Fault Refusal :=
  if fTy (flitHead flit) = 4 then .next (s.receiveFlit link flit) else .next s

/-- LACE_USER_FLIT (R290). -/
def execLaceUserFlit (link : Nat) (flit : List Byte) (s : State) : Host.Outcome State Fault Refusal :=
  if 8 ≤ fTy (flitHead flit) then .next (s.receiveFlit link flit) else .next s

/-- LACE_SHIM_TX_FLIT (R290): a user flit from the shim's panel. -/
def execLaceShimTxFlit (link partner : Nat) (flit : List Byte) (s : State) : Host.Outcome State Fault Refusal :=
  if s.shimRuns (portOf link) && s.isLace link then .next (s.shimSend (portOf link) 8 link partner 0 false flit)
  else .next s

/-- LACE_NULL_FLIT (R289). -/
def execLaceNullFlit (link : Nat) (flit : List Byte) (s : State) : Host.Outcome State Fault Refusal :=
  if fTy (flitHead flit) = 0 then .next (s.receiveFlit link flit) else .next s

/-- What a lane's receiver makes of a codeword (R229, R230, R279): FLIT_OFFSET and block; none where it cannot be corrected. -/
def State.readBlock (s : State) (c : RxCodeword) : Option (Nat × List Byte) :=
  let x := s.lane c.lane
  readCodeword (levelSymbols 544 (heardLevels x.rate x.inverted c.levels)) (scramblerBits (5120 * c.since) (scramblerLoad x.logical)).2

/-- A codeword that cannot be corrected counts once, in the order of its lane's slots (R280). -/
def State.countBlock (s : State) (l : Nat) (c : RxCodeword) : State :=
  let x := s.lane c.lane
  if s.linkOfLane c.lane = l && x.badSlot ≤ c.slot && (s.readBlock c).isNone then
    (s.setLane c.lane { x with badSlot := c.slot + 1 }).bump 0x5135 l 1
  else s

/-- The `nth` flit that begins in the first of consecutive blocks (R279, R280). -/
def flitIn (nth : Nat) (l : List (Nat × List Byte)) : List Byte :=
  slice (l.flatMap (fun b => b.2)) ((l.headD (0, [])).1 + 256 * nth) 256

/-- LACE_BAD_FLIT (R280, R298): the codewords whose blocks hold a flit are decoded, and each that cannot be corrected is counted. In
ACTIVE it makes the flit bad; with every codeword right the flit arrives as any other, ahead of its SEQ or not. -/
def execLaceBadFlit (link nth : Nat) (codewords : List RxCodeword) (s : State) : Host.Outcome State Fault Refusal :=
  let x := s.link link
  if !s.isLace link || x.active && x.lace.sleepRx = 1 then .next s
  else
    let s1 := codewords.foldl (fun (t : State) c => t.countBlock link c) s
    let blocks := codewords.filterMap s.readBlock
    if !x.active then .next s1
    else if blocks.length < codewords.length then .next (s1.badFlit link)
    else .next (s1.receiveFlit link (flitIn nth blocks))

/-- LACE_NAK_RESEND (R298). -/
def execLaceNakResend (link : Nat) (s : State) : Host.Outcome State Fault Refusal :=
  if (s.link link).active && (s.link link).lace.waiting then .next (s.sendNak link) else .next s

/-- LACE_NAK_RECEIVE (R298): a flit that carries NAK. -/
def execLaceNakReceive (link : Nat) (flit : List Byte) (s : State) : Host.Outcome State Fault Refusal :=
  if (flitHead flit).testBit 8 then .next (s.receiveFlit link flit) else .next s

/-- LACE_REPLAY_TIMEOUT (R298). -/
def execLaceReplayTimeout (link : Nat) (s : State) : Host.Outcome State Fault Refusal :=
  if (s.link link).active && s.isLace link then .next (s.startReplay link) else .next s

/-- LACE_CREDIT_NULL (R296). -/
def execLaceCreditNull (link : Nat) (s : State) : Host.Outcome State Fault Refusal :=
  let x := s.link link
  if x.active && s.isLace link && x.lace.tx ≠ .dozing && x.lace.tx ≠ .off then .next (s.sendNull link) else .next s

/-- LACE_RETRAIN (R299, R305). -/
def laceRetrainEffect (l : Nat) : Effect := fun s =>
  if (s.link l).active && s.isLace l then (.ok, s.retrain l 5) else (.stateConflict, s)

/-- LACE_RETRAIN_COMMAND, a write to 0x5132:k (R299). -/
def execLaceRetrainCommand (src : Source) (link value : Nat) (s : State) : Host.Outcome State Fault Refusal :=
  .next (s.command src 0x5132 link 2 (leBytes 1 value) [] true (s.beginsLink link) (laceRetrainEffect link))

/-- LACE_PARTNER_IDLE (R299): idle on a lane that receives, with no accepted DOZE or OFF to explain it. -/
def execLacePartnerIdle (link : Nat) (s : State) : Host.Outcome State Fault Refusal :=
  if (s.link link).lace.sleepRx = 0 then .next (s.retrain link 4) else .next s

/-- A lane of a link moves to LOCK for a retrain (R299): equalizers, numbers and schedule are kept. -/
def Lane.relock (x : Lane) : Lane :=
  if x.lstate = .active then
    { x with lstate := .lock, txPower := 0, rxPower := 0, markerLane := none, locked := false, markerBad := 0 }
  else x

/-- LACE_RETRAIN_IDLE_END (R299): after 2 µs of idle the lanes move to LOCK. -/
def execLaceRetrainIdleEnd (link : Nat) (s : State) : Host.Outcome State Fault Refusal :=
  let x := (s.link link).lace
  if x.retraining && x.idling then
    let s1 := s.setLace link { x with idling := false, own := [], ownBlocks := 0 }
    .next ((s1.linkLanes link).foldl (fun (t : State) k => t.setLane k (t.lane k).relock) s1)
  else .next s

/-- The fields of a CAP flit's payload (R286). -/
def capFits (v : Nat) : Bool :=
  let w := bits v 31 24
  bits v 15 8 = 1 && (w = 1 || w = 2 || w = 4 || w = 8 || w = 16)

/-- The replay buffer from the partner's NEXT_SEQ on; nothing of it where NEXT_SEQ lies past it (R299). -/
def replayFrom (seq : Nat) : List (Nat × TxFlit) → List (Nat × TxFlit)
  | [] => []
  | f :: t => if f.1 = seq then f :: t else replayFrom seq t

/-- The first valid CAP flit of an exchange is recorded (R287). -/
def State.recordCap (s : State) (l v : Nat) : State :=
  let x := (s.link l).lace
  let next := bits v 59 48
  let rest := replayFrom next x.replay
  let credit := (List.range 8).foldl (fun (t : Tab Nat) vc => setVc t vc (bits v (16 * vc + 95) (16 * vc + 80))) []
  let s1 := s.wr 0x5131 l (bits v 43 32)
  s1.setLace l { x with
    capSeen := true, peerTypes := bits v 71 64, peerWidth := bits v 31 24, credit := credit, peerTotal := []
    replay := rest, replays := 0, acked := (4095 + next) % 4096
    txNext := if rest.isEmpty then next else x.txNext }

/-- The link width of an exchange (R287). -/
def Lace.agreed (x : Lace) : Nat := if x.peerWidth < x.rxWidth then x.peerWidth else x.rxWidth

/-- The lanes of a link enter ACTIVE (R287): at and above the link width both directions are off. -/
def State.lanesActive (s : State) (l w : Nat) : State :=
  (s.linkLanes l).foldl (fun (t : State) k =>
    let x := t.lane k
    if x.lstate = .exchange then
      let y := { x with lstate := .active, failRun := 0, txPower := if w ≤ x.logical then 2 else 0, rxPower := 0 }
      t.setLane k (if w ≤ x.logical then y.rxOff else y)
    else t) s

/-- The exchange is complete (R287, R299): after a retrain the link is ACTIVE again with no event, replays, and narrows
where the action is in force; otherwise LINK_UP follows. -/
def State.endExchange (s : State) (l : Nat) : State :=
  let x := s.link l
  let w := x.lace.agreed
  let rate := (((s.linkLanes l).find? (fun k => decide ((s.lane k).lstate = .exchange))).map (fun k => (s.lane k).rate)).getD 0
  let s0 := if x.lace.retraining then { s with qm := { s.qm with blocked := s.qm.blocked.erase (portOf l) } } else s
  let s1 := s0.setLink l { x with
    width := w, rate := rate, active := x.lace.retraining, lace := { x.lace with retraining := false, rxNow := w } }
  let s2 := s1.lanesActive l w
  if x.lace.retraining then ((s2.resend l).pump l 16).laceNarrow l else s2

/-- START was sent, and was received on every logical lane of the link width (R287). -/
def Lace.exchanged (x : Lace) : Bool := x.startSent && (List.range x.agreed).all (fun i => x.starts.contains i)

/-- The lanes enter ACTIVE once the exchange is complete (R287). -/
def State.tryEnd (s : State) (l : Nat) : State := if (s.link l).lace.exchanged then s.endExchange l else s

/-- A valid CAP flit on a lane in EXCHANGE (R287): the first is recorded, and CAP flits with ACK 1 answer it from then on; its own ACK
and START are noted. -/
def State.takeCap (s : State) (l k v : Nat) : State :=
  let s1 := if (s.link l).lace.capSeen then s else s.recordCap l v
  let x := (s1.link l).lace
  let i := (s.lane k).logical
  let y := { x with
    ackSeen := x.ackSeen || v.testBit 16
    starts := if v.testBit 17 && !x.starts.contains i then x.starts ++ [i] else x.starts }
  (s1.setLace l y).tryEnd l

/-- CAP_FLIT_RECEIVE (R287), on a lane: a flit whose CRC is wrong counts; one of another VERSION or an invalid RX_WIDTH is ignored. -/
def execCapFlitReceive (lane : Nat) (flit : List Byte) (s : State) : Host.Outcome State Fault Refusal :=
  let v := leValue (slice flit 8 26)
  let l := s.linkOfLane lane
  if s.isLace lane && (s.lane lane).lstate = .exchange then
    if !flitGood flit then .next (s.bump 0x5134 l 1)
    else if fTy (flitHead flit) = 1 && v % 256 = 1 && capFits v then .next (s.takeCap l lane v)
    else .next s
  else .next s

/-- A width change is in progress in the device's transmit direction (R301, R303). -/
def Lace.widthMoves (x : Lace) : Bool :=
  x.wantTx ≠ 0 || !x.widths.isEmpty || x.sendq.any (fun f => (widthNamed f.ty f.payload).isSome)

/-- The device may put its transmit direction to sleep (R301): nothing to send, nothing unacknowledged, no width change. -/
def State.laceIdle (s : State) (l : Nat) : Bool :=
  let x := s.link l
  x.active && s.isLace l && x.lace.sendq.isEmpty && x.lace.replay.isEmpty && !x.lace.widthMoves

/-- LACE_DOZE_IDLE_TIMER (R301): a DOZE flit is sent. -/
def execLaceDozeIdleTimer (link : Nat) (s : State) : Host.Outcome State Fault Refusal :=
  if s.rd 0x5139 (portOf link) ≠ 0 && s.laceIdle link && (s.link link).lace.tx = .awake then
    let s1 := s.sendLink link [0x02]
    .next (s1.setLace link { (s1.link link).lace with tx := .dozeSent })
  else .next s

/-- LACE_OFF_IDLE_TIMER (R301): an OFF flit is sent, from doze once the transmitter has resumed. -/
def execLaceOffIdleTimer (link : Nat) (s : State) : Host.Outcome State Fault Refusal :=
  let x := (s.link link).lace
  if s.rd 0x513A (portOf link) ≠ 0 && s.laceIdle link && (x.tx = .awake || x.tx = .dozing) then
    let s1 := (s.wakeTx link).sendLink link [0x03]
    .next (s1.setLace link { (s1.link link).lace with tx := .offSent })
  else .next s

/-- LACE_SLEEP_ACKED (R301): the DOZE or OFF flit is acknowledged and the transmit lanes sleep; with a width change in progress they stay
awake (log 178). -/
def execLaceSleepAcked (link : Nat) (s : State) : Host.Outcome State Fault Refusal :=
  let x := (s.link link).lace
  if x.replay.isEmpty then
    if x.widthMoves && (x.tx = .dozeSent || x.tx = .offSent) then .next ((s.setLace link { x with tx := .awake }).pump link 16)
    else match x.tx with
    | .dozeSent => .next ((s.setLace link { x with tx := .dozing }).txPower link 1)
    | .offSent => .next ((s.setLace link { x with tx := .off }).txPower link 2)
    | _ => .next s
  else .next s

/-- LACE_DOZE_FLIT (R301). -/
def execLaceDozeFlit (link : Nat) (flit : List Byte) (s : State) : Host.Outcome State Fault Refusal :=
  if fTy (flitHead flit) = 1 && leValue (slice flit 8 1) = 2 then .next (s.receiveFlit link flit) else .next s

/-- LACE_OFF_FLIT (R301). -/
def execLaceOffFlit (link : Nat) (flit : List Byte) (s : State) : Host.Outcome State Fault Refusal :=
  if fTy (flitHead flit) = 1 && leValue (slice flit 8 1) = 3 then .next (s.receiveFlit link flit) else .next s

/-- RX_READY with the width ready, ahead of what waits (R302). -/
def State.sendReady (s : State) (l w : Nat) : State :=
  let x := (s.link l).lace
  State.pump (s.setLace l { x with sendq := ⟨1, 0, s.rd 0x5131 l, [0x04, BitVec.ofNat 8 w]⟩ :: x.sendq }) l 16

/-- The ACTIVE lanes of a link below a width have marker lock. -/
def State.lockedTo (s : State) (l w : Nat) : Bool :=
  (s.linkLanes l).all (fun k => (s.lane k).lstate ≠ .active || w ≤ (s.lane k).logical || (s.lane k).locked)

/-- The width that the receiving lanes are to be ready at: the one they slept at, or the link width (R302, R303). -/
def Link.readyWidth (x : Link) : Nat := if x.lace.sleepRx = 2 then x.lace.rxNow else x.width

/-- The signal is back on lanes in RX_OFF (R302): the device's own transmitter wakes if it sleeps; once the lanes have marker lock,
RX_READY names the width ready. -/
def State.signalBack (s : State) (l : Nat) : State :=
  let s1 := (s.setLace l { (s.link l).lace with signal := true }).wakeTx l
  let x := s1.link l
  if s1.lockedTo l x.readyWidth then
    ((s1.setLace l { x.lace with sleepRx := 0, signal := false }).rxLanes l x.readyWidth).sendReady l x.readyWidth
  else s1

/-- The partner's signal returns (R302): from doze the receiver is back; from off, or on the lanes of a widening, R302's exchange. -/
def State.wakeRx (s : State) (l : Nat) : State :=
  let x := s.link l
  if x.lace.sleepRx = 1 then (s.setLace l { x.lace with sleepRx := 0 }).rxLanes l x.lace.rxNow
  else if x.lace.sleepRx = 2 || x.lace.rxNow < x.width then s.signalBack l
  else s

/-- LACE_DOZE_MAX (R301): after 50 µs the device leaves TX_DOZE. -/
def execLaceDozeMax (link : Nat) (s : State) : Host.Outcome State Fault Refusal :=
  if (s.link link).active && (s.link link).lace.tx = .dozing then .next (s.wakeTx link) else .next s

/-- LACE_WAKE (R302): the device's transmitter restarts, or its receiver is back. -/
def execLaceWake (link : Nat) (receiver : Bool) (s : State) : Host.Outcome State Fault Refusal :=
  if (s.link link).active && s.isLace link then .next (if receiver then s.wakeRx link else s.wakeTx link) else .next s

/-- LACE_RX_READY (R302). -/
def execLaceRxReady (link : Nat) (flit : List Byte) (s : State) : Host.Outcome State Fault Refusal :=
  if fTy (flitHead flit) = 1 && leValue (slice flit 8 1) = 4 then .next (s.receiveFlit link flit) else .next s

/-- LACE_WIDTH_FLIT (R303). -/
def execLaceWidthFlit (link : Nat) (flit : List Byte) (s : State) : Host.Outcome State Fault Refusal :=
  if fTy (flitHead flit) = 1 && leValue (slice flit 8 1) = 5 then .next (s.receiveFlit link flit) else .next s

/-- LACE_NARROW_TIMEOUT (R303): a partner that has not narrowed counts once per action. -/
def execLaceNarrowTimeout (link : Nat) (s : State) : Host.Outcome State Fault Refusal :=
  let x := s.link link
  if x.active && x.lace.narrow && !x.lace.narrowCounted && s.narrowWidth link x.width < x.lace.rxNow then
    .next (((s.setLace link { x.lace with narrowCounted := true }).bump 0x511A (portOf link) 1).event 0x0A 0x06 link)
  else .next s

/-- LACE_REQUEST_TIMEOUT (R293): the tag is freed and its requester acts as on a lost completion. -/
def execLaceRequestTimeout (link tag : Nat) (s : State) : Host.Outcome State Fault Refusal :=
  if s.isLace link then
    match (s.link link).asker tag with
    | some who => .next ((s.dropRequest link tag).settleAsk who)
    | none => .next s
  else .next s

/-- WAKE_LOCK_TIMEOUT (R244, R299): a receiver that left RX_OFF, after a sleep or on a widening, has no marker lock. -/
def execWakeLockTimeout (link : Nat) (s : State) : Host.Outcome State Fault Refusal :=
  let x := s.link link
  if x.active && x.lace.signal && !s.lockedTo link x.readyWidth then .next (s.retrain link 6) else .next s

/-- NARROW_LINKS is invoked (R275, R303): every ACTIVE link is asked to narrow. -/
def State.narrowLinks (s : State) : State :=
  ((List.range 96).filter s.linkActive).foldl State.meetNarrow { s with throttle := { s.throttle with narrow := true } }

/-- A link after NARROW_LINKS is withdrawn (R275, R303): the full width is asked for. -/
def State.widenLink (s : State) (l : Nat) : State :=
  let x := s.link l
  let s1 := s.setLink l { x with narrowed := false, lace := { x.lace with narrow := false, narrowCounted := false } }
  if s.isLace l && x.active then s1.setTxWidth l x.width
  else if x.active && x.l0p ≠ 0 then s1.emit (.l0p l x.width)
  else s1

/-- NARROW_LINKS is withdrawn. -/
def State.widenLinks (s : State) : State :=
  (List.range 96).foldl State.widenLink { s with throttle := { s.throttle with narrow := false } }

/-- LACE_STATUS (R306). -/
def State.laceStatus (s : State) (l : Nat) : Nat :=
  let x := s.link l
  let z := x.lace
  if x.active && s.isLace l then
    z.peerTypes + 2 ^ 8 * z.replay.length + 2 ^ 16 * flag (z.peerNonce < z.nonce) + 2 ^ 17 * x.width + 2 ^ 22 * z.rxNow
      + 2 ^ 27 * z.txWidth
  else 0

end Sys2Proof.Machine
end

