-- ==== Sys2Proof/Machine/Wear.lean ====
section
/-! DEFINITION. Bond wear, mending and the NV store (spec/16), and the work the journal gives the NV engine (R363,
R364). -/

namespace Sys2Proof.Machine

/-- The tier a sensor is on (R391). -/
def sensorTier (n : Nat) : Nat := if n < 16 then 0 else if n < 48 then 1 else if n < 112 then 2 else if n < 128 then 3 else 4

/-- A sensor marked FAILED (R392). -/
def State.sensorFailed (s : State) (n : Nat) : Bool := (s.rd 0x2206 (n / 32)).testBit (n % 32)

/-- A sensor's reading of the last sample in 1/16 °C, where it has one (R392). -/
def State.sensor (s : State) (n : Nat) : Option Int :=
  if s.sensorFailed n || !s.th.sampled.contains (sensorTier n) then none else some (s16 (s.rd 0x2201 n))

/-- A slot of 256 bits (R421). -/
def nvSlot (data gen : Nat) (committed : Bool) : Nat :=
  data + 2 ^ 128 * gen + 2 ^ 144 * crc16 (msbBits 144 (data + 2 ^ 128 * gen)) + (if committed then 0xA5 * 2 ^ 160 else 0)

/-- A usable slot (R422). -/
def nvUsable (w : Nat) : Bool := bits w 167 160 = 0xA5 && bits w 159 144 = crc16 (msbBits 144 (w % 2 ^ 144))

/-- The store as shipped: pairs 8–15 hold committed zeros of generation 0; the others hold nothing (log 19). -/
def nvDefault (k : Nat) : Nat := if k % 2 = 0 ∧ 16 ≤ k ∧ k < 32 then nvSlot 0 0 true else 0

/-- A slot of a pair. -/
def Nv.slot (x : Nv) (pair k : Nat) : Nat := Tab.look nvDefault x.slots (pair * 2 + k)

/-- The generations a pair can be read as. -/
def Nv.gens (x : Nv) (pair : Nat) : List Nat :=
  ([0, 1].filter (fun k => nvUsable (x.slot pair k))).map (fun k => bits (x.slot pair k) 143 128)

/-- The newer of two generations (R422). -/
def newerGen (a b : Nat) : Nat :=
  let d := (65536 + a - b) % 65536
  if 1 ≤ d ∧ d ≤ 32767 then a else b

/-- The generation a group reads as (R422). -/
def Nv.groupGen (x : Nv) (pairs : List Nat) : Option Nat :=
  match pairs with
  | [] => none
  | p :: t =>
    match (x.gens p).filter (fun g => t.all (fun q => (x.gens q).contains g)) with
    | [] => none
    | g :: l => some (l.foldl newerGen g)

/-- The slot of a pair that holds a generation. -/
def Nv.slotOf (x : Nv) (pair gen : Nat) : Nat :=
  if nvUsable (x.slot pair 0) && bits (x.slot pair 0) 143 128 = gen then 0 else 1

/-- The data of a group, where it can be read (R422). -/
def Nv.group (x : Nv) (pairs : List Nat) : Option (List Nat) :=
  (x.groupGen pairs).map (fun g => pairs.map (fun p => x.slot p (x.slotOf p g) % 2 ^ 128))

/-- The slot of a pair that a write takes, and the generation it gives (R422); slot 0 and generation 1 where the group
cannot be read (log 20). -/
def Nv.target (x : Nv) (pairs : List Nat) (pair : Nat) : Nat × Nat :=
  match x.groupGen pairs with
  | some g => (1 - x.slotOf pair g, (g + 1) % 65536)
  | none => (0, 1)

/-- Put the slots of a group: committed, or with COMMIT clear. -/
def Nv.put (x : Nv) (job : NvJob) (n : Nat) (committed : Bool) : Nv :=
  let ps := job.pairs.map (·.1)
  { x with slots := (job.pairs.take n).foldl (fun t p =>
      Tab.put nvDefault t (p.1 * 2 + (x.target ps p.1).1) (nvSlot (p.2 % 2 ^ 128) (x.target ps p.1).2 committed)) x.slots }

/-- How many pairs of a group the engine has begun: 16 µs each (R422). -/
def NvJob.begun (j : NvJob) (now : Nat) : Nat := (now - j.began) / 16 + 1

/-- A group cut short: no COMMIT of the new generation is programmed, so the group reads as before (R422, R424). -/
def State.cutJob (s : State) : State :=
  match s.nv.job with
  | some j => { s with nv := { s.nv.put j (j.begun s.dev.aonTime) false with job := none } }
  | none => s

/-- Read a group; an unreadable one takes its default and is reported (R422). -/
def State.readGroup (s : State) (pairs : List Nat) : Option (List Nat) × State :=
  match s.nv.group pairs with
  | some l => (some l, s)
  | none => (none, (s.bump 0x2306 3 1).event 0x18 0x04 (pairs.headD 0))

/-- The pairs of journal position e (R423). -/
def entryPairs (e : Nat) : List Nat := (List.range 4).map (fun i => 16 + 4 * e + i)

/-- A copied journal entry of 512 bits. -/
def Nv.entry (x : Nv) (e : Nat) : Option Nat :=
  (x.group (entryPairs e)).map (fun l => leValue (l.flatMap (fun d => leBytes 16 d)))

/-- The newer of two copied entries by SEQ modulo 2^32 (R423). -/
def newerEntry (a b : Nat × Nat) : Nat × Nat :=
  let d := (2 ^ 32 + bits b.2 95 64 - bits a.2 95 64) % 2 ^ 32
  if 1 ≤ d ∧ d < 2 ^ 31 then b else a

/-- The newest copied entry: its position and the entry (R423). -/
def Nv.newest (x : Nv) : Option (Nat × Nat) :=
  match (List.range 256).filterMap (fun e => (x.entry e).map (fun v => (e, v))) with
  | [] => none
  | a :: l => some (l.foldl newerEntry a)

/-- The next journal entry the copier takes: it skips to the entry 256 behind the newest (R364). -/
def Journal.next (x : Journal) : Nat :=
  if 256 < (2 ^ 32 + x.count - x.copied) % 2 ^ 32 then (2 ^ 32 - 256 + x.count) % 2 ^ 32 else x.copied

/-- The position the next copy goes to: the one after the newest (log 21). -/
def Nv.nextEntry (x : Nv) : Nat := match x.newest with
  | some a => (a.1 + 1) % 256
  | none => 0

/-- The tracker of an interface. -/
def Fray.init : Fray := ⟨false, false, 0, 0⟩

/-- The tracker of an interface. -/
def State.fray (s : State) (i : Nat) : Fray := Tab.look (fun _ => Fray.init) s.wear.fray i

/-- A temperature as stored: 1/16 °C from −40 °C (R423). -/
def frayTemp (t : Int) : Nat := (t + 640).toNat % 4096

/-- The fray state of an interface (R423). -/
def Fray.word (x : Fray) : Nat :=
  frayTemp x.ext + 2 ^ 12 * frayTemp x.peak + 2 ^ 24 * flag x.down + 2 ^ 25 * flag x.valid

/-- The state of a tracker from its word. -/
def frayOf (w : Nat) : Fray :=
  ⟨w.testBit 25, w.testBit 24, (bits w 23 12 : Int) - 640, (w % 4096 : Int) - 640⟩

/-- The data of a group as the engine begins it (R363, R364, R423). -/
def State.jobPairs (s : State) (j : NvJob) : List (Nat × Nat) :=
  match j.kind with
  | 0 | 2 => [(8, s.rd 0x2300 1 + 2 ^ 64 * s.rd 0x2300 2), (9, s.rd 0x2300 3 + 2 ^ 64 * s.rd 0x2300 4)]
  | 1 => [(12, (16777216 + s.jrn.seq) % 2 ^ 32)]
  | 3 => [(10, (List.range 4).foldl (fun n i => n + (s.fray i).word * 2 ^ (32 * i)) 0)]
  | 5 =>
    let v := Tab.look (fun _ => 0) s.jrn.ring (s.jrn.next % 4096)
    (List.range 4).map (fun i => (16 + 4 * s.nv.nextEntry + i, v / 2 ^ (128 * i) % 2 ^ 128))
  | _ => j.pairs

/-- Writes are made from BOOT through SAFE_STOP while VCC_BASE is in range (R424). -/
def State.nvWrites (s : State) : Bool :=
  !s.dev.held && s.pwr.inRange.contains 1 &&
    match s.dev.state with
    | .off | .aon | .fault => false
    | _ => true

/-- The engine takes its next group, in the order of R424. -/
def State.nvStart (s : State) : State :=
  if s.nv.job.isSome || !s.nvWrites then s
  else
    match (List.range 7).findSome? (fun k => s.nv.waits.find? (fun j => j.kind = k)) with
    | some j =>
      let j1 := { j with pairs := s.jobPairs j, began := s.dev.aonTime }
      { s with
        nv := { s.nv with job := some j1, waits := s.nv.waits.erase j }
        jrn := if j.kind = 5 then { s.jrn with copied := s.jrn.next } else s.jrn }
    | none => s

/-- Work of a kind is waiting or in progress. -/
def Nv.has (x : Nv) (kind : Nat) : Bool :=
  x.waits.any (fun j => j.kind = kind) || (match x.job with
    | some j => j.kind = kind
    | none => false)

/-- Queue a group of a kind. -/
def State.nvQueue (s : State) (kind : Nat) (pairs : List (Nat × Nat)) : State :=
  { s with nv := { s.nv with waits := s.nv.waits ++ [⟨kind, pairs, 0⟩] } }

/-- Queue a group of a kind that is taken once at a time. -/
def State.nvOnce (s : State) (kind : Nat) (pairs : List (Nat × Nat)) : State :=
  if s.nv.waits.any (fun j => j.kind = kind) then s else s.nvQueue kind pairs

/-- Entries that waited for a new reserve are written, each with its answer (R359, R363). -/
def State.flushWaiting (s : State) : Nat → State
  | 0 => s
  | n + 1 =>
    match s.jrn.waiting with
    | [] => s
    | (r, o) :: t =>
      if s.jrn.seq = s.jrn.reserve then s
      else
        let s1 := State.journalWrite { s with jrn := { s.jrn with waiting := t } } r false
        State.flushWaiting (s1.entryDone r o) n

/-- What the commit of a group brings with it. -/
def State.jobDone (s : State) (j : NvJob) : State :=
  match j.kind with
  | 0 => { s with nv := { s.nv with saved := true } }
  | 1 =>
    State.flushWaiting { s with jrn := { s.jrn with reserve := (j.pairs.headD (0, 0)).2 % 2 ^ 32 } } s.jrn.waiting.length
  | 5 => { s with jrn := { s.jrn with copied := (s.jrn.copied + 1) % 2 ^ 32 } }
  | 6 => s.emit (.nvPort 0)
  | _ => s

/-- NV_GROUP_COMMIT_DONE (R422, R424): nothing is written while VCC_BASE is out of range. -/
def execNvGroupCommitDone (s : State) : Host.Outcome State Fault Refusal :=
  match (if s.nvWrites then s.nv.job else none) with
  | some j =>
    let s1 := { s with nv := { s.nv.put j j.pairs.length true with job := none } }
    .next ((s1.count64 0x2306 2 j.pairs.length).jobDone j).nvStart
  | none => .next s

/-- JOURNAL_NV_COPY (R364): the copier takes the next entry in SEQ order; none is taken from step 0 of a stop until
SAFE_STOP. -/
def execJournalNvCopy (s : State) : Host.Outcome State Fault Refusal :=
  if s.jrn.copied ≠ s.jrn.count ∧ !s.jrn.copyHeld ∧ !s.nv.has 5 ∧ s.nvWrites then .next (s.nvQueue 5 []).nvStart
  else .next s

/-- SEQ_RESERVE_COMMIT (R363): the next SEQ is within 8,388,608 of the reserve, so a new one is committed. -/
def execSeqReserveCommit (s : State) : Host.Outcome State Fault Refusal :=
  if (2 ^ 32 + s.jrn.reserve - s.jrn.seq) % 2 ^ 32 ≤ 8388608 ∧ !s.nv.has 1 then .next (s.nvQueue 1 []).nvStart
  else .next s

/-- FRAY_PERIODIC_SAVE (R423, R424): pairs 8–9 and then pair 10; merged into a stop save that waits. -/
def execFrayPeriodicSave (s : State) : Host.Outcome State Fault Refusal :=
  if s.nv.waits.any (fun j => j.kind = 0) then .next s
  else .next ((s.nvOnce 2 []).nvOnce 3 []).nvStart

/-- Whether firmware may write a group (R423): its area, or whole certificate groups in MANUFACTURE and RETURNED. -/
def State.nvArea (s : State) (pair n : Nat) : Bool :=
  1552 ≤ pair && pair + n ≤ 4096 && 1 ≤ n && n ≤ 16
    || (s.lifecycle = 1 || s.lifecycle = 4) && 1040 ≤ pair && pair < 1552 && n = 16 && pair % 16 = 0

/-- FIRMWARE_NV_WRITE (R424, R425): refused as busy while the orderly stop runs. A group outside the areas firmware may
write is refused in the same way (log 22). -/
def execFirmwareNvWrite (pair : Nat) (data : List Nat) (s : State) : Host.Outcome State Fault Refusal :=
  if !s.fwRuns then .next s
  else if s.dev.stopAsserted || !s.nvArea pair data.length then .next (s.emit (.nvPort 1))
  else .next (s.nvQueue 6 ((List.range data.length).map (fun i => (pair + i, data.getD i 0 % 2 ^ 128)))).nvStart

/-- Step 0 of the orderly stop at the NV store (R403, R424): no new copy; a firmware group in its data phase is abandoned;
then the stop save comes first. -/
def State.stopNv (s : State) : State :=
  let s1 := { s with jrn := { s.jrn with copyHeld := true }, nv := { s.nv with saved := false } }
  let s2 := match s1.nv.job with
    | some j =>
      if j.kind = 6 ∧ s1.dev.aonTime < j.began + 16 * j.pairs.length then s1.cutJob.emit (.nvPort 1) else s1
    | none => s1
  let refused := s2.nv.waits.filter (fun j => j.kind = 6)
  let s3 := refused.foldl (fun (t : State) _ => t.emit (.nvPort 1)) s2
  State.nvStart (State.nvQueue { s3 with nv := { s3.nv with
    waits := s3.nv.waits.filter (fun j => decide (j.kind = 1 ∨ j.kind = 4)) } } 0 [])

/-- The NV store is idle (R403 step 5). -/
def State.nvIdle (s : State) : Bool := s.nv.job.isNone && s.nv.waits.isEmpty

/-- Power or every clock is gone: the group in progress is left whole or not made, and waiting work is lost (R406,
R424). -/
def State.nvLost (s : State) : State :=
  let s1 := s.cutJob
  { s1 with nv := { s1.nv with waits := [] } }

/-- The wear index of a fray record (R420). -/
def wearIndex (w : Nat) : Nat := w % 2 ^ 20 + 8 * bits w 36 20 + 64 * bits w 50 37 + 512 * bits w 61 51

/-- The highest level an index has reached (R420). -/
def wearLevel (n : Nat) : Nat := if 1000000 ≤ n then 3 else if 800000 ≤ n then 2 else if 500000 ≤ n then 1 else 0

/-- A record with one more cycle of depth d, in 1/16 °C (R418); a bin saturates (R419). -/
def frayCount (w : Nat) (d : Int) : Nat :=
  if 1280 ≤ d then (if bits w 61 51 = 2047 then w else 2 ^ 51 + w)
  else if 640 ≤ d then (if bits w 50 37 = 16383 then w else 2 ^ 37 + w)
  else if 320 ≤ d then (if bits w 36 20 = 131071 then w else 2 ^ 20 + w)
  else if 160 ≤ d then (if w % 2 ^ 20 = 1048575 then w else w + 1)
  else w

/-- The tracker's next state, and the depth of a cycle that ends (R418). -/
def Fray.next (x : Fray) (m : Int) : Fray × Option Int :=
  if !x.valid then ({ x with valid := true, down := false, ext := m }, none)
  else if !x.down then
    if x.ext < m then ({ x with ext := m }, none)
    else if 32 ≤ x.ext - m then ({ x with peak := x.ext, down := true, ext := m }, none)
    else (x, none)
  else if m < x.ext then ({ x with ext := m }, none)
  else if 32 ≤ m - x.ext then ({ x with down := false, ext := m }, some (x.peak - x.ext))
  else (x, none)

/-- The temperature of an interface (R417): the mean over both its tiers, rounded down. -/
def State.faceTemp (s : State) (i : Nat) : Option Int :=
  let l := ((List.range 192).filter (fun n => sensorTier n = i || sensorTier n = i + 1)).filterMap s.sensor
  if l.isEmpty then none else some ((l.foldl (· + ·) 0) / (l.length : Int))

/-- An interface's record takes a new value; each level first reached writes WEAR_LEVEL (R420). -/
def State.setFray (s : State) (i w : Nat) : State :=
  let before := wearLevel (wearIndex (s.rd 0x2300 (i + 1)))
  let after := wearLevel (wearIndex w)
  ((List.range 4).filter (fun k => decide (before < k ∧ k ≤ after))).foldl
    (fun (t : State) k => t.event 0x18 0x01 (256 * i + k)) (s.wr 0x2300 (i + 1) w)

/-- One interface at a whole second (R418). -/
def State.frayStep (s : State) (i : Nat) : State :=
  match s.faceTemp i with
  | none => s
  | some m =>
    let r := (s.fray i).next m
    let s1 := { s with wear := { s.wear with fray := Tab.put (fun _ => Fray.init) s.wear.fray i r.1 } }
    match r.2 with
    | some d => s1.setFray i (frayCount (s1.rd 0x2300 (i + 1)) d)
    | none => s1

/-- FRAY_SAMPLE (R417, R418): in every state except OFF. -/
def execFraySample (s : State) : Host.Outcome State Fault Refusal :=
  if s.dev.state = .off then .next s else .next ((List.range 4).foldl State.frayStep s)

/-- At POR the counts and the trackers are restored, and the highest level each interface has reached is reported (R420,
R425). -/
def State.restoreFray (s : State) : State :=
  let r := s.readGroup [8, 9]
  let q := r.2.readGroup [10]
  let recs := leValue ((r.1.getD []).flatMap (fun d => leBytes 16 d))
  let st := (q.1.getD [0]).headD 0
  (List.range 4).foldl (fun (t : State) i =>
    let w := bits (recs / 2 ^ (64 * i)) 61 0
    let t1 := State.wr { t with wear := { t.wear with
      fray := Tab.put (fun _ => Fray.init) t.wear.fray i (frayOf (bits (st / 2 ^ (32 * i)) 25 0)) } } 0x2300 (i + 1) w
    let k := wearLevel (wearIndex w)
    if k = 0 then t1 else t1.event 0x18 0x01 (256 * i + k)) q.2

/-- The mend summary of the previous full test (R427). -/
def State.readSummary (s : State) : State :=
  let r := s.readGroup [11]
  (List.range 4).foldl (fun (t : State) i => t.wr 0x2305 (i + 1) ((r.1.getD [0]).headD 0 / 2 ^ (16 * i) % 65536)) r.2

/-- The groups of an interface (R414). -/
def faceGroups (i : Nat) : Nat := if i = 0 then 6144 else if i = 1 then 102400 else 51200

/-- The entry a group takes from its failed bonds; none where it cannot be mended (R415, R416). -/
def mendEntry (failed : List Nat) : Option Nat :=
  match failed.eraseDups with
  | [] => some 0
  | [64] => some 0x80
  | [b] => some (0x40 + b)
  | _ => none

/-- The failing bonds of one group. -/
def failedOf (l : List (Nat × Nat × Nat)) (i g : Nat) : List Nat :=
  (l.filter (fun b => b.1 = i ∧ b.2.1 = g ∧ b.2.2 ≤ 64)).map (fun b => b.2.2)

/-- The entries of an interface. -/
def State.mendOf (s : State) (i : Nat) : List Nat := (s.wear.mend.filter (fun e => e.1 / 2 ^ 17 = i)).map (·.2)

/-- The bond test of one interface (R416): every entry is set, BOND_TEST_DONE is written, and BOND_UNMENDABLE for each group that cannot be
mended; true where there is one. -/
def State.testFace (s : State) (l : List (Nat × Nat × Nat)) (i : Nat) : Bool × State :=
  let gs := ((l.filter (fun b => b.1 = i ∧ b.2.1 < faceGroups i ∧ b.2.2 ≤ 64)).map (fun b => b.2.1)).eraseDups
  let kept := Tab.keep (fun k => decide (k / 2 ^ 17 ≠ i)) s.wear.mend
  let m := gs.foldl (fun t g => Tab.put (fun _ => 0) t (2 ^ 17 * i + g) ((mendEntry (failedOf l i g)).getD 0)) kept
  let s1 := { s with wear := { s.wear with mend := m } }
  let n := (s1.mendOf i).length
  let s2 := (s1.wr 0x2303 (i + 1) ((s1.mendOf i).filter (fun v => v ≠ 0x80)).length).wr 0x2304 (i + 1)
    ((s1.mendOf i).filter (fun v => v = 0x80)).length
  let bad := gs.filter (fun g => (mendEntry (failedOf l i g)).isNone)
  (!bad.isEmpty, bad.foldl (fun (t : State) _ => t.event 0x18 0x03 (4096 * i)) (s2.event 0x18 0x02 (4096 * i + satAdd 4095 0 n)))

/-- BOND_TEST (R416): all interfaces, or interface 0 alone after BASE_WARM; a full test queues the mend summary. -/
def State.bondTest (s : State) (l : List (Nat × Nat × Nat)) (full : Bool) : Bool × State :=
  if full then
    let r := [0, 1, 2, 3].foldl (fun (a : Bool × State) i =>
      let q := a.2.testFace l i
      (a.1 || q.1, q.2)) (false, s.readSummary)
    (r.1, (r.2.nvOnce 4 [(11, (List.range 4).foldl (fun n i =>
      n + satAdd 65535 0 (r.2.mendOf i).length * 2 ^ (16 * i)) 0)]).nvStart)
  else s.testFace l 0

/-- NV_STATUS (R427). -/
def State.nvStatus (s : State) : Nat :=
  flag s.nv.job.isSome + 2 * flag s.nv.saved + 256 * satAdd 255 0 s.nv.waits.length

end Sys2Proof.Machine
end

