-- ==== Sys2Proof/Machine/Throttle.lean ====
section
/-! DEFINITION. Sensor values, inferred T2 temperatures, levels in force and the throttle set (R391–R402, R25). -/

namespace Sys2Proof.Machine

/-- The T1 sensor that T_inf of a site uses (R398). -/
def siteT1 (site : Nat) : Nat := 16 + 2 * (site / 4) + site % 2

/-- The T3 sensor that T_inf of a site uses (R398). -/
def siteT3 (site : Nat) : Nat := 112 + site / 4

/-- A thermistor's reading of the last sample, in 1/16 °C (R393). -/
def State.coolant (s : State) (k : Nat) : Int := s16 (s.rd 0x2204 k)

/-- ΔT_c in 1/16 °C (R398): 10 °C while a thermistor is faulted. -/
def State.coolantRise (s : State) : Int :=
  if s.th.faulted.isEmpty then max 0 (max (s.coolant 2 - s.coolant 1) (s.coolant 3 - s.coolant 1)) else 160

/-- T_inf of a site in 1/16 °C, rounded down (R398, log 32). -/
def State.inferValue (s : State) (site : Nat) (t1 t3 : Int) : Int :=
  let w : Int := s.rd 0x2205 1
  ((w * t1 + (1024 - w) * t3 + (s.rd 0x2205 3 : Int) * s.coolantRise) * 1000000
    + 4096 * (s.rd 0x2205 2 : Int) * (s.rd 0x2003 (site / 4) : Int)) / 1024000000

/-- T_inf of a site as the sample computes it: unavailable without its T1 or T3 reading (R398, R400). -/
def State.infer (s : State) (site : Nat) : Option Int :=
  match s.sensor (siteT1 site), s.sensor (siteT3 site) with
  | some a, some b => some (s.inferValue site a b)
  | _, _ => none

/-- T_inf of a site at the last sample: INFERRED_T2 (R411). -/
def State.inferred (s : State) (site : Nat) : Option Int :=
  let v := s.rd 0x2202 site
  if v = 0x8000 || !s.th.sampled.contains 1 || !s.th.sampled.contains 3 then none else some (s16 v)

/-- A site's bit of DISAGREE_MAP (R399). -/
def State.disagrees (s : State) (site : Nat) : Bool := (s.rd 0x2203 (site / 32)).testBit (site % 32)

/-- SENSOR_DISAGREE holds at a site: its bit is set, or the hundredth sample has come that sets it, which counts with the value that the
bit gives (R399). -/
def State.disagreeing (s : State) (site : Nat) : Bool :=
  s.disagrees site || Tab.look (fun _ => 0) s.th.apart site = 100

/-- The decision value named by a sensor number (R399, R400). -/
def State.decision (s : State) (v : Nat) : Option Int :=
  if 48 ≤ v ∧ v < 112 then
    match s.sensor v, s.inferred (v - 48) with
    | some m, some t => some (if s.disagreeing (v - 48) then max m t else m)
    | some m, none => some m
    | none, some t => if s.sensorFailed v then some t else none
    | none, none => none
  else s.sensor v

/-- A decision value has ceased to exist (R397, R400). -/
def State.valueGone (s : State) (v : Nat) : Bool :=
  s.sensorFailed v
    && (!(decide (48 ≤ v) && decide (v < 112)) || s.sensorFailed (siteT1 (v - 48)) || s.sensorFailed (siteT3 (v - 48)))

/-- A level (0 warm, 1 press, 2 scorch) is on for a value (R396). -/
def State.lit (s : State) (level v : Nat) : Bool := Tab.look (fun _ => false) s.th.lit (256 * level + v)

/-- A panel with press on for want of a usable value of its own T2 or T4 sites (R400). -/
def State.pressForced (s : State) (p : Nat) : Bool :=
  if p < 16 then (List.range 4).any (fun q => s.valueGone (48 + 4 * p + q))
  else (List.range 4).all (fun q => s.valueGone (128 + 4 * (p - 16) + q))

/-- A level is in force for the device (R397, R400). -/
def State.levelOn (s : State) (level : Nat) : Bool :=
  s.th.lit.any (fun x => x.1 / 256 = level) || decide (level = 1) && (List.range 32).any s.pressForced

/-- The values that belong to a panel (R391). -/
def panelValues (p : Nat) : List Nat :=
  if p < 16 then [16 + 2 * p, 17 + 2 * p, 48 + 4 * p, 49 + 4 * p, 50 + 4 * p, 51 + 4 * p, 112 + p]
  else [112 + (p - 16), 128 + 4 * (p - 16), 129 + 4 * (p - 16), 130 + 4 * (p - 16), 131 + 4 * (p - 16)]

/-- A panel is at press (R400, R402). -/
def State.panelPressed (s : State) (p : Nat) : Bool := s.pressForced p || (panelValues p).any (s.lit 1)

/-- The whole-device set of COOLANT_OK_ACTION 1 is applied (R394). -/
def State.coolantPress (s : State) : Bool := s.th.coolantLost && s.rd 0x2200 8 = 1

/-- Press-level actions are in force (R401, R394). -/
def State.pressActs (s : State) : Bool := s.levelOn 1 || s.coolantPress

/-- The ratio that PANEL_CLOCK_ACTION asks of a panel's clock now (R402, R413). -/
def State.wantDivisor (s : State) (p : Nat) : Nat :=
  let a := s.rd 0x2210 1
  if a.testBit 7 && (s.coolantPress || s.levelOn 1 && (a.testBit 4 || s.panelPressed p)) then
    (if bits a 1 0 = 2 then 4 else 2)
  else 1

/-- A panel's clock divider is given a ratio (R57): it changes at the next rising edge of a running clock, and of a stopped clock at
once (log 138), with its event (R63). -/
def State.setDivisor (s : State) (p n : Nat) : State :=
  let x := s.panel p
  if s.clockRuns p then (if x.nextDivisor = n then s else s.setPanel p { x with nextDivisor := n })
  else if x.divisor = n then (if x.nextDivisor = n then s else s.setPanel p { x with nextDivisor := n })
  else (s.setPanel p { x with divisor := n, nextDivisor := n }).event (fabricCode p) 0x12 (256 * p + n)

/-- Press-level division is in force on some panel (R401). -/
def State.divides (s : State) : Bool := s.panels.any (fun x => x.2.nextDivisor ≠ 1)

/-- NARROW_LINKS follows the set in force (R275, R303). -/
def State.setNarrow (s : State) (b : Bool) : State :=
  if s.throttle.narrow = b then s else if b then s.narrowLinks else s.widenLinks

/-- The throttle signal carries the set in force (R25, R401, R402); it is frozen while the orderly-stop signal is
asserted. -/
def State.applyThrottle (s : State) : State :=
  if s.dev.stopAsserted then s
  else
    let on := s.pressActs
    let s1 := (List.range 32).foldl (fun (t : State) p => t.setDivisor p (s.wantDivisor p)) s
    let s2 := { s1 with throttle := { s1.throttle with
      budget := on && s.rd 0x2210 2 = 1
      ddrCap := on && s.rd 0x2210 4 = 1 } }
    s2.setNarrow (on && s.rd 0x2210 3 = 1)

/-- THROTTLED (R33, R400, R401): an action is in force, or press is forced for want of a usable value. -/
def State.throttled (s : State) : Bool :=
  s.throttle.budget || s.throttle.narrow || s.throttle.ddrCap || s.divides
    || (List.range 32).any s.pressForced

/-- Every sensor and every T_inf is below a value in °C: the entry and clear checks of R34 (R399). -/
def State.allBelow (s : State) (limit : Int) : Bool :=
  (List.range 192).all (fun v => match s.sensor v with
    | some t => decide (t < 16 * limit)
    | none => true)
    && (List.range 64).all (fun k => match s.inferred k with
    | some t => decide (t < 16 * limit)
    | none => true)

/-- The present difference T_inf − measured of a site, in 1/16 °C (R399). -/
def State.difference (s : State) (site : Nat) : Option Int :=
  match s.inferred site, s.sensor (48 + site) with
  | some t, some m => some (t - m)
  | _, _ => none

/-- The hottest decision value and its sensor (R411, R412). -/
def State.hottest (s : State) : Option (Nat × Int) :=
  (List.range 192).foldl (fun best v =>
    match s.decision v, best with
    | some t, some b => if b.2 < t then some (v, t) else best
    | some t, none => some (v, t)
    | none, _ => best) none

/-- THERMAL_STATUS (R412). -/
def State.thermalStatus (s : State) : Nat :=
  2 ^ 31 * flag (s.levelOn 2) + 2 ^ 30 * flag (s.levelOn 1) + 2 ^ 29 * flag (s.levelOn 0) + 2 ^ 28 * flag s.th.coolantOk
    + 2 ^ 27 * flag s.th.coolantLost + 2 ^ 26 * flag (decide (s.rd 0x2203 0 + s.rd 0x2203 1 ≠ 0))
    + 2 ^ 25 * flag ((List.range 6).any (fun i => s.rd 0x2206 i ≠ 0)) + 2 ^ 24 * flag (!s.th.faulted.isEmpty)
    + 2 ^ 23 * flag s.th.inletHigh + 2 ^ 22 * flag s.th.pwrOff
    + 2 ^ 8 * (match s.hottest with
      | some x => x.1
      | none => 0)
    + flag s.divides + 2 * flag s.throttle.budget + 4 * flag s.throttle.narrow
    + 8 * flag s.throttle.ddrCap

/-- HOTTEST_VALUE (R411): 0x8000 while no value exists. -/
def State.hottestValue (s : State) : Nat := match s.hottest with
  | some x => u16 x.2
  | none => 0x8000

end Sys2Proof.Machine
end

