-- ==== Sys2Proof/Machine/Stop.lean ====
section
/-! DEFINITION. The orderly stop (R403–R406), entry to FAULT (R34, R407), and entry to MANAGED (R34, R236, R324, R397,
R433). -/

namespace Sys2Proof.Machine

/-- The required rails: all but VCCIO0–3 and VCC_FUSE (R429). -/
def requiredRails : List Nat := [0, 1, 2, 3, 4, 5, 6, 7]

/-- Every required rail is in range (R429). -/
def State.suppliesGood (s : State) : Bool := requiredRails.all (fun r => s.pwr.inRange.contains r)

/-- No stop is in progress. -/
def Stop.none : Stop := ⟨0, 0, 0⟩

/-- The orderly-stop signal is asserted (R25, R403, R406): step 0 to the start of step 3. Only the first cause counts, and only
in MANAGED or OPERATIONAL, with the sequencer not held in a reset (log 62). -/
def State.assertStop (s : State) (why : Nat) : State :=
  if (s.dev.state = .managed ∨ s.dev.state = .operational) ∧ s.dev.held = false then
    let s1 := (s.goto .quiescing).cause 0x02 why
    let s2 := { s1 with
      dev := { s1.dev with stopAsserted := true }
      stop := ⟨3, why, s1.dev.aonTime⟩ }
    let s3 := match s2.ld.lstate with
      | .header | .frames | .verify | .fallback => s2.abortLoad
      | _ => s2
    s3.stopNv.freezeShuttle.cutTests.abortTests
  else s

/-- The device enters FAULT (R34), where lanes are DISABLED (R236) and the throttle set follows the levels again (R402): every
clock but AON stops, so no stop sequence runs and the NV store is left as it is. -/
def State.enterFault (s : State) (why : Nat) : State :=
  let s1 := s.nvLost.freezeLoad.lanesDown
  (({ s1 with
    dev := { s1.dev with stopAsserted := false }
    stop := Stop.none }.goto .fault).cause 0x03 why).applyThrottle

/-- Step 6 of the orderly stop (R403): PWR_OFF_REQ rises, panels are parked, lanes DISABLED, the directory's trackers cleared
(R202), and the device enters SAFE_STOP, or FAULT for a WATCHDOG cause. -/
def State.endStop (s : State) : State :=
  let s1 := { s with th := { s.th with pwrOff := true } }
  let s2 := if s.stop.cause = 0x11 then s1.enterFault 0x11 else s1.goto .safeStop
  let s3 := (List.range 32).foldl State.parkPanel s2
  let s4 := s3.lanesDown.clearTrackers
  let s5 := { s4 with
    dev := { s4.dev with stopAsserted := false }
    stop := Stop.none
    dir := { s4.dir with stopped := true }
    jrn := { s4.jrn with copyHeld := s.stop.cause = 0x11 } }
  s5.applyThrottle.nvStart

/-- A directory transaction that completes without a partner's answer. -/
def DirTxn.completes (t : DirTxn) : Bool :=
  match t.phase with
  | .snooping | .waiting | .retry => false
  | _ => true

/-- Every directory transaction that can complete has done so, and its accesses to attached memory are made (R202). -/
def State.dirSettled (s : State) : Bool := s.ddr.issued.isEmpty && !s.dir.txns.any DirTxn.completes

/-- STOP_MOVERS_IDLE (R403 step 3, R202): DDR5 self-refresh entry begins. -/
def execStopMoversIdle (s : State) : Host.Outcome State Fault Refusal :=
  if s.stop.step = 3 ∧ s.moversIdle ∧ s.dirSettled then .next { s with stop := { s.stop with step := 4 } } else .next s

/-- The controllers have completed every request they accepted (R220). -/
def State.ddrDrained (s : State) : Bool := (List.range 8).all (fun c => (s.chan c).reads.isEmpty)

/-- So many microseconds of AON time have passed since the orderly-stop signal was asserted (R403). -/
def State.sinceStop (s : State) (us : Nat) : Bool := s.stop.began + us ≤ s.dev.aonTime

/-- The window of the orderly stop (R403). -/
def State.stopWindow (s : State) : Nat := s.rd 0x2200 7

/-- STOP_NV_IDLE (R403 steps 5 and 6): step 5 begins at t0 + 60 µs at the earliest. -/
def execStopNvIdle (s : State) : Host.Outcome State Fault Refusal :=
  if s.stop.step = 5 ∧ s.sinceStop 60 ∧ s.nvIdle then .next s.endStop else .next s

/-- A mover still in progress halts at once with INCOMPLETE (R404). -/
def State.forceMover (s : State) (m : Nat) : State :=
  if (s.mover m).desc.isSome && !(s.mover m).halted then s.haltMover m 0x16 (s.mover m).moved else s

/-- STOP_STEP3_FORCED (R404), at t0 + W − 100 µs. -/
def execStopStep3Forced (s : State) : Host.Outcome State Fault Refusal :=
  if s.stop.step = 3 ∧ s.sinceStop (s.stopWindow - 100) then
    let s1 := (List.range 16).foldl State.forceMover s
    .next (State.event { s1 with stop := { s1.stop with step := 4 } } 0x12 0x0D 3)
  else .next s

/-- STOP_WINDOW_EXPIRED (R404): step 6 has not occurred by t0 + W. -/
def execStopWindowExpired (s : State) : Host.Outcome State Fault Refusal :=
  if s.stop.step ≠ 0 ∧ s.sinceStop s.stopWindow then .next (s.endStop.event 0x12 0x0D 6) else .next s

/-- Entry to MANAGED (R34): links train, a boot load may start on its own (R324); a scorch in force or a required rail out of
range asserts the orderly stop at once (R397, R433). The data plane applies the set in force (R25). No stop follows a coolant loss
that was confirmed before (log 143). -/
def State.enterManaged (s : State) : State :=
  let s1 := (s.goto .managed).applyThrottle.lanesUp.autoload
  let s2 := if s1.levelOn 2 then s1.assertStop 1 else s1
  if s2.suppliesGood then s2 else s2.assertStop 2

/-- A watchdog expiry (R384, R34): the orderly stop with cause WATCHDOG; from SAFE_STOP straight to FAULT. -/
def State.watchdogExpires (s : State) : State :=
  let s1 := State.event { s with sec := { s.sec with dead := true, trap := false } } 0x0F 0x03 0
  match s.dev.state with
  | .managed | .operational => s1.assertStop 0x11
  | .safeStop => s1.enterFault 0x11
  | _ => s1

/-- WATCHDOG_EXPIRY (R384): the watchdog runs from firmware start and pauses while the core is halted (R491). -/
def execWatchdogExpiry (s : State) : Host.Outcome State Fault Refusal :=
  if s.fwRuns && !s.sec.dead && !s.pins.halted then .next s.watchdogExpires else .next s

/-- CORE_TRAP_TIMEOUT (R384): a trap not handled within 1 ms is treated as an expiry. -/
def execCoreTrapTimeout (s : State) : Host.Outcome State Fault Refusal :=
  if s.fwRuns && s.sec.trap && !s.sec.dead then .next s.watchdogExpires else .next s

/-- WATCHDOG_RESTART (R384): firmware restarts the watchdog, which shows that it handles its traps (log 23). -/
def execWatchdogRestart (s : State) : Host.Outcome State Fault Refusal :=
  if s.fwRuns && !s.sec.dead then .next { s with sec := { s.sec with trap := false } } else .next s

/-- THERMTRIP (R407): THERMTRIP_N is driven low until POR; from BOOT to SAFE_STOP the device enters FAULT at once. -/
def execThermtrip (s : State) : Host.Outcome State Fault Refusal :=
  let s1 := { s with th := { s.th with tripped := true } }
  match s.dev.state with
  | .off => .next s
  | .aon | .fault => .next s1
  | _ => .next (s1.enterFault 0x10)

end Sys2Proof.Machine
end

