-- ==== Sys2Proof/Machine/Security.lean ====
section
/-! DEFINITION. Fuses and life cycle, the boot BAR, firmware download and start, keys, attestation and tamper
(spec/14). -/

namespace Sys2Proof.Machine

/-! Fuses (R374–R378). -/

/-- A life-cycle fuse bit counts as set when two of its three copies are (R375). -/
def lifeBit (life b : Nat) : Bool := 2 ≤ popCount 3 (life / 2 ^ (3 * b))

/-- The fused state: the highest set bit; none set is BLANK (R375). -/
def Fuses.state (f : Fuses) : Nat := ((members 6 ((List.range 6).foldl (fun n b => setBit n b (lifeBit f.life b)) 0)).getLast?).getD 0

/-- A set bit above an unset bit is a fuse integrity failure (R375). -/
def Fuses.lifeGood (f : Fuses) : Bool :=
  (List.range 5).all (fun b => lifeBit f.life b || !lifeBit f.life (b + 1))

/-- The life-cycle bits of a state, in all their copies. -/
def lifeBits (n : Nat) : Nat := 2 ^ (3 * (n + 1)) - 1

/-- A key word with its CRC-16 and COMMIT (R375). -/
def keyWord (hash : Nat) : Nat := 2 ^ 272 + hash + 2 ^ 256 * crc16 (msbBits 256 hash)

/-- A fused key word. -/
def Fuses.key (f : Fuses) (k : Nat) : Nat := Tab.look (fun _ => 0) f.keys k

/-- A key word that may be used (R375). -/
def keyUsable (w : Nat) : Bool := w.testBit 272 && bits w 271 256 = crc16 (msbBits 256 w)

/-- A DAMAGED word: COMMIT clear, other bits not all clear (R375). -/
def keyDamaged (w : Nat) : Bool := !w.testBit 272 && w % 2 ^ 272 ≠ 0

/-- VCC_FUSE is in range (R390, R433). -/
def State.fuseSupply (s : State) : Bool := s.pwr.inRange.contains 12

/-- A fuse write may begin (R376); `blank` says that the target word is not programmed. -/
def State.fuseFree (s : State) (blank : Bool) : Bool := s.fuseSupply && s.sec.op.isNone && blank

/-- A fuse op's effect on the fuses. -/
def Fuses.program (f : Fuses) (kind addr value : Nat) : Fuses :=
  match kind with
  | 0 => { f with life := f.life ||| lifeBits value }
  | 9 => { f with revoked := f.revoked ||| value }
  | 10 => { f with minSvn := value }
  | 11 => { f with secPins := value }
  | 12 => { f with other := Tab.put (fun _ => 0) f.other addr value }
  | 13 => { f with life := f.life ||| value }
  | k => { f with keys := Tab.put (fun _ => 0) f.keys (k - 1) (keyWord value) }

/-- A fuse write cut short (R375): the old state, or a key word that is DAMAGED or still blank; which of its bits are set is
a free value (log 26). -/
def State.cutFuse (s : State) : State :=
  match s.sec.op with
  | some o =>
    if 1 ≤ o.kind ∧ o.kind ≤ 8 then
      let f := s.sec.fuses
      State.drawn { s with sec := { s.sec with
        op := none
        fuses := { f with keys := Tab.put (fun _ => 0) f.keys (o.kind - 1) (s.freeNow % 2 ^ 256) } } }
    else { s with sec := { s.sec with op := none } }
  | none => s

/-- The events of a fuse write that ended (R377, R389): LIFECYCLE_FUSED with the new state; KEY_FUSED with the object's
subindex for the key words and revocations (log 27). -/
def State.fusedEvent (s : State) (kind : Nat) : State :=
  if kind = 0 ∨ kind = 13 then s.event 0x11 0x01 s.sec.fuses.state
  else if kind = 9 then s.event 0x11 0x02 0x18
  else if 1 ≤ kind ∧ kind ≤ 8 then s.event 0x11 0x02 (0x0F + kind)
  else s

/-- The fuse write in progress ends (R376): its bits are programmed. -/
def State.endFuse (s : State) (o : FuseOp) : State :=
  State.fusedEvent { s with sec := { s.sec with
    op := none
    fuses := s.sec.fuses.program o.kind o.addr o.value
    jtagFuse := if o.answer.isNone then 1 else s.sec.jtagFuse } } o.kind

/-- How a dictionary write that programs fuses is checked, and what it programs (R376): its life-cycle check, its value check, that
its target is not programmed already, the kind of `FuseOp`, the value, the object's present value. -/
structure FuseRule where
  life : Bool
  fits : Bool
  blank : Bool
  kind : Nat
  value : Nat
  old : List Byte
  deriving DecidableEq, Repr

/-- A token signs SERIAL_NUMBER and RETURN_CHALLENGE under the Torvom return key (R378); none is good while no challenge has been drawn
(R379; log 48). -/
def State.tokenGood (s : State) (token : List Byte) : Bool :=
  s.sec.challenge.length = 32
    && ecdsaVerify Config.returnKey (sha256 (leBytes 8 Config.serialNumber ++ s.sec.challenge)) token

/-- Key-hash fuses are writable in MANUFACTURE and DEVELOP (R374). -/
def State.keyLife (s : State) : Bool := s.lifecycle = 1 || s.lifecycle = 2

/-- Revocation and SVN fuses are writable from MANUFACTURE to RETURNED (R374). -/
def State.revokeLife (s : State) : Bool := 1 ≤ s.lifecycle && s.lifecycle ≤ 4

/-- LIFECYCLE_ADVANCE (R377): a later state than the fused one, not BLANK; RETURNED only by a token. -/
def State.advanceRule (s : State) (v : Nat) : FuseRule :=
  ⟨v ≠ 4, s.sec.fuses.state < v && v ≠ 1, true, 0, v, []⟩

/-- FW_SVN_ADVANCE (R385): above MIN_SVN and not above the running FW_SVN. -/
def State.svnRule (s : State) (v : Nat) : FuseRule :=
  ⟨s.revokeLife, s.sec.fuses.minSvn < v && v ≤ s.sec.svn, true, 10, v, []⟩

/-- FW_KEY_HASH and BS_KEY_HASH (R385): slot k of 0–7. -/
def State.keyHashRule (s : State) (k : Nat) (hash : List Byte) : FuseRule :=
  ⟨s.keyLife, true, s.sec.fuses.key k = 0, k + 1, leValue hash, leBytes 32 (s.sec.fuses.key k)⟩

/-- KEY_REVOKE (R385): sets fuse bits; bits that are set already stay. -/
def State.revokeRule (s : State) (v : Nat) : FuseRule :=
  ⟨s.revokeLife, true, true, 9, v % 256, leBytes 1 s.sec.fuses.revoked⟩

/-- SEC_PIN_MASK (R388, R390): fused under R376 where key-hash fuses are writable (log 28). -/
def State.pinMaskRule (s : State) (v : Nat) : FuseRule :=
  ⟨s.keyLife, true, s.sec.fuses.secPins = 0, 11, v % 2 ^ 64, leBytes 8 s.sec.fuses.secPins⟩

/-- RETURN_TOKEN (R378): a good token fuses RETURNED under R376 and R377. -/
def State.tokenRule (s : State) (token : List Byte) : FuseRule :=
  ⟨true, s.sec.fuses.state < 4 && s.tokenGood token, true, 0, 4, []⟩

/-- The objects of 0x1200 whose writes program fuses. -/
def fuseObject (idx sub : Nat) : Bool :=
  idx = 0x1200 && (sub = 2 || sub = 5 || 0x10 ≤ sub && sub ≤ 0x18 || sub = 0x30 || sub = 0x41)

/-- The rule of a write at 0x1200:sub. -/
def State.fuseRule (s : State) (sub : Nat) (bytes : List Byte) : FuseRule :=
  if sub = 2 then s.advanceRule (leValue bytes)
  else if sub = 5 then s.svnRule (leValue bytes)
  else if sub = 0x18 then s.revokeRule (leValue bytes)
  else if sub = 0x30 then s.pinMaskRule (leValue bytes)
  else if sub = 0x41 then s.tokenRule bytes
  else s.keyHashRule (sub - 0x10) bytes

/-- The status of a write that programs fuses (R13, R376). -/
def State.fuseStatusOf (s : State) (r : FuseRule) (sub ty : Nat) (bytes : List Byte) : Status :=
  match s.writeStatus 0x1200 sub ty bytes r.life r.fits with
  | .ok => if s.fuseFree r.blank then .ok else .stateConflict
  | x => x

/-- The journal entry of a write that programs fuses. -/
def FuseRule.entry (r : FuseRule) (src : Source) (sub ty : Nat) (bytes : List Byte) (st : Status) : JRec :=
  ⟨0x1200, sub, st.code, src, ty, if noOld 0x1200 sub st then none else some r.old, bytes⟩

/-- A fuse write begins; its entry and its answer follow when it ends (R376). -/
def State.beginFuse (s : State) (r : FuseRule) (src : Source) (sub ty : Nat) (bytes : List Byte) : State :=
  { s with sec := { s.sec with op := some ⟨r.kind, 0, r.value, some (r.entry src sub ty bytes .ok)⟩ } }

/-- A dictionary write that programs fuses (R376): checked as R13 says; an accepted one is answered when it ends, with INTERNAL at
once after an error in the engine's SRAM (R141; log 11). -/
def State.fuseWrite (s : State) (src : Source) (sub ty : Nat) (bytes : List Byte) : State :=
  if s.served src then
    let s1 := s.countRequest src
    let r := s1.fuseRule sub bytes
    match s1.fuseStatusOf r sub ty bytes with
    | .ok =>
      if s1.sramMarked 5 then (s1.sramTaken 5).answer (r.entry src sub ty bytes .internal) (.status src Status.internal.code)
      else (s1.beginFuse r src sub ty bytes).openReq (s1.rowReq src 2 0x1200 sub bytes)
    | st => s1.answer (r.entry src sub ty bytes st) (.status src st.code)
  else s

/-- LIFECYCLE_ADVANCE, a write to 0x1200:02 (R377). -/
def execLifecycleAdvance (src : Source) (value : Nat) (s : State) : Host.Outcome State Fault Refusal :=
  .next (s.fuseWrite src 2 2 (leBytes 1 value))

/-- RETURN_TOKEN, a write to 0x1200:41 (R378). -/
def execReturnToken (src : Source) (token : List Byte) (s : State) : Host.Outcome State Fault Refusal :=
  .next (s.fuseWrite src 0x41 0x0A token)

/-- KEY_HASH_WRITE, a write to 0x1200:10–17 (R385). -/
def execKeyHashWrite (src : Source) (sub : Nat) (hash : List Byte) (s : State) : Host.Outcome State Fault Refusal :=
  if 0x10 ≤ sub ∧ sub ≤ 0x17 then .next (s.fuseWrite src sub 9 hash) else .next s

/-- KEY_REVOKE, a write to 0x1200:18 (R385). -/
def execKeyRevoke (src : Source) (value : Nat) (s : State) : Host.Outcome State Fault Refusal :=
  .next (s.fuseWrite src 0x18 2 (leBytes 1 value))

/-- FW_SVN_ADVANCE, a write to 0x1200:05 (R385). -/
def execFwSvnAdvance (src : Source) (value : Nat) (s : State) : Host.Outcome State Fault Refusal :=
  .next (s.fuseWrite src 5 2 (leBytes 1 value))

/-- SEC_PIN_MASK_WRITE, a write to 0x1200:30 (R388). -/
def execSecPinMaskWrite (src : Source) (value : Nat) (s : State) : Host.Outcome State Fault Refusal :=
  .next (s.fuseWrite src 0x30 5 (leBytes 8 value))

/-- FUSE_WRITE_DONE (R376): the fuse write in progress ends, its entry is written and it is answered; `interrupted` says that power
failed it before its end (R375): then it is answered INTERNAL, as a request that could not be served is (R343; log 182), and a JTAG program
says so in its status (R491). The end of a write that has an entry waits while the journal's SEQ reserve is used up (R363). -/
def execFuseWriteDone (interrupted : Bool) (s : State) : Host.Outcome State Fault Refusal :=
  match s.sec.op with
  | some o =>
    match o.answer with
    | none =>
      if interrupted then
        let s1 := s.cutFuse
        .next { s1 with sec := { s1.sec with jtagFuse := 2 } }
      else .next (s.endFuse o)
    | some r =>
      if !s.journalOpen then .next s
      else if interrupted then .next (s.cutFuse.settleWrite { r with status := Status.internal.code })
      else .next ((s.endFuse o).settleWrite r)
  | none => .next s

/-- FUSE_STATUS (R390). -/
def State.fuseStatus (s : State) : Nat :=
  2 ^ 31 * flag s.fuseSupply + 2 ^ 30 * flag s.sec.op.isSome + 2 ^ 24 * s.sec.fuses.state
    + (List.range 8).foldl (fun n k => n + flag (keyDamaged (s.sec.fuses.key k)) * 2 ^ (16 + k)) 0

/-! Bitstream keys (R385). -/

/-- A latched key word. -/
def Sec.key (x : Sec) (k : Nat) : Nat := Tab.look (fun _ => 0) x.keys k

/-- The hash of a public key, X then Y (R385). -/
def keyHash (key : List Byte) : Nat := leValue (sha256 key)

/-- Whether a bitstream key may be put in slot k (R385), against the latched hashes and revocations. -/
def State.bsKeyFits (s : State) (k : Nat) (key : List Byte) : Bool :=
  let w := s.sec.key (4 + k)
  !s.sec.revoked.testBit (4 + k) && keyUsable w && w % 2 ^ 256 = keyHash key
    || w = 0 && (s.lifecycle = 1 || s.lifecycle = 2 || s.lifecycle = 4)

/-- BS_KEY (R385); INTERNAL after an error in the engine's SRAM (R141). -/
def bsKeyEffect (k : Nat) (key : List Byte) : Effect := fun s =>
  match s.ld.lstate with
  | .header | .frames | .verify => (.stateConflict, s)
  | _ => if s.sramMarked 5 then (.internal, s.sramTaken 5) else (.ok, { s with bsKeys := Tab.put (fun _ => []) s.bsKeys k key })

/-- BS_KEY_WRITE, a write to 0x1200:20–23; reads return zeros, so OLD is zero. -/
def execBsKeyWrite (src : Source) (slot : Nat) (key : List Byte) (s : State) : Host.Outcome State Fault Refusal :=
  if slot < 4 then
    .next (s.command src 0x1200 (0x20 + slot) 0x0A key (List.replicate 64 0) true (s.bsKeyFits slot key)
      (bsKeyEffect slot key))
  else .next s

/-! Firmware (R379–R383). -/

/-- A byte of the staging window. -/
def Sec.byte (x : Sec) (a : Nat) : Byte := Tab.look (fun _ => 0) x.window a

/-- Bytes of the staging window. -/
def Sec.bytes (x : Sec) (a n : Nat) : List Byte := (List.range n).map (fun i => x.byte (a + i))

/-- Store bytes in the staging window. -/
def Sec.put (x : Sec) (a : Nat) (l : List Byte) : Sec :=
  { x with window := (List.range l.length).foldl (fun t i => Tab.put (fun _ => 0) t (a + i) (l.getD i 0)) x.window }

/-- FW_STATUS (R383). -/
def State.fwStatus (s : State) : Nat :=
  2 ^ 24 * s.sec.result + 2 ^ 16 * s.sec.lastStatus + 2 ^ 8 * s.sec.svn + 2 * flag s.sec.closed + flag s.sec.verifying

/-- The image's size and header (R380). -/
def State.imageLength (s : State) : Nat := s.rd 0x1300 6

/-- Check 1 of R382. -/
def headerGood (len h sig : Nat) : Bool :=
  let body := bits h 127 96
  let key := bits h 175 168
  204 ≤ len && len = 128 + body + 72 && h % 2 ^ 32 = 0x4D354657 && bits h 47 32 = 1 && bits h 511 176 = 0
    && (key < 4 || key = 0xFF) && 4 ≤ body && body % 4 = 0 && bits h 159 128 % 4 = 0 && bits h 159 128 < body
    && bits h 167 160 ≤ 64 && bits sig 63 56 = 0x53 && bits sig 55 8 = 0 && sig % 256 = key

/-- The life-cycle state accepts the key (R374). -/
def State.keyAccepted (s : State) (key : Nat) : Bool :=
  if key = 0xFF then s.lifecycle = 1 || s.lifecycle = 4 else s.lifecycle = 2 || s.lifecycle = 3

/-- The key in the header has the named hash, and its slot is programmed, not DAMAGED and not revoked (R382 check 4). -/
def State.keyTrusted (s : State) (key : Nat) (pub : List Byte) : Bool :=
  if key = 0xFF then keyHash pub = Config.mfgKeyHash
  else keyUsable (s.sec.key key) && !s.sec.revoked.testBit key && s.sec.key key % 2 ^ 256 = keyHash pub

/-- The result of a verification (R382): the first check that fails, or 0. -/
def State.verifyImage (s : State) (windowUe : Bool) : Nat :=
  let len := s.imageLength
  let head := s.sec.bytes 0 128
  let h := leValue head
  let sig := s.sec.bytes (len - 72) 72
  let key := bits h 175 168
  let pub := slice head 64 64
  if !headerGood len h (leValue (sig.take 8)) then 0xA1
  else if bits h 63 48 ≠ 0x4D05 || !(bits h 95 64).testBit (s.rd 0x1000 3) then 0xA2
  else if !s.keyAccepted key then 0xA3
  else if !s.keyTrusted key pub then 0xA4
  else if bits h 167 160 < s.sec.minSvn then 0xA5
  else if !ecdsaVerify pub (sha256 (s.sec.bytes 0 (len - 72))) (sig.drop 8) then 0xA6
  else if windowUe then 0xA7
  else 0

/-- VERIFY_AND_START (R382): only in AWAIT_FW and not while a verification runs. -/
def verifyEffect : Effect := fun s =>
  if s.dev.state = .awaitFw && !s.sec.verifying then (.ok, { s with sec := { s.sec with verifying := true } })
  else (.stateConflict, s)

/-- CLEAR_WINDOW (R382): refused in the same way; the window is zeroed. -/
def clearWindowEffect : Effect := fun s =>
  if s.dev.state = .awaitFw && !s.sec.verifying then
    (.ok, { s with sec := { s.sec with window := s.sec.window.filter (fun x => decide (458752 ≤ x.1)) } })
  else (.stateConflict, s)

/-- FW_COMMAND (R382). -/
def fwCommandEffect (v : Nat) : Effect := if v = 1 then verifyEffect else clearWindowEffect

/-- FW_VERIFY_AND_START, the write 0x01 to FW_COMMAND 0x1300:03. -/
def execFwVerifyAndStart (src : Source) (s : State) : Host.Outcome State Fault Refusal :=
  .next (s.command src 0x1300 3 2 (leBytes 1 1) [] true true verifyEffect)

/-- FW_CLEAR_WINDOW, the write 0x02 to FW_COMMAND 0x1300:03. -/
def execFwClearWindow (src : Source) (s : State) : Host.Outcome State Fault Refusal :=
  .next (s.command src 0x1300 3 2 (leBytes 1 2) [] true true clearWindowEffect)

/-- A verification ends with the image accepted (R382): the window is closed, and the device enters MANAGED. -/
def State.startFirmware (s : State) : State :=
  let h := leValue (s.sec.bytes 0 128)
  let s1 := { s with sec := { s.sec with
    verifying := false, closed := true, result := 0, svn := bits h 167 160, dead := false, trap := false
    digest := sha256 (s.sec.bytes 0 (s.imageLength - 72)) } }
  (s1.digestChange.event 0x0F 0x02 (bits h 167 160)).enterManaged

/-- FW_VERIFY_DONE (R382): `windowUe` says that the pass met an uncorrectable error in the window; one in the engine's own SRAM ends
it with INTERNAL as well (R141). -/
def execFwVerifyDone (windowUe : Bool) (s : State) : Host.Outcome State Fault Refusal :=
  if s.sec.verifying && s.dev.state = .awaitFw && !s.clkLost.contains 4 then
    match s.verifyImage (windowUe || s.sramMarked 5) with
    | 0 => .next s.startFirmware
    | r =>
      let s1 := s.sramTaken 5
      .next ((State.event { s1 with sec := { s1.sec with verifying := false, result := r } } 0x0F 0x01 r).bump 0x1300 7 1)
  else .next s

/-- FW_WINDOW_DATA (R381, R382): a write past byte 458,751 answers LENGTH_EXCEEDS; one during a verification or after the
window is closed STATE_CONFLICT. -/
def windowEffect (data : List Byte) : Effect := fun s =>
  let at_ := s.rd 0x1300 4
  if 458752 < at_ + data.length then (.lengthExceeds, s)
  else if s.sec.verifying || s.sec.closed then (.stateConflict, s)
  else (.ok, State.wr { s with sec := s.sec.put at_ data } 0x1300 4 (at_ + data.length))

/-- FW_WINDOW_DATA, a write to 0x1300:05. -/
def execFwWindowData (src : Source) (data : List Byte) (s : State) : Host.Outcome State Fault Refusal :=
  .next (s.command src 0x1300 5 0x0A data [] true true (windowEffect data))

/-- FW_WINDOW_OFFSET and FW_IMAGE_LENGTH are refused once the window is closed (R382). -/
def windowSetEffect (sub v : Nat) : Effect := fun s =>
  if s.sec.closed then (.stateConflict, s) else (.ok, s.wr 0x1300 sub v)

/-! The boot BAR (R381). -/

/-- PORT0 presents the boot function and the device serves it (R260). -/
def State.bootBar (s : State) : Bool :=
  s.bootFn && !s.dev.held && (s.dev.state = .awaitFw || s.dev.state = .operational)

/-- Image bytes through the boot BAR: discarded during a verification and once the window is closed (R382); bytes past the window
are ignored (R381). -/
def State.bootWindow (s : State) (off : Nat) (data : List Byte) : State :=
  if s.sec.verifying || s.sec.closed then s
  else { s with sec := s.sec.put off (data.take (458752 - off)) }

/-- BOOT_BAR_WINDOW_WRITE (R381). -/
def execBootBarWindowWrite (offset : Nat) (data : List Byte) (s : State) : Host.Outcome State Fault Refusal :=
  if s.bootBar then .next (s.bootWindow offset data) else .next s

/-- A command through the boot BAR (R382): a refused or reserved one leaves its status in LAST_STATUS. -/
def State.bootCommand (s : State) (v : Nat) : State :=
  let r := if v = 1 ∨ v = 2 then fwCommandEffect v s else (.valueRange, s)
  { r.2 with sec := { r.2.sec with lastStatus := r.1.code } }

/-- A write to a register of the boot BAR (R381). FW_IMAGE_LENGTH takes values of its range (log 29). -/
def State.bootReg (s : State) (off v : Nat) : State :=
  if off = 0x80008 then
    if s.sec.closed || v = 0 || 458752 < v then s else s.wr 0x1300 6 v
  else if off = 0x80010 then s.bootCommand (v % 256)
  else s

/-- A byte read through the boot BAR (R381). -/
def State.bootByte (s : State) (a : Nat) : Byte :=
  if a < 458752 then s.sec.byte a
  else if a < 0x80000 || 0x80028 ≤ a then 0
  else
    let v := match (a - 0x80000) / 8 with
      | 0 => s.fwStatus
      | 1 => s.imageLength
      | 3 => Config.romVersion % 2 ^ 32
      | 4 => s.lifecycle
      | _ => 0
    BitVec.ofNat 8 (v / 2 ^ (8 * (a % 8)))

/-- A request to the boot BAR (R260, R261, R381): other offsets read 0 and ignore writes. -/
def State.bootAccess (s : State) (link bar off n tag : Nat) (write : Bool) (l : List Byte) : State :=
  if !s.linkActive link then s
  else if s.dev.state = .managed then
    let s1 := s.bump 0x5116 0 1
    if write then s1 else s1.complete link tag 4 false []
  else if !s.bootBar then s
  else if bar ≠ 0 || 2 ^ 20 < off + (if write then l.length else n) then
    if write then s else s.complete link tag 1 false []
  else if write then
    if off < 458752 then s.bootWindow off l else s.bootReg off (leValue (l.take 4))
  else s.complete link tag 0 false ((List.range n).map (fun i => s.bootByte (off + i)))

/-- BAR_REQUEST (R261, R381): the boot BAR while PORT0 presents the boot function, else the BARs of R259; poisoned data to
the boot BAR is discarded and recorded as at BAR0 (R267). -/
def execBarRequest (link dpid bar offset len tag : Nat) (write : Bool) (data : List Byte) (poison : Bool) (s : State) :
    Host.Outcome State Fault Refusal :=
  if s.bootFn && portOf link = 0 then
    if write && poison then .next (s.logError link 1 [bar, offset, data.length])
    else .next (s.bootAccess link bar offset len tag write data)
  else if !s.linkActive link then .next s
  else
    let ready := s.barOpen bar offset (if write then data.length else len) write data
    .next (s.routed link dpid (s.whenOpen ready 0x40 (.barRequest link dpid bar offset len tag write data poison)
      (s.barAccess link bar offset len tag write data poison)))

/-! Attestation, IDE keys, tamper (R386–R388). -/

/-- A source's secured sessions. -/
def Sec.sessionsOf (x : Sec) (src : Source) : List (Source × Bool) := x.sessions.filter (fun e => e.1 = src)

/-- The security engine serves SPDM from AWAIT_FW to SAFE_STOP (R386), while SEC is locked (R442). -/
def State.spdmServes (s : State) : Bool := !s.clkLost.contains 4 && (s.dev.state = .awaitFw && !s.dev.held || s.fwRuns)

/-- The measurements, taken as the response is built (R386): ROM_VERSION, the firmware digest or zeros, DIGEST_RECORD. -/
def State.measurements (s : State) : List Byte :=
  leBytes 4 Config.romVersion ++ (if s.sec.closed then s.sec.digest else List.replicate 32 0)
    ++ leBytes 8 s.pub.epoch ++ s.pub.digest

/-- The certificate chain that slot 0 offers (R386, R423): that of the present state, in DEVELOP and DEPLOYED, from the NV store; none
where its group is unreadable. Which group of the area holds a state's chain is open (log 167). -/
def State.certChain (s : State) : Option (List Byte) × State :=
  if s.lifecycle = 2 ∨ s.lifecycle = 3 then
    let first := 1040 + 16 * (Config.chainGroup s.lifecycle % 32)
    let r := s.readGroup ((List.range 16).map (fun i => first + i))
    (r.1.map (fun l => l.flatMap (fun d => leBytes 16 d)), r.2)
  else (none, s)

/-- The public identity key of a life-cycle code, 64 B (R386). -/
def identityOf (life : Nat) : List Byte := leBytes 64 (leValue (Config.identityKey life))

/-- IDENTITY_PUBLIC (R386): the public keys of the DEVELOP and DEPLOYED identities, 128 B; zeros before the engine has derived them
(log 24). -/
def State.identityPublic (s : State) : List Byte :=
  if s.sec.identity.isSome then identityOf 2 ++ identityOf 3 else List.replicate 128 0

/-- A signature of bytes by the identity key in force, r then s (R386). What it signs of the exchange before it is not held (log 30). -/
def State.signed (s : State) (l : List Byte) : List Byte :=
  leBytes 64 (leValue (Config.identitySign (s.sec.identity.getD 0) (sha256 l)))

/-- CAPABILITIES (R386; log 30): certificates, challenge, signed measurements, encryption, authentication, key exchange, heartbeat and
key update. -/
def spdmCapabilities : List Byte :=
  [0] ++ leBytes 1 Config.spdmLimits ++ [0, 0] ++ leBytes 4 0x62D6 ++ leBytes 8 (Config.spdmLimits / 256)

/-- ALGORITHMS (R386; log 30): ECDSA P-256, SHA-256, secp256r1, AES-256-GCM. -/
def spdmAlgorithms : List Byte :=
  leBytes 2 52 ++ [1, 0] ++ leBytes 4 2 ++ leBytes 4 0x10 ++ leBytes 4 1 ++ List.replicate 16 0
    ++ [2, 0x20, 8, 0, 3, 0x20, 2, 0, 4, 0x20, 0, 0, 5, 0x20, 1, 0]

/-- CHALLENGE_AUTH (R386; log 30): the hash of slot 0's chain, zeros where none is offered, a nonce, and the signature of the identity
key. -/
def State.challengeAuth (s : State) : List Byte × State :=
  let c := s.certChain
  let l := (c.1.map sha256).getD (List.replicate 32 0) ++ leBytes 32 s.freeNow ++ [0, 0]
  (l ++ s.signed l, c.2.drawn)

/-- KEY_EXCHANGE_RSP (R386; log 30): the session, random data, the engine's share, the signature, and the responder's check. -/
def State.keyExchange (s : State) : List Byte × State :=
  let s1 := s.drawn
  let l := [0, 0] ++ leBytes 2 s.sec.sessions.length ++ [0, 0] ++ leBytes 32 s.freeNow ++ leBytes 64 s1.freeNow ++ [0, 0]
  (l ++ s.signed l ++ leBytes 32 s1.drawn.freeNow, s1.drawn.drawn)

/-- KEY_EXCHANGE opens a session, of which there are up to 4; FINISH secures it; END_SESSION closes it (R386). A request that
needs the TRNG answers INTERNAL once its health test has failed (R379). -/
def State.spdmAnswer (s : State) (src : Source) (code : Nat) : State :=
  match code with
  | 0xE4 =>
    if s.sec.trngBad then s.emit (.spdm src code 0x61 [])
    else if 4 ≤ s.sec.sessions.length then s.emit (.spdm src code 0x41 [])
    else
      let r := s.keyExchange
      State.emit { r.2 with sec := { r.2.sec with sessions := s.sec.sessions ++ [(src, false)] } } (.spdm src code 0 r.1)
  | 0xE5 =>
    match s.sec.sessions.find? (fun e => e = (src, false)) with
    | some e =>
      State.emit { s with sec := { s.sec with sessions := s.sec.sessions.erase e ++ [(src, true)] } } (.spdm src code 0 [])
    | none => s.emit (.spdm src code 0x41 [])
  | 0xEC | 0xE8 | 0xE9 =>
    match s.sec.sessions.find? (fun e => e = (src, true)) with
    | some e =>
      let s1 := if code = 0xEC then { s with sec := { s.sec with sessions := s.sec.sessions.erase e } } else s
      s1.emit (.spdm src code 0 [])
    | none => s.emit (.spdm src code 0x41 [])
  | 0x83 =>
    if s.sec.trngBad then s.emit (.spdm src code 0x61 []) else s.challengeAuth.2.emit (.spdm src code 0 s.challengeAuth.1)
  | 0xE0 => if s.sec.trngBad then s.emit (.spdm src code 0x61 []) else s.emit (.spdm src code 0 s.measurements)
  | 0x81 => (s.certChain.2).emit (.spdm src code 0 ((s.certChain.1.map sha256).getD []))
  | 0x82 =>
    match s.certChain with
    | (some l, t) => t.emit (.spdm src code 0 l)
    | (none, t) => t.emit (.spdm src code 0x41 [])
  | 0x84 => s.emit (.spdm src code 0 [0, 1, 0, 0x12])
  | 0xE1 => s.emit (.spdm src code 0 spdmCapabilities)
  | 0xE3 => s.emit (.spdm src code 0 spdmAlgorithms)
  | _ => s.emit (.spdm src code 0x33 [])

/-- A request reaches the security engine over an MCTP transport that is served (R350, R386); an error in the engine's SRAM ends it with
INTERNAL (R141). -/
def State.spdmTake (s : State) (src : Source) (code : Nat) : State :=
  if !s.spdmServes || !(src.code = 1 || src.code = 2) || !s.served src then s
  else if s.sramMarked 5 then (s.sramTaken 5).emit (.spdm src code 0x61 [])
  else s.spdmAnswer src code

/-- SPDM_REQUEST (R386). The request codes are those of DSP0274 (log 30). -/
def execSpdmRequest (src : Source) (code : Nat) (s : State) : Host.Outcome State Fault Refusal := .next (s.spdmTake src code)

/-- The key of a stream's set and direction in the key store (R387). -/
def ideKey (link stream slot : Nat) : Nat := link * 32 + stream * 4 + slot

/-- The streams of a link (R270, R292): link and selective IDE on PCIe and CXL, and CXL.cachemem on a CXL link that carries it. -/
def State.hasStream (s : State) (link stream : Nat) : Bool :=
  !s.isLace link && (stream < 4 || stream = 4 && s.portMode (portOf link) = 2 && !(s.link link).flit68)

/-- IDE_KM_KEY_PROGRAM (R270, R387): inside a secured session; `slot` is key set × 2 + direction. A stream with both keys of a set,
programmed since it was last Insecure, is in the Secure state. -/
def execIdeKmKeyProgram (link stream slot key : Nat) (s : State) : Host.Outcome State Fault Refusal :=
  if s.sramMarked 5 then .next (s.sramTaken 5)
  else if s.sec.sessions.any (fun e => e.2) && s.linkActive link && s.hasStream link stream && slot < 4 then
    let s1 := { s with ideKeys := Tab.put (fun _ => 0) s.ideKeys (ideKey link stream slot) (key % 2 ^ 256 + 1) }
    let x := s1.link link
    let y := { x with ideStale := x.ideStale.filter (fun k => k ≠ ideKey link stream slot) }
    let pair := [slot / 2 * 2, slot / 2 * 2 + 1]
    if pair.all (fun k => Tab.look (fun _ => 0) s1.ideKeys (ideKey link stream k) ≠ 0
        && !y.ideStale.contains (ideKey link stream k)) ∧ !y.ide.contains stream then
      .next (s1.setLink link { y with ide := y.ide ++ [stream] })
    else .next (s1.setLink link y)
  else .next s

/-- The whole key store is zeroized (R387): cause 2 reset or 3 tamper, 0x7F for all links. -/
def State.zeroizeAll (s : State) (why : Nat) : State :=
  State.event { s with
    ideKeys := []
    links := s.links.map (fun x => (x.1, { x.2 with ide := [], ideStale := [] })) } 0x11 0x04 (256 * why + 0x7F)

/-- A pin owned by SEC (R388, R475). -/
def State.secPin (s : State) (n : Nat) : Bool := n < 64 && bits (s.rd 0x7000 n) 31 30 = 1

/-- TAMPER (R388): the key store and every BS_KEY are zeroized, the pin's bit in TAMPER_STATUS is set, one TAMPER event. -/
def execTamper (pin : Nat) (s : State) : Host.Outcome State Fault Refusal :=
  if s.secPin pin && !s.dev.held then
    let s1 := State.zeroizeAll { s with bsKeys := [] } 3
    .next ((s1.wr 0x1200 0x32 (setBit (s1.rd 0x1200 0x32) pin true)).event 0x11 0x03 pin)
  else .next s

end Sys2Proof.Machine
end

