-- ==== Sys2Proof/Machine/Thermal.lean ====
section
/-! DEFINITION. The thermal sequencer (spec/15): samples, levels, inferred values, coolant, and its settings. -/

namespace Sys2Proof.Machine

/-! Levels and the loss of a value (R395–R397, R400). -/

/-- The rise event of a level: 0x01 WARM_RISE, 0x03 PRESS_RISE, 0x05 SCORCH_RISE (R410). -/
def riseEvent (level : Nat) : Nat := 2 * level + 1

/-- Set a level flag and clear the dwell counts of the value. -/
def Thermal.light (x : Thermal) (level v : Nat) (on : Bool) : Thermal :=
  { x with
    lit := Tab.put (fun _ => false) x.lit (256 * level + v) on
    up := Tab.put (fun _ => 0) x.up (256 * level + v) 0
    down := Tab.put (fun _ => 0) x.down (256 * level + v) 0 }

/-- An event is written when the device level changes, with the sensor whose value decided it (R397). -/
def State.levelEvent (s : State) (before : Bool) (level v : Nat) : State :=
  if !before && s.levelOn level then s.event 0x12 (riseEvent level) v
  else if before && !s.levelOn level then s.event 0x12 (riseEvent level + 1) v
  else s

/-- A value that no longer exists drops its warm and press flags and counts (R397); its scorch flag stays. -/
def State.dropValue (s : State) (v : Nat) : State :=
  if s.valueGone v then
    let x := (s.th.light 0 v false).light 1 v false
    { s with th := { x with
      up := Tab.put (fun _ => 0) x.up (512 + v) 0
      down := Tab.put (fun _ => 0) x.down (512 + v) 0 } }
  else s

/-- A sensor is marked FAILED until POR (R392, R397, R400): its event, the values that cease to exist, the level events. -/
def State.failSensor (s : State) (n : Nat) : State :=
  let s1 := s.wr 0x2206 (n / 32) (setBit (s.rd 0x2206 (n / 32)) (n % 32) true)
  let s2 := (s1.wr 0x2201 n 0x8000).event 0x12 0x08 n
  let s3 := (n :: (List.range 64).map (· + 48)).foldl State.dropValue s2
  ((s3.levelEvent (s.levelOn 0) 0 n).levelEvent (s.levelOn 1) 1 n).applyThrottle

/-- The level points in °C, by subindex 1–6 (R395). -/
def State.point (s : State) (sub : Nat) : Int := s16 (s.rd 0x2200 sub)

/-- The rise point of a level in 1/16 °C. -/
def State.rise (s : State) (level : Nat) : Int := 16 * s.point (2 * level + 1)

/-- The release point of a level in 1/16 °C. -/
def State.release (s : State) (level : Nat) : Int := 16 * s.point (2 * level + 2)

/-- The dwell counts of R396 after a sample: a count of 3 waits for its confirmation (log 33). -/
def State.dwell (s : State) (k : Nat) : Nat × Nat :=
  let up := Tab.look (fun _ => 0) s.th.up k
  let down := Tab.look (fun _ => 0) s.th.down k
  match s.decision (k % 256) with
  | none => (up, down)
  | some t =>
    if s.lit (k / 256) (k % 256) then
      (0, if k / 256 = 2 then 0 else if down = 3 then 3 else if t < s.release (k / 256) then down + 1 else 0)
    else (if up = 3 then 3 else if s.rise (k / 256) ≤ t then up + 1 else 0, 0)

/-- One value at one level in a sample. -/
def State.dwellAt (s : State) (k : Nat) : State :=
  { s with th := { s.th with
    up := Tab.put (fun _ => 0) s.th.up k (s.dwell k).1
    down := Tab.put (fun _ => 0) s.th.down k (s.dwell k).2 } }

/-- Every value at every level: keys level × 256 + value. -/
def dwellKeys : List Nat := (List.range 3).flatMap (fun l => (List.range 192).map (fun v => 256 * l + v))

/-- LEVEL_RISE_CONFIRM (R396, R397, R401): press applies its actions, scorch asserts the orderly-stop signal. -/
def execLevelRiseConfirm (level value : Nat) (s : State) : Host.Outcome State Fault Refusal :=
  if level < 3 ∧ value < 192 ∧ Tab.look (fun _ => 0) s.th.up (256 * level + value) = 3 then
    let s1 := State.levelEvent { s with th := s.th.light level value true } (s.levelOn level) level value
    .next (if level = 2 then s1.assertStop 1 else s1.applyThrottle)
  else .next s

/-- LEVEL_RELEASE_CONFIRM (R396, R397, R402): warm and press only. -/
def execLevelReleaseConfirm (level value : Nat) (s : State) : Host.Outcome State Fault Refusal :=
  if level < 2 ∧ value < 192 ∧ Tab.look (fun _ => 0) s.th.down (256 * level + value) = 3 then
    let s1 := State.levelEvent { s with th := s.th.light level value false } (s.levelOn level) level value
    .next s1.applyThrottle
  else .next s

/-! The sample (R392, R393, R396, R398, R399). -/

/-- The rail of a tier (R428): T0 VCC_BASE, T1 VCC_MEM, T3 VCC_CFG, T2 and T4 VCC_CORE. -/
def tierRail (tier : Nat) : Nat := match tier with
  | 0 => 1
  | 1 => 2
  | 3 => 3
  | _ => 4

/-- A conversion of a sensor in 1/16 °C (R392): none, or a reading below −55 °C or above 200 °C, marks it FAILED. A FAILED sensor and
one whose tier has no supply are not converted. -/
def State.convert (s : State) (r : Nat × Option Int) : State :=
  if r.1 < 192 && !s.sensorFailed r.1 && s.th.sampled.contains (sensorTier r.1) then
    match r.2 with
    | none => s.failSensor r.1
    | some t => if t < -880 ∨ 3200 < t then s.failSensor r.1 else s.wr 0x2201 r.1 (u16 t)
  else s

/-- A thermistor's conversion (R393): entry into fault, and the samples in range of a faulted one. -/
def State.thermistor (s : State) (r : Nat × Int) : State :=
  if 1 ≤ r.1 ∧ r.1 ≤ 3 then
    let bad := decide (r.2 < -640) || decide (2000 < r.2)
    let s1 := s.wr 0x2204 r.1 (u16 r.2)
    if bad then
      let s2 := { s1 with th := { s1.th with
        faulted := if s1.th.faulted.contains r.1 then s1.th.faulted else s1.th.faulted ++ [r.1]
        good := Tab.put (fun _ => 0) s1.th.good r.1 0 } }
      if s.th.faulted.contains r.1 then s2 else s2.event 0x12 0x0B r.1
    else s1
  else s

/-- A faulted thermistor in range counts toward its return (R393). -/
def State.goodCount (s : State) (t : Nat) : State :=
  let c := s.coolant t
  if s.th.faulted.contains t && decide (-640 ≤ c) && decide (c ≤ 2000) then
    let n := Tab.look (fun _ => 0) s.th.good t
    { s with th := { s.th with good := Tab.put (fun _ => 0) s.th.good t (if n < 3 then n + 1 else 3) } }
  else s

/-- A consecutive-sample count that stays at `top` until it is acted on. -/
def runCount (n top : Nat) (b : Bool) : Nat := if n = top then top else if b then n + 1 else 0

/-- INLET_HIGH's counts (R393): not evaluated while THERM_IN is faulted. -/
def State.inletCounts (s : State) : State :=
  let t := s.coolant 1
  let lim := 16 * s.point 9
  let ok := !s.th.faulted.contains 1
  { s with th := { s.th with
    inletUp := if ok && !s.th.inletHigh then runCount s.th.inletUp 3 (decide (lim < t)) else 0
    inletDown := if ok && s.th.inletHigh then runCount s.th.inletDown 3 (decide (t ≤ lim - 16)) else 0 } }

/-- COOLANT_OK's counts (R394). -/
def State.coolantCounts (s : State) (ok : Bool) : State :=
  { s with th := { s.th with
    coolantLow := if s.th.coolantLost then 0 else runCount s.th.coolantLow 3 (!ok)
    coolantHigh := if s.th.coolantOk && !s.th.coolantLost then 0 else runCount s.th.coolantHigh 3 ok } }

/-- INFERRED_T2 of a site (R398). -/
def State.inferAt (s : State) (site : Nat) : State :=
  s.wr 0x2202 site (match s.infer site with
    | some t => u16 t
    | none => 0x8000)

/-- A site's count toward SENSOR_DISAGREE (R399, R400). -/
def State.apartAt (s : State) (site : Nat) : State :=
  let n := Tab.look (fun _ => 0) s.th.apart site
  let far := match s.difference site with
    | some d => decide (128 < d)
    | none => false
  { s with th := { s.th with
      apart := Tab.put (fun _ => 0) s.th.apart site (if s.disagrees site then 0 else runCount n 100 far) } }

/-- The tiers whose supply is in range (R392). -/
def State.poweredTiers (s : State) : List Nat := (List.range 5).filter (fun t => s.pwr.inRange.contains (tierRail t))

/-- A sample (R392): the operands list the conversions in 1/16 °C; a sensor or thermistor not listed reads as before (log 34). -/
def State.sample (s : State) (readings : List (Nat × Option Int)) (coolant : List (Nat × Int)) (ok : Bool) : State :=
  let s1 := readings.foldl State.convert { s with th := { s.th with sampled := s.poweredTiers } }
  let s2 := [1, 2, 3].foldl State.goodCount (coolant.foldl State.thermistor s1)
  let s3 := (List.range 64).foldl State.inferAt (s2.inletCounts.coolantCounts ok)
  let s4 := (List.range 64).foldl State.apartAt s3
  dwellKeys.foldl State.dwellAt s4

/-- THERMAL_SAMPLE (R392): the sequencer runs in every state but OFF (R409). -/
def execThermalSample (readings : List (Nat × Option Int)) (coolant : List (Nat × Int)) (coolantOk : Bool) (s : State) :
    Host.Outcome State Fault Refusal :=
  if s.dev.state = .off then .next s else .next (s.sample readings coolant coolantOk)

/-- THERMISTOR_RECOVER (R393). -/
def execThermistorRecover (t : Nat) (s : State) : Host.Outcome State Fault Refusal :=
  if s.th.faulted.contains t && Tab.look (fun _ => 0) s.th.good t = 3 then
    .next { s with th := { s.th with
      faulted := s.th.faulted.filter (fun k => k ≠ t)
      good := Tab.put (fun _ => 0) s.th.good t 0 } }
  else .next s

/-- SENSOR_DISAGREE_LATCH (R399). -/
def execSensorDisagreeLatch (site : Nat) (s : State) : Host.Outcome State Fault Refusal :=
  if site < 64 && Tab.look (fun _ => 0) s.th.apart site = 100 && !s.disagrees site then
    let s1 := s.wr 0x2203 (site / 32) (setBit (s.rd 0x2203 (site / 32)) (site % 32) true)
    .next (State.event { s1 with th := { s1.th with apart := Tab.put (fun _ => 0) s1.th.apart site 0 } } 0x12 0x07 site)
  else .next s

/-- A bit of DISAGREE_MAP may be cleared (R399); a site without a present difference keeps it (log 35). -/
def State.mayAgree (s : State) (site : Nat) : Bool := match s.difference site with
  | some d => decide (d ≤ 128)
  | none => false

/-- DISAGREE_MAP (R399): bits written 0 are cleared, all or none; bits written 1 stay. -/
def disagreeEffect (i v : Nat) : Effect := fun s =>
  let old := s.rd 0x2203 i
  if (members 32 old).all (fun b => v.testBit b || s.mayAgree (32 * i + b)) then (.ok, s.wr 0x2203 i (old &&& v))
  else (.stateConflict, s)

/-- DISAGREE_MAP_WRITE, a write to 0x2203:00–01. -/
def execDisagreeMapWrite (src : Source) (i value : Nat) (s : State) : Host.Outcome State Fault Refusal :=
  if i < 2 then
    .next (s.command src 0x2203 i 4 (leBytes 4 value) (s.regBytes 0x2203 i) true true (disagreeEffect i (value % 2 ^ 32)))
  else .next s

/-- COOLANT_LOSS_CONFIRM (R394). -/
def execCoolantLossConfirm (s : State) : Host.Outcome State Fault Refusal :=
  if s.th.coolantLow = 3 ∧ !s.th.coolantLost then
    let s1 := State.event { s with th := { s.th with coolantLost := true, coolantOk := false, coolantLow := 0 } } 0x12 0x09 0
    .next (if s.rd 0x2200 8 = 2 then s1.assertStop 3 else s1.applyThrottle)
  else .next s

/-- COOLANT_RESTORE_CONFIRM (R394): a first high level is confirmed without an event (log 36). -/
def execCoolantRestoreConfirm (s : State) : Host.Outcome State Fault Refusal :=
  if s.th.coolantHigh = 3 then
    let s1 := { s with th := { s.th with coolantLost := false, coolantOk := true, coolantHigh := 0 } }
    .next (if s.th.coolantLost then (s1.event 0x12 0x0A 0).applyThrottle else s1)
  else .next s

/-- INLET_HIGH_CONFIRM (R393). -/
def execInletHighConfirm (s : State) : Host.Outcome State Fault Refusal :=
  if s.th.inletUp = 3 then
    .next (State.event { s with th := { s.th with inletHigh := true, inletUp := 0 } } 0x12 0x0C 0)
  else .next s

/-- INLET_HIGH_CLEAR (R393). -/
def execInletHighClear (s : State) : Host.Outcome State Fault Refusal :=
  if s.th.inletDown = 3 then .next { s with th := { s.th with inletHigh := false, inletDown := 0 } } else .next s

/-! Level points (R395, R411). -/

/-- The conditions of R395 hold with the point at `sub` set to `v`. -/
def State.pointsFit (s : State) (sub : Nat) (v : Int) : Bool :=
  let p := fun k => if k = sub then v else s.point k
  60 ≤ p 1 && p 1 < p 3 && p 3 < p 5 && p 3 ≤ 160 && 110 ≤ p 5 && p 5 ≤ 160
    && p 2 ≤ p 1 - 2 && p 4 ≤ p 3 - 2 && p 6 ≤ p 5 - 5 && 60 ≤ p 6

/-- The scorch points are writable in MANAGED and OPERATIONAL (R411). -/
def pointEffect (sub v : Nat) : Effect := fun s =>
  if sub < 5 ∨ s.dev.state = .managed ∨ s.dev.state = .operational then (.ok, s.wr 0x2200 sub v) else (.stateConflict, s)

/-- LEVEL_POINT_WRITE, a write to 0x2200:01–06. -/
def execLevelPointWrite (src : Source) (sub value : Nat) (s : State) : Host.Outcome State Fault Refusal :=
  if 1 ≤ sub ∧ sub ≤ 6 then
    .next (s.command src 0x2200 sub 6 (leBytes 2 value) (s.regBytes 0x2200 sub) true
      (s.pointsFit sub (s16 (value % 2 ^ 16))) (pointEffect sub (value % 2 ^ 16)))
  else .next s

end Sys2Proof.Machine
end

