-- ==== Sys2Proof/Machine/Power.lean ====
section
/-! DEFINITION. Supplies, the PMBus host, power estimates, process monitors and clocks (R428–R445, R450–R454), and the
management core's base channel (R137). -/

namespace Sys2Proof.Machine

/-- The power manager and clock generation run: BOOT to SAFE_STOP, T0 not held in reset, MGMT locked (R441, R442, R448). -/
def State.mgmtRuns (s : State) : Bool :=
  !s.dev.held && !s.clkLost.contains 3 &&
    match s.dev.state with
    | .off | .aon | .fault => false
    | _ => true

/-! Rails (R432, R433, R436). -/

/-- The rail of a monitor (R432). -/
def monitorRail (n : Nat) : Nat :=
  if n < 8 then 4 else if n < 10 then 3 else if n < 12 then 2 else if n < 14 then 1 else if n < 16 then 5
  else if n < 24 then [6, 7, 0, 8, 9, 10, 11, 12].getD (n - 16) 0 else 0

/-- Whether a change of a rail writes its event in the present state (R433): VCC_FUSE writes none; AON and FAULT monitor
VCC_AUX and VCC_BASE only. -/
def State.railReports (s : State) (rail : Nat) : Bool :=
  rail ≠ 12 &&
    match s.dev.state with
    | .off => false
    | .aon | .fault => decide (rail < 2)
    | _ => true

/-- Record a rail as out of range. -/
def State.railDrop (s : State) (rail : Nat) : State :=
  { s with pwr := { s.pwr with inRange := s.pwr.inRange.filter (fun r => r ≠ rail) } }

/-- DRAM contents are lost (R222, R436): a channel in self-refresh becomes IDLE with SAVED kept. -/
def State.loseDram (s : State) : State :=
  let s1 := (List.range 8).foldl (fun (t : State) c =>
    let x := t.chan c
    if x.cstate = .selfRefresh then t.setChan c { x with cstate := .idle } else t) s
  { s1 with ddr := { s1.ddr with lines := [] } }

/-- T2 and T4 lose power (R436): tile memories read 0, their registers hold nothing, every STAGED slot becomes VALID. -/
def State.loseCore (s : State) : State :=
  State.mapPanels { s with mem := { s.mem with preg := [] } } (fun _ x => { x with
    slots := x.slots.map (fun k => (k.1, if k.2 = .staged then SlotState.valid else k.2))
    tileMem := [], memOut := [], arith := [], boundary := [], stitchReg := [], stitchSync := [] })

/-- A rail removed after PWR_OFF_REQ (R436): no event. -/
def State.removeRail (s : State) (rail : Nat) : State :=
  let s1 := s.railDrop rail
  let s2 := { s1 with pwr := { s1.pwr with
    removed := if s1.pwr.removed.contains rail then s1.pwr.removed else s1.pwr.removed ++ [rail] } }
  match rail with
  | 4 => s2.loseCore
  | 7 => s2.loseDram
  | _ => s2

/-- Rails may be removed (R405, R436): PWR_OFF_REQ is high, in SAFE_STOP or after a watchdog stop in FAULT. -/
def State.mayRemove (s : State) : Bool := s.th.pwrOff && (s.dev.state = .safeStop || s.dev.state = .fault)

/-- A rail leaves its window (R433, R436); VCC_MEM or VCC_CFG alone in SAFE_STOP sets MEMCFG_LOST. -/
def State.railOut (s : State) (monitor : Nat) : State :=
  let rail := monitorRail monitor
  if !s.pwr.inRange.contains rail || s.dev.state = .off then s
  else if rail = 12 then s.railDrop rail
  else if s.mayRemove && !(rail = 2 || rail = 3) then s.removeRail rail
  else
    let s1 := s.railDrop rail
    let s2 := if s.railReports rail then s1.event 0x13 0x01 monitor else s1
    let s3 := if s.dev.state = .safeStop && (rail = 2 || rail = 3) then
        { s2 with pwr := { s2.pwr with memcfgLost := true } } else s2
    if requiredRails.contains rail then s3.assertStop 2 else s3

/-- RAIL_OUT_OF_RANGE (R433). -/
def execRailOutOfRange (monitor : Nat) (s : State) : Host.Outcome State Fault Refusal :=
  if monitor < 24 then .next (s.railOut monitor) else .next s

/-- A GPIO bank returns in range (R483): each pad takes its function through a hold window, from high impedance. -/
def State.bankBack (s : State) (g : Nat) : State :=
  (List.range 16).foldl (fun (t : State) i => t.setPin (16 * g + i) { t.pin (16 * g + i) with
    hold := true, drive := false }) s

/-- RAIL_IN_RANGE (R433): the NV engine goes on where VCC_BASE is back (R424). Outside SAFE_STOP a rail that was removed is then no longer
so; in SAFE_STOP that stands until CLEAR (R436). -/
def execRailInRange (monitor : Nat) (s : State) : Host.Outcome State Fault Refusal :=
  let rail := monitorRail monitor
  if monitor < 24 && !s.pwr.inRange.contains rail && s.dev.state ≠ .off then
    let s1 := { s with pwr := { s.pwr with
      inRange := s.pwr.inRange ++ [rail]
      removed := if s.dev.state = .safeStop then s.pwr.removed else s.pwr.removed.filter (fun r => r ≠ rail) } }
    let s2 := if 8 ≤ rail && rail ≤ 11 && s.mgmtRuns then s1.bankBack (rail - 8) else s1
    let s3 := if s.railReports rail then s2.event 0x13 0x02 monitor else s2
    .next (if rail = 1 then s3.nvStart else s3)
  else .next s

/-- A monitor converts (R433): in AON and FAULT those of VCC_AUX and VCC_BASE do. -/
def State.monitors (s : State) (n : Nat) : Bool := match s.dev.state with
  | .off => false
  | .aon | .fault => decide (monitorRail n < 2)
  | _ => true

/-- The monitors' conversions of one AON cycle (R433): the millivolts are free values (log 37). -/
def State.sampleRails (s : State) : State :=
  State.drawn { s with pwr := { s.pwr with
    volts := (List.range 24).map (fun n => if s.monitors n then bits s.freeNow (16 * n + 15) (16 * n) else s.pwr.volts.getD n 0) } }

/-- RAIL_MONITOR (R452): the millivolts of the last conversion. Before the first one after POR, REQUIRED reads as its Reset column gives
(log 37). -/
def State.railMonitor (s : State) (n : Nat) : Nat :=
  let rail := monitorRail n
  let out := !s.pwr.inRange.contains rail
  2 ^ 31 * flag (!out) + 2 ^ 30 * flag (requiredRails.contains rail && !s.pwr.volts.isEmpty)
    + 2 ^ 29 * flag (out && s.pwr.removed.contains rail) + 2 ^ 24 * rail + s.pwr.volts.getD n 0

/-- SUPPLY_STATUS (R451). -/
def State.supplyStatus (s : State) : Nat := flag s.suppliesGood + 2 * flag s.pwr.memcfgLost + 4 * flag s.th.pwrOff

/-! PMBus (R437, R438, R453). -/

/-- A regulator map entry is enabled. -/
def State.regOn (s : State) (e : Nat) : Bool := (s.rd 0x2010 e).testBit 31

/-- The enabled entries, by subindex 1–16. -/
def State.regEntries (s : State) : List Nat := ((List.range 16).map (· + 1)).filter s.regOn

/-- What was last read of a regulator. -/
def Power.reading (x : Power) (e : Nat) : Regulator := Tab.look (fun _ => ⟨0, 0, 0, 0⟩) x.regs e

/-- The fault bits of STATUS_WORD (PRESUMED from PMBus 1.3, log 38): all but OFF, BUSY and the power-good bit. -/
def faultBits : Nat := 0xF73F

/-- REGULATOR_FAULT (R437, R450): the entry is numbered from 0 in bits 15:12 (log 39). -/
def State.regFault (s : State) (e status : Nat) : State := s.event 0x13 0x03 (4096 * (e - 1) + status % 4096)

/-- A STATUS_WORD is read, or its regulator does not acknowledge (R437). -/
def State.statusRead (s : State) (e : Nat) (status : Option Nat) : State :=
  match status with
  | none => s.regFault e 0xFFFF
  | some w =>
    let s1 := { s with pwr := { s.pwr with
      regs := Tab.put (fun _ => ⟨0, 0, 0, 0⟩) s.pwr.regs e { s.pwr.reading e with status := w } } }
    if w &&& faultBits = 0 then s1 else s1.regFault e w

/-- The power of the entries that pass a test, in mW: READ_VOUT in mV times READ_IOUT in mA (R439). -/
def State.regPower (s : State) (p : Nat → Bool) : Nat :=
  (s.regEntries.filter p).foldl (fun n e => n + (s.pwr.reading e).vout * (s.pwr.reading e).iout / 1000) 0

/-- POWER_HIGH is armed again after 10 ms below the notice (R439). -/
def State.powerSeen (s : State) : State :=
  let below := decide (s.rd 0x2004 1 < 1000 * s.rd 0x2004 2)
  let past := match s.pwr.lowSince with
    | some t => decide (10000 ≤ s.dev.aonTime - t)
    | none => false
  { s with pwr := { s.pwr with
    highNoted := s.pwr.highNoted && !past
    lowSince := if below then (match s.pwr.lowSince with
      | some t => some t
      | none => some s.dev.aonTime) else none } }

/-- VOUT_MODE is read when an entry is enabled (R438). -/
def State.readMode (s : State) (e : Nat) (ok : Bool) : State :=
  if s.pwr.unread.contains e then
    let s1 := { s with pwr := { s.pwr with
      unread := s.pwr.unread.filter (fun k => k ≠ e)
      badMode := if ok then s.pwr.badMode.filter (fun k => k ≠ e) else s.pwr.badMode.filter (fun k => k ≠ e) ++ [e] } }
    if ok then s1 else s1.regFault e 0xFFFE
  else s

/-- A visit of the rotation to an enabled entry (R437, R439). -/
def State.pollEntry (s : State) (e vout iout temp status : Nat) : State :=
  let s1 := { s with pwr := { s.pwr with regs := Tab.put (fun _ => ⟨0, 0, 0, 0⟩) s.pwr.regs e ⟨vout, iout, temp, status⟩ } }
  let s2 := s1.statusRead e (some status)
  (s2.wr 0x2004 1 (s2.regPower (fun _ => true))).powerSeen

/-- PMBUS_POLL (R437): one entry's visit. -/
def execPmbusPoll (entry : Nat) (ack modeOk : Bool) (vout iout temp status : Nat) (s : State) :
    Host.Outcome State Fault Refusal :=
  if s.mgmtRuns && s.regEntries.contains entry then
    if ack then .next ((s.readMode entry modeOk).pollEntry entry vout iout temp status)
    else .next (s.statusRead entry none)
  else .next s

/-- PMB_ALERT (R437): STATUS_WORD of every entry is read; one that the operand does not list reads as it last did. -/
def execPmbAlert (statuses : List (Nat × Option Nat)) (s : State) : Host.Outcome State Fault Refusal :=
  if s.mgmtRuns then
    .next (s.regEntries.foldl (fun (t : State) e =>
      t.statusRead e (match statuses.find? (fun x => x.1 = e) with
        | some x => x.2
        | none => some (t.pwr.reading e).status)) s)
  else .next s

/-- A move of the setpoint is in progress (R438). -/
def State.setpointMoves (s : State) : Bool := s.pwr.setNow ≠ s.rd 0x2002 1

/-- VCORE_SETPOINT_MV (R438). -/
def setpointEffect (mv : Nat) : Effect := fun s =>
  if s.setpointMoves then (.stateConflict, s) else (.ok, s.wr 0x2002 1 mv)

/-- VCORE_SETPOINT_WRITE, a write to 0x2002:01; it is held in QUIESCING and SAFE_STOP (R451). -/
def execVcoreSetpointWrite (src : Source) (mv : Nat) (s : State) : Host.Outcome State Fault Refusal :=
  .next (s.command src 0x2002 1 3 (leBytes 2 mv) (s.regBytes 0x2002 1) true true (setpointEffect (mv % 2 ^ 16)))

/-- The next setpoint: 5 mV nearer (R438). -/
def stepToward (now goal : Nat) : Nat :=
  if now + 5 ≤ goal then now + 5 else if goal + 5 ≤ now then now - 5 else goal

/-- VOUT_COMMAND goes to every entry with SETPOINT set whose mode was accepted (R438). -/
def State.sendSetpoint (s : State) (mv : Nat) : State :=
  (s.regEntries.filter (fun e => (s.rd 0x2010 e).testBit 0 && !s.pwr.badMode.contains e && !s.pwr.unread.contains e)).foldl
    (fun (t : State) e => t.emit (.pmbus e mv)) { s with pwr := { s.pwr with setNow := mv } }

/-- VCORE_SETPOINT_STEP (R438). -/
def execVcoreSetpointStep (s : State) : Host.Outcome State Fault Refusal :=
  if s.mgmtRuns && s.setpointMoves then .next (s.sendSetpoint (stepToward s.pwr.setNow (s.rd 0x2002 1))) else .next s

/-- REGULATOR_MAP (R453): SETPOINT only with VCC_CORE. -/
def regulatorFits (v : Nat) : Bool := !v.testBit 0 || bits v 27 24 = 4

/-- REGULATOR_MAP: enabling an entry has its VOUT_MODE read (R438); an entry that is disabled has no share in the device's power
(R439). -/
def regulatorEffect (e v : Nat) : Effect := fun s =>
  let s1 := s.wr 0x2010 e v
  let s2 := { s1 with pwr := { s1.pwr with
    unread := if v.testBit 31 && !s.regOn e then s1.pwr.unread.filter (fun k => k ≠ e) ++ [e] else s1.pwr.unread
    badMode := if v.testBit 31 then s1.pwr.badMode else s1.pwr.badMode.filter (fun k => k ≠ e)
    regs := if v.testBit 31 then s1.pwr.regs else s1.pwr.regs.filter (fun x => x.1 ≠ e) } }
  (.ok, (s2.wr 0x2004 1 (s2.regPower (fun _ => true))).powerSeen)

/-! Power estimates (R439). -/

/-- The mean of the decision values of a panel's own sensors, in 1/16 °C (R391, R439). -/
def State.panelTemp (s : State) (p : Nat) : Option Int :=
  let l := (panelValues p).filterMap s.decision
  if l.isEmpty then none else some (l.foldl (· + ·) 0 / (l.length : Int))

/-- The largest `x` of `b` bits with `x ^ 400 ≤ goal`, bit by bit. -/
def root400 (goal : Nat) : Nat → Nat → Nat
  | 0, x => x
  | b + 1, x => root400 goal b (if (x + 2 ^ b) ^ 400 ≤ goal then x + 2 ^ b else x)

/-- 2 ^ (e / 400) in units of 2^-20, rounded down (log 41). -/
def exp400 (e : Int) : Nat :=
  let q := e / 400
  let r := root400 (2 ^ ((e % 400).toNat + 8000)) 21 0
  if 0 ≤ q then r * 2 ^ q.toNat else r / 2 ^ (-q).toNat

/-- P_p with k = 1 in mW, rounded down (R439, log 41): `alpha` is the toggle rate in 1/65,536. -/
def State.rawPower (s : State) (p mv alpha : Nat) (temp : Int) : Nat :=
  let x := s.panel p
  let f := s.rd 0x2100 (s.rd 0x3200 p) / x.divisor
  let a := if x.pstate = .running then alpha else 0
  mv * mv * Config.panelDyn p * f * a / (65536 * 10 ^ 12) + mv * mv * Config.panelLeak p * exp400 (temp - 1360) / (2 ^ 20 * 10 ^ 6)

/-- One panel's estimate; without a temperature the spec states none and it is a free value (log 41). -/
def State.estimate (s : State) (p mv alpha : Nat) : State :=
  let r := match s.panelTemp p with
    | some t => (s.rawPower p mv alpha t, s)
    | none => (s.freeNow % 2 ^ 32, s.drawn)
  let s1 := { r.2 with pwr := { r.2.pwr with raw := Tab.put (fun _ => 0) r.2.pwr.raw p r.1 } }
  s1.wr 0x2003 p (min maxU32 (r.1 * s1.rd 0x2004 3 / 1024))

/-- POWER_ESTIMATE (R439): the mean VCC_CORE of T2 and T4 in mV, and the panels' toggle rates. -/
def execPowerEstimate (mv2 mv4 : Nat) (toggles : List (Nat × Nat)) (s : State) : Host.Outcome State Fault Refusal :=
  if s.mgmtRuns then
    .next ((List.range 32).foldl (fun (t : State) p =>
      t.estimate p (if p < 16 then mv2 else mv4) (min 65536 (Tab.look (fun _ => 0) toggles p))) s)
  else .next s

/-- k in 1/1,024 (R439). -/
def State.ratio (s : State) : Nat :=
  if s.regEntries.any (fun e => bits (s.rd 0x2010 e) 27 24 = 4) then
    max 512 (min 2048 (1024 * s.regPower (fun e => bits (s.rd 0x2010 e) 27 24 = 4)
      / (s.pwr.raw.foldl (fun n x => n + x.2) 0 + 15000)))
  else 1024

/-- POWER_CALIBRATION (R439). -/
def execPowerCalibration (s : State) : Host.Outcome State Fault Refusal :=
  if s.mgmtRuns then .next (s.wr 0x2004 3 s.ratio) else .next s

/-- POWER_HIGH_CONFIRM (R439): the power has stayed above the notice for 10 ms. -/
def execPowerHighConfirm (s : State) : Host.Outcome State Fault Refusal :=
  let w := s.rd 0x2004 1
  if s.mgmtRuns && !s.pwr.highNoted && 1000 * s.rd 0x2004 2 < w then
    .next (State.event { s with pwr := { s.pwr with highNoted := true } } 0x13 0x04 (w / 1000))
  else .next s

/-- One process monitor's reading (R440): drift is reported once until POR. Without a temperature of the panel the scaling is by a
free value (log 41). -/
def State.processRead (s : State) (mv2 mv4 : Nat) (r : Nat × Nat) : State :=
  if r.1 < 64 then
    let p := r.1 / 2
    let t := match s.panelTemp p with
      | some t => (t, s)
      | none => ((s.freeNow : Int), s.drawn)
    let s1 := t.2.wr 0x2005 r.1 (r.2 % 2 ^ 32)
    let scaled := Config.processScaled r.1 r.2 (if p < 16 then mv2 else mv4) t.1
    if 100 * scaled < Config.processRef r.1 * 95 && !s.pwr.drifted.contains r.1 then
      State.event { s1 with pwr := { s1.pwr with drifted := s1.pwr.drifted ++ [r.1] } } 0x13 0x05 r.1
    else s1
  else s

/-- PROCESS_MONITOR_READ (R440). -/
def execProcessMonitorRead (mv2 mv4 : Nat) (readings : List (Nat × Nat)) (s : State) :
    Host.Outcome State Fault Refusal :=
  if s.mgmtRuns then .next (readings.foldl (fun t r => t.processRead mv2 mv4 r) s) else .next s

/-! Clocks (R441–R445). -/

/-- A panel needs the SHUT clock (R441). -/
def Panel.needsShut (x : Panel) : Bool :=
  x.pstate ≠ .empty || !(x.slotsIn .valid).isEmpty || x.tileBusy || x.resetOnShut

/-- A panel needs the clock it selects (R441). -/
def Panel.needsClock (x : Panel) : Bool := match x.pstate with
  | .held => !x.parked
  | .running | .test => true
  | _ => false

/-- The on-demand states of R33. -/
def State.onDemand (s : State) : Bool := !s.dev.held && match s.dev.state with
  | .managed | .operational | .quiescing => true
  | _ => false

/-- BOOT, AWAIT_FW or T0 in reset after BASE_WARM, where the upper tiers' clocks go on (R442). -/
def State.upperOn (s : State) : Bool :=
  s.onDemand || s.memKept && (s.dev.held || s.dev.state = .boot || s.dev.state = .awaitFw)

/-- The DDR5 clock is needed (R441). -/
def ChanState.needsClock (c : ChanState) : Bool := match c with
  | .training | .ready | .selfRefresh => true
  | _ => false

/-- A domain runs by the rules of R33, R441 and R442, its lock apart. -/
def State.clockNeeded (s : State) (n : Nat) : Bool :=
  if n = 1 then s.dev.state ≠ .off
  else if n = 2 then s.mgmtRuns && !s.pwr.refLost
  else if n = 3 ∨ n = 4 then s.mgmtRuns
  else if n = 5 then s.onDemand && (s.ld.sending.isSome || match s.ld.lstate with
    | .header | .frames | .verify | .fallback => true
    | _ => false)
  else if n = 6 then
    s.upperOn && (List.range 32).any (fun p => (s.panel p).needsShut)
      || (s.dev.state = .boot || s.dev.state = .awaitFw)
        && (List.range 32).any (fun p => (s.panel p).tileBusy || (s.panel p).resetOnShut)
      || s.dev.state = .safeStop && (List.range 32).any (fun p => (s.panel p).resetOnShut)
  else if n < 15 then
    s.upperOn && (List.range 32).any (fun p => s.rd 0x3200 p = n - 7 && (s.panel p).needsClock)
  else if n = 15 then State.memRuns { s with clkLost := [] }
  else if n = 16 then s.onDemand && (s.rd 0x6000 1 = 1 || (List.range 16).any (fun m => (s.mover m).enable))
  else if n = 17 then s.onDemand && (s.rd 0x5200 1 = 1 || s.dir.sweep.isSome)
  else if n < 24 then
    (s.onDemand || n = 18 && s.dev.state = .awaitFw && !s.dev.held) && (s.portEnabled (n - 18) || n = 18 && s.dev.state = .awaitFw)
  else if n = 24 then
    (s.onDemand || s.dev.state = .safeStop || s.upperOn) && (List.range 8).any (fun c => (s.chan c).cstate.needsClock)
  else if n = 25 then s.fwRuns && s.rd 0x1100 4 = 1
  else false

/-- The frequency of a domain in kHz (R441). -/
def State.clockKhz (s : State) (n : Nat) : Nat :=
  if n = 1 then 1000 else if n = 2 then 100000 else if n = 3 ∨ n = 5 then 500000 else if n = 4 then 250000
  else if n = 6 then 1200000 else if n < 15 then s.rd 0x2100 (n - 7)
  else if n < 24 then 1000000
  else if n = 24 then 125 * s.ddrRate
  else 125000

/-- CLOCK_STATUS (R454): LOCKED once the domain's start has been seen (log 42). -/
def State.clockStatus (s : State) (n : Nat) : Nat :=
  if s.clockNeeded n && !s.clkLost.contains n then
    2 ^ 31 + 2 ^ 30 * flag (n < 3 || s.pwr.clkUp.contains n) + 2 ^ 29 * flag (2 < n && s.pwr.refLost) + s.clockKhz n
  else 0

/-- A domain that is no longer needed has stopped, and starts again before it is locked (R442, R454; log 42). -/
def State.stopClocks (s : State) : State :=
  { s with pwr := { s.pwr with clkUp := s.pwr.clkUp.filter s.clockNeeded } }

/-- The reading of the sensor nearest a PLL, one of the 128 on the die (R391, R445; log 179). -/
def State.pllTemp (s : State) (n : Nat) : Option Int := s.sensor (Config.pllSensor n % 128)

/-- The band calibration of a domain's PLL, at the sensor's present value (R445). -/
def State.calibrate (s : State) (n : Nat) : State :=
  { s with pwr := { s.pwr with calib := s.pwr.calib.filter (fun x => x.1 ≠ n) ++ (match s.pllTemp n with
    | some t => [(n, t)]
    | none => []) } }

/-- CLOCK_DOMAIN_START (R442): a needed domain has started and locked, its PLL's band calibrated. -/
def execClockDomainStart (n : Nat) (s : State) : Host.Outcome State Fault Refusal :=
  let s1 := s.stopClocks
  if s.clockNeeded n && !s1.pwr.clkUp.contains n then
    .next (State.calibrate { s1 with pwr := { s1.pwr with clkUp := s1.pwr.clkUp ++ [n] } } n)
  else .next s1

/-- PLL_UNLOCK (R442): a running domain loses lock and its clock is gated; none during a REF loss (R443). -/
def execPllUnlock (n : Nat) (s : State) : Host.Outcome State Fault Refusal :=
  if 3 ≤ n && s.clockNeeded n && s.pwr.clkUp.contains n && !s.clkLost.contains n && !s.pwr.refLost then
    .next (State.event { s with clkLost := s.clkLost ++ [n] } 0x14 0x03 n)
  else .next s


/-- PLL_RELOCK (R442). -/
def execPllRelock (n : Nat) (s : State) : Host.Outcome State Fault Refusal :=
  if s.clkLost.contains n && !(7 ≤ n && s.pwr.relock.contains (n - 7)) then
    .next { s with clkLost := s.clkLost.filter (fun k => k ≠ n) }
  else .next s

/-- REF_LOSS (R443): no clock is gated. -/
def execRefLoss (s : State) : Host.Outcome State Fault Refusal :=
  if s.mgmtRuns && !s.pwr.refLost then
    .next (((State.event { s with pwr := { s.pwr with refLost := true } } 0x14 0x01 0)).bump 0x2102 2 1)
  else .next s

/-- REF_RESTORED (R443). -/
def execRefRestored (s : State) : Host.Outcome State Fault Refusal :=
  if s.mgmtRuns && s.pwr.refLost then .next (State.event { s with pwr := { s.pwr with refLost := false } } 0x14 0x02 0)
  else .next s

/-- A panel in a state selects an FCLK. -/
def State.selects (s : State) (n : Nat) (v : PanelState) : Bool :=
  (List.range 32).any (fun p => s.rd 0x3200 p = n && (s.panel p).pstate = v)

/-- FCLK_FREQ_KHZ (R444): a running FCLK is gated while it relocks. -/
def fclkEffect (n khz : Nat) : Effect := fun s =>
  if s.selects n .test then (.busyInTest, s)
  else if s.selects n .running then (.stateConflict, s)
  else
    let s1 := s.wr 0x2100 n khz
    if s.clockNeeded (7 + n) && !s.pwr.relock.contains n then
      (.ok, { s1 with
        clkLost := s1.clkLost.filter (fun k => k ≠ 7 + n) ++ [7 + n]
        pwr := { s1.pwr with relock := s1.pwr.relock ++ [n] } })
    else (.ok, s1)

/-- FCLK_FREQ_WRITE, a write to 0x2100:n. -/
def execFclkFreqWrite (src : Source) (n khz : Nat) (s : State) : Host.Outcome State Fault Refusal :=
  if n < 8 then
    .next (s.command src 0x2100 n 4 (leBytes 4 khz) (s.regBytes 0x2100 n) true (khz % 2 ^ 32 ≤ Config.maxFclkKhz)
      (fclkEffect n (khz % 2 ^ 32)))
  else .next s

/-- FCLK_RELOCK_DONE (R444). -/
def execFclkRelockDone (n : Nat) (s : State) : Host.Outcome State Fault Refusal :=
  if s.pwr.relock.contains n then
    .next { s with
      clkLost := s.clkLost.filter (fun k => k ≠ 7 + n)
      pwr := { s.pwr with relock := s.pwr.relock.filter (fun k => k ≠ n) } }
  else .next s

/-- The trim word for a mean temperature in 1/16 °C: 12.5 °C steps from −40 °C (R445). -/
def trimWord (t : Int) : Nat := min 15 ((t + 640) / 200).toNat

/-- AON_RETRIM (R445): the mean of the T0 sensors that have a reading; AON time is not disturbed. -/
def execAonRetrim (s : State) : Host.Outcome State Fault Refusal :=
  let l := (List.range 16).filterMap s.sensor
  if s.dev.state = .off || l.isEmpty then .next s
  else .next { s with pwr := { s.pwr with aonTrim := trimWord (l.foldl (· + ·) 0 / (l.length : Int)) } }

/-- The sensor nearest a PLL has moved 20 °C, in 1/16 °C, from its value at the last band calibration (R445). -/
def State.pllMoved (s : State) (n : Nat) : Bool :=
  match s.pllTemp n, s.pwr.calib.find? (fun x => x.1 = n) with
  | some t, some c => 320 ≤ (t - c.2).natAbs
  | _, _ => false

/-- PLL_RECALIBRATION (R445): hitless; it counts. -/
def execPllRecalibration (n : Nat) (s : State) : Host.Outcome State Fault Refusal :=
  if 3 ≤ n && s.clockNeeded n && s.pwr.clkUp.contains n && s.pllMoved n then .next ((s.calibrate n).bump 0x2102 1 1) else .next s

/-! The management core's base channel and Ethernet link. -/

/-- A fetch or load of `n` words by the management core (R137): a poisoned one traps and writes no register. -/
def State.coreLoad (s : State) (addr n : Nat) : State :=
  let r := s.tierRead 0x43 addr n
  if 3 ≤ r.status then r.state.coreTrap else r.state.emit (.coreData r.status r.data)

/-- A store by the management core answers its status. -/
def coreStored (r : Nat × State) : State := r.2.emit (.coreData r.1 0)

/-- An access of the management core at its bank. -/
def State.coreAccess (s : State) (kind addr be data : Nat) : State :=
  match kind with
  | 0 => s.coreLoad addr 1
  | 1 => s.coreLoad (addr / 8 * 8) 8
  | 2 => coreStored (s.tierWrite 0x43 addr be data)
  | 3 => coreStored (s.tierWriteRow 0x43 (bankOf addr) (rowOf addr) data)
  | _ => s

/-- MGMT_BASE_CHANNEL_ACCESS (R109, R137, R140): kinds 0 fetch or load of a word, 1 load of a row, 2 store of bytes of a word,
3 store of a row; `addr` is a word address. -/
def execMgmtBaseChannelAccess (kind addr be data : Nat) (s : State) : Host.Outcome State Fault Refusal :=
  if s.fwRuns && !s.sec.dead && !s.pins.halted then
    .next (s.whenOpen (s.bankOpen 0x43 (bankOf addr)) 0x43 (.mgmtBaseChannelAccess kind addr be data) (s.coreAccess kind addr be data))
  else .next s

/-- ETH_LINK_CHANGE (R373): ETH_STATUS follows the RGMII link while NCLK runs. -/
def execEthLinkChange (up : Bool) (speed : Nat) (s : State) : Host.Outcome State Fault Refusal :=
  if s.clockNeeded 25 && speed < 3 then .next (s.wr 0x1100 0x0A (flag up + 2 * speed)) else .next s

end Sys2Proof.Machine
end

