-- ==== Sys2Proof/Machine/Reset.lean ====
section
/-! DEFINITION. Reset classes, supply loss and removal, and the way from power to AWAIT_FW (R34, R379, R434–R436,
R446–R448). -/

namespace Sys2Proof.Machine

/-! What a reset keeps (R335, R370, R409, R446, R448 and each chapter's reset table). -/

/-- The registers of the AON domain, which COLD and BASE_WARM keep; BOOT_STRAPS and the I3C static address stay as sampled at
POR (R335, R352). -/
def aonKept (key : Nat) : Bool :=
  let idx := key / 256
  let sub := key % 256
  idx = 0x1010 && sub = 4 || idx = 0x1110 || idx = 0x1111 || idx = 0x1112 && sub < 3 || idx = 0x2020 && sub = 2
    || idx / 256 = 0x22 || idx / 256 = 0x23 || idx = 0x3000 && sub = 0xC || idx = 0x1100 && sub = 1

/-- The registers that BASE_WARM keeps: those of AON, the upper tiers', the FCLK settings, and what the directory holds
in T1 (R59, R113, R142, R202, R222, R448; log 46). -/
def warmKept (key : Nat) : Bool :=
  let idx := key / 256
  let sub := key % 256
  aonKept key || 0x3100 ≤ idx && idx < 0x3300 || 0x4000 ≤ idx && idx < 0x4500 || idx = 0x2100
    || idx = 0x5200 && !(sub = 1 || sub = 2 || sub = 5 || sub = 6 || sub = 7) || 0x5201 ≤ idx && idx ≤ 0x5206
    || idx = 0x5300 && (sub = 1 || sub = 2 || sub = 4)

/-- Entries held at internal sources are lost and counted, each source as one run (R362); those that wait for a SEQ
reserve are lost with them (log 47). -/
def Journal.cut (x : Journal) : Journal :=
  let full := x.holds.filter (fun h => !h.2.recs.isEmpty)
  { x with
    holds := x.holds.map (fun h => (h.1, ⟨[], h.2.lossBefore || !h.2.recs.isEmpty⟩))
    lost := satAdd maxU32 x.lost (full.foldl (fun n h => n + h.2.recs.length) x.waiting.length)
    bootLost := x.bootLost ++ full.map (·.1)
    waiting := [] }

/-- The security engine and the management core after a reset: fuses, and the AON domain's TAP status, are kept (R357, R379). -/
def Sec.cut (x : Sec) : Sec := { Sec.init x.fuses with jtagFuse := x.jtagFuse }

/-- The power manager after a reset: rails with their last conversions, REF, the reported monitors and the AON trim are kept; MEMCFG_LOST
clears with COLD (R436, R440, R452). -/
def Power.cut (x : Power) (warm : Bool) : Power :=
  { Power.init with
    inRange := x.inRange, removed := x.removed.filter (fun r => !x.inRange.contains r), refLost := x.refLost
    setNow := x.setNow, drifted := x.drifted, aonTrim := x.aonTrim, volts := x.volts
    calib := x.calib.filter (fun c => warm && decide (6 ≤ c.1 ∧ c.1 ≤ 15))
    memcfgLost := warm && x.memcfgLost
    clkUp := x.clkUp.filter (fun n => warm && (n = 6 || decide (7 ≤ n) && decide (n ≤ 15))) }

/-- Pins after a reset: pads in high impedance; the TAP is kept (R484). -/
def Pins.cut (x : Pins) : Pins := { Pins.init with ir := x.ir }

/-- The T0 functions are reset (R446, R448 step 5), keeping the registers that `keep` names. A RESET_COMMAND that has not taken hold still
does (R447; log 180). -/
def State.t0Clear (s : State) (warm : Bool) (keep : Nat → Bool) : State :=
  { s with
    dev := { s.dev with stopAsserted := false, publishDue := true, held := true }
    jrn := s.jrn.cut
    reg := Tab.keep keep s.reg
    arrivals := [], links := [], lanes := [], testLanes := [], bootFn := false, ld := Loader.init, st := SelfTest.init
    shims := [], cfg := [], hdm := [], ras := [], block := [], errLog := [], bsKeys := [], ideKeys := [], stop := Stop.none, dir := Dir.init
    qm := if warm then { Qm.init with links := s.qm.links } else Qm.init
    clkLost := s.clkLost.filter (fun n => warm && (n = 6 || decide (7 ≤ n) && decide (n ≤ 15)))
    nv := { s.nv with saved := false }
    sec := s.sec.cut, pwr := s.pwr.cut warm, pins := s.pins.cut, sal := Salyn.init }

/-- Requests that wait for a completion receive none at a reset (R370, R448). -/
def State.dropAsks (s : State) : State := { s with links := s.links.map (fun x => (x.1, { x.2 with asks := [] })) }

/-- What every reset of T0 does first: an NV group is left whole or not made, a fuse write is cut, the key store is
zeroized with cause 2 (R375, R387, R424), every link is lost (R276). -/
def State.resetBegins (s : State) : State := ((s.nvLost.cutFuse.zeroizeAll 2).dropAsks).lanesDown

/-- A channel after COLD reset (R222). -/
def DdrChan.cold (x : DdrChan) : DdrChan := { DdrChan.init with saved := x.saved }

/-- A channel after BASE_WARM reset (R222): one that was in training is in self-refresh too. -/
def DdrChan.warm (x : DdrChan) : DdrChan :=
  { x with cstate := if x.cstate = .training then .selfRefresh else x.cstate, scrubPos := 0, scrubPasses := 0, reads := [], allow := none, used := 0 }

/-- COLD reset (R446, R59, R113, R142, R177, R202, R222, R467), with its LAST_RESET code: all tiers but the AON domain and the NV
store. Clock dividers stand at 1 (R65) until the throttle set is next applied (log 142). -/
def State.coldReset (s : State) (code : Nat) : State :=
  let s1 := s.resetBegins
  let s2 := s1.t0Clear false aonKept
  let chans := s2.ddr.chans.map (fun x => (x.1, x.2.cold))
  let s3 := { s2 with
    panels := []
    mem := Mem.init
    stalled := []
    ddr := { Ddr.init with chans := chans.filter (fun x => x.2 ≠ DdrChan.init) }
    warmRuns := false, memKept := false, lifecycle := s2.sec.fuses.state }
  s3.wr 0x2020 2 code

/-- A descriptor in progress is written back by the tier gate with DONE 1 and INCOMPLETE (R177, R448). -/
def State.gateMover (s : State) (m : Nat) : State :=
  if (s.mover m).desc.isSome then (s.writeBack m (s.mover m).moved 0x16 true).dropMover m else s

/-- Each of a panel's queue transfers that crosses the tier gate completes with TIER_RESET (R165, R177, R448): a message in assembly
or accepted and not yet committed, and a dequeue. -/
def State.gatePanel (s : State) (p : Nat) : State :=
  let assembling := match s.panelEnq p with
    | some x => !x.discard
    | none => false
  let accepted := s.qm.queues.flatMap (fun x => x.2.enqs.filter (fun e => e.cls = 1 && e.who = p))
  let s1 := (List.range (accepted.length + flag assembling)).foldl (fun (t : State) _ => t.emit (.panelQueue p 0xE1 0)) s
  let s2 := match s.panelDeq p with
    | some q => s1.emit (.panelCell p (match (s.queue q).deq with
      | some d => d.delivered = 0 || !(d.kind = 2 && d.who = p)
      | none => true) true 0xE1 0 0)
    | none => s1
  s2.parkPanel p

/-- Step 5 of BASE_WARM (R448): the T0 functions are reset. -/
def State.warmClear (s : State) : State :=
  let s1 := s.t0Clear true warmKept
  State.applyThrottle { s1 with ddr := { s1.ddr with
    issued := [], chans := s1.ddr.chans.map (fun x => (x.1, x.2.warm)) } }

/-- A channel still has requests to complete and self-refresh to enter. -/
def State.anyReady (s : State) : Bool := (List.range 8).any (fun c => (s.chan c).cstate = .ready)

/-- BASE_WARM clears the arithmetic, boundary and stitch registers of every panel (R59). -/
def State.clearTileRegs (s : State) : State :=
  s.mapPanels (fun _ x => { x with arith := [], boundary := [], stitchReg := [], stitchSync := [] })

/-- BASE_WARM reset, steps 1 to 3 (R448): the gate closes, shuttle and loader stop, panels are parked, descriptors are
written back, waiting T0 requests are withdrawn. With no READY channel step 5 follows at once. From FAULT steps 2 to 4 find nothing to
do: no transfer is completed and no descriptor written back; a panel that a THERMTRIP left RUNNING is parked as R60 says, and a READY
channel is then in self-refresh as R222 gives (log 168). -/
def State.warmReset (s : State) (code : Nat) : State :=
  let fault := decide (s.dev.state = .fault)
  let s1 := ({ s with
    dev := { s.dev with held := true }, warmRuns := true, memKept := true, stop := Stop.none }).resetBegins
  let s2 := s1.freezeShuttle.stopLoad.resetTests
  let s3 := ((List.range 32).foldl (if fault then State.parkPanel else State.gatePanel) s2).clearTileRegs
  let s4 := if fault then s3 else (List.range 16).foldl State.gateMover s3
  let s5 := State.wr { s4 with
    stalled := []
    mem := { s4.mem with channel := [], atBank := [], hostReads := [], sramBad := [] } } 0x2020 2 code
  if fault then s5.selfRefreshAll.warmClear
  else if s5.anyReady then s5
  else s5.warmClear

/-- DDR_SELF_REFRESH_DONE (R220, R403 step 4, R448 step 4). -/
def execDdrSelfRefreshDone (s : State) : Host.Outcome State Fault Refusal :=
  if s.warmRuns && s.anyReady && s.ddrDrained then .next s.selfRefreshAll.warmClear
  else if s.stop.step = 4 ∧ s.ddrDrained then
    .next { s.selfRefreshAll with stop := { s.stop with step := 5 } }
  else .next s

/-! Supply loss, removal and POR (R434, R436). -/

/-- A state from BOOT to FAULT. -/
def State.powered (s : State) : Bool := match s.dev.state with
  | .off | .aon => false
  | _ => true

/-- VCC_BASE is lost (R34, R434): the device moves to AON with cause SUPPLY_LOSS; the next entry to BOOT is as after COLD. The rail is
out of range, with its event, only after the 4 samples of R433 (log 181). -/
def State.baseLoss (s : State) : State :=
  if s.powered then
    let s1 := s.coldReset 6
    (({ s1 with dev := { s1.dev with held := false } }).goto .aon).cause 0x03 0x13
  else s

/-- VCC_BASE_LOSS (R434): VCC_BASE below 0.60 V on 2 consecutive samples. -/
def execVccBaseLoss (s : State) : Host.Outcome State Fault Refusal :=
  if s.powered then .next s.baseLoss else .next s

/-- POR is asserted (R434, R446): everything returns to its POR value but the NV store and the fuses; RESET_N's level, the
model's record of outputs and its queue are not the device's state. -/
def State.por (s : State) : State :=
  let s1 := s.nvLost.cutFuse
  { State.reset with
    nv := { s1.nv with saved := false }
    sec := Sec.init s1.sec.fuses
    lifecycle := s1.sec.fuses.state
    dev := { Dev.init with resetLow := s.dev.resetLow }
    wear := { s1.wear with fray := [], mend := [] }
    freeCount := s1.freeCount, out := s1.out, pending := s1.pending }

/-- POR_ASSERT (R434). -/
def execPorAssert (s : State) : Host.Outcome State Fault Refusal := .next s.por

/-- SUPPLY_REMOVAL (R436): a rail is taken away after PWR_OFF_REQ. VCC_MEM and VCC_CFG alone set MEMCFG_LOST. -/
def execSupplyRemoval (rail : Nat) (s : State) : Host.Outcome State Fault Refusal :=
  if s.mayRemove && rail < 13 then
    match rail with
    | 0 => .next s.por
    | 1 => .next (s.baseLoss.removeRail 1)
    | 2 => .next (s.railOut 10)
    | 3 => .next (s.railOut 8)
    | 12 => .next (s.railDrop 12)
    | r => .next (s.removeRail r)
  else .next s

/-- SEQ continues from the stored reserve, or from the newest copied entry plus 16,777,217 (R363); a new reserve is
committed before the first entry. -/
def State.restoreSeq (s : State) : State :=
  let r := s.readGroup [12]
  let n := match r.1 with
    | some l => l.headD 0 % 2 ^ 32
    | none => match r.2.nv.newest with
      | some e => (16777217 + bits e.2 95 64) % 2 ^ 32
      | none => 16777217
  { r.2 with jrn := { r.2.jrn with seq := n, reserve := n } }

/-- POR_RELEASE (R34, R313, R352, R363, R425): straps are sampled; `straps` holds those of BOOT_STRAPS in bits 6:0 and
I3C_ADDR in bits 9:8. -/
def execPorRelease (straps : Nat) (s : State) : Host.Outcome State Fault Refusal :=
  if s.dev.state = .off then
    let s1 := (s.wr 0x3000 0xC (straps % 128 &&& 0x7B)).wr 0x1100 1 (0x30 + bits straps 9 8)
    .next ((s1.wr 0x2020 2 1).goto .aon).restoreFray.restoreSeq
  else .next s

/-! Entry to BOOT and the boot ROM (R379, R435, R446). -/

/-- Entry to BOOT (R34, R362, R364, R405, R438, R446): PWR_OFF_REQ falls; the RESET record; lost journal runs are
reported; the VCC_CORE setpoint is applied; the NV engine goes on. -/
def State.enterBoot (s : State) : State :=
  let s1 := ({ s with
    dev := { s.dev with held := false }
    warmRuns := false
    th := { s.th with pwrOff := false }
    jrn := { s.jrn with bootLost := [], copyHeld := false } }).goto .boot
  let s2 := s1.event 0x13 0x06 (s1.rd 0x2020 2)
  let s3 := s.jrn.bootLost.foldl (fun (t : State) c => t.event 0x10 0x02 c) s2
  (s3.sendSetpoint (s3.rd 0x2002 1)).nvStart

/-- BOOT_ENTRY (R435): the base, memory and configuration supplies have been in range for 1 ms and RESET_N is high. -/
def execBootEntry (s : State) : Host.Outcome State Fault Refusal :=
  if s.dev.state = .aon && !s.dev.resetLow && [1, 2, 3, 4].all s.pwr.inRange.contains then .next s.enterBoot
  else .next s

/-- 32 bytes of the TRNG: free values (R379, log 1). -/
def State.drawChallenge (s : State) : State :=
  State.drawn { s with sec := { s.sec with challenge := leBytes 32 s.freeNow } }

/-- Step 4 of the boot ROM (R379): the identity key of the present state is derived (R386); a TRNG failure is reported and the boot goes
on, and no challenge is drawn then (log 48). -/
def State.bootTrng (s : State) (ok : Bool) : State :=
  let s1 := { s with sec := { s.sec with identity := some s.lifecycle } }
  if ok then s1.drawChallenge else State.event { s1 with sec := { s1.sec with trngBad := true } } 0x11 0x05 0

/-- Step 2 of the boot ROM (R379, R385): key hashes, revocations and MIN_SVN are latched. -/
def State.latchFuses (s : State) : State :=
  let f := s.sec.fuses
  { s with sec := { s.sec with keys := f.keys, revoked := f.revoked, minSvn := f.minSvn } }

/-- Step 5 of the boot ROM (R379, R388, R475): the SEC pins are claimed, PORT0 presents the boot function, AWAIT_FW. -/
def State.claimPins (s : State) : State :=
  (members 64 s.sec.fuses.secPins).foldl (fun (t : State) n => t.wr 0x7000 n (2 ^ 30 + 0x10)) s

/-- The bond test is full but after BASE_WARM (R416). -/
def State.fullTest (s : State) : Bool := !(s.rd 0x2020 2 = 4 || s.rd 0x2020 2 = 5)

/-- BOOT_ROM_DONE (R379): the boot ROM's steps, with what they find as operand. -/
def execBootRomDone (r : RomResult) (s : State) : Host.Outcome State Fault Refusal :=
  if s.dev.state = .boot && !s.dev.held then
    if !r.selfCheckOk || !r.fusesOk || !s.sec.fuses.lifeGood then .next (s.enterFault 0x12)
    else
      let q := s.latchFuses.bondTest r.failingBonds s.fullTest
      if q.1 then .next (q.2.enterFault 0x12)
      else
        let s1 := (q.2.bootTrng r.trngOk).claimPins
        .next (State.goto { s1 with bootFn := true } .awaitFw).lanesUp
  else .next s

/-! Reset pins and RESET_COMMAND (R446, R447). -/

/-- RESET_N_ASSERT (R434, R446): RESET_N low for at least 1 µs; in AON it only holds the device there. -/
def execResetNAssert (s : State) : Host.Outcome State Fault Refusal :=
  let s1 := { s with dev := { s.dev with resetLow := true } }
  if s.powered then .next (s1.coldReset 2) else .next s1

/-- COLD_RESET_RELEASE (R446): BOOT begins at the release of a COLD reset. -/
def execColdResetRelease (s : State) : Host.Outcome State Fault Refusal :=
  let s1 := { s with dev := { s.dev with resetLow := false } }
  if s.powered && s.dev.held && !s.warmRuns then .next s1.enterBoot else .next s1

/-- WARM_N_ASSERT (R446): no effect in AON; a COLD reset in progress goes first. -/
def execWarmNAssert (s : State) : Host.Outcome State Fault Refusal :=
  if s.powered && !s.dev.held then .next (s.warmReset 4) else .next s

/-- BASE_WARM_RELEASE (R448 step 6). -/
def execBaseWarmRelease (s : State) : Host.Outcome State Fault Refusal :=
  if s.powered && s.dev.held && s.warmRuns && !s.anyReady then .next s.enterBoot else .next s

/-- RESET_COMMAND values (R447). -/
def resetFits (v : Nat) : Bool :=
  let c := bits v 15 12
  1 ≤ c && c ≤ 4 && bits v 11 5 = 0 && (c = 3 || v % 32 = 0)

/-- COLD or BASE_WARM by command takes hold 100 µs after its response (R447), after those accepted before it. -/
def resetDueEffect (k : Nat) : Effect := fun s =>
  (.ok, { s with dev := { s.dev with resetDue := s.dev.resetDue ++ [k] } })

/-- A PANELn reset acts on a panel (R59, R164). -/
def State.resetPanel (s : State) (p : Nat) : State :=
  let s1 := s.parkQueuePort p
  (s1.setPanel p (s1.panel p).assertReset).clearDriven p

/-- RESET_COMMAND PANEL (R447). -/
def resetPanelEffect (p : Nat) : Effect := fun s =>
  if (s.panel p).pstate = .test then (.busyInTest, s)
  else if s.dev.state = .quiescing then (.stateConflict, s)
  else (.ok, s.resetPanel p)

/-- RESET_COMMAND FABRIC (R447). -/
def resetFabricEffect : Effect := fun s =>
  if (List.range 32).any (fun p => (s.panel p).pstate = .test) then (.busyInTest, s)
  else if s.dev.state = .quiescing then (.stateConflict, s)
  else (.ok, (List.range 32).foldl State.resetPanel s)

/-- The effect of a RESET_COMMAND value. -/
def resetEffect (v : Nat) : Effect :=
  match bits v 15 12 with
  | 1 => resetDueEffect 1
  | 2 => resetDueEffect 2
  | 3 => resetPanelEffect (v % 32)
  | _ => resetFabricEffect

/-- RESET_COMMAND COLD, a write to 0x2020:01. -/
def execResetCommandCold (src : Source) (s : State) : Host.Outcome State Fault Refusal :=
  .next (s.command src 0x2020 1 3 (leBytes 2 0x1000) [] true true (resetDueEffect 1))

/-- RESET_COMMAND BASE_WARM, a write to 0x2020:01. -/
def execResetCommandBaseWarm (src : Source) (s : State) : Host.Outcome State Fault Refusal :=
  .next (s.command src 0x2020 1 3 (leBytes 2 0x2000) [] true true (resetDueEffect 2))

/-- RESET_COMMAND PANEL, a write to 0x2020:01. -/
def execResetCommandPanel (src : Source) (panel : Nat) (s : State) : Host.Outcome State Fault Refusal :=
  .next (s.command src 0x2020 1 3 (leBytes 2 (0x3000 + panel)) [] true (resetFits (0x3000 + panel))
    (resetPanelEffect (panel % 32)))

/-- RESET_COMMAND FABRIC, a write to 0x2020:01. -/
def execResetCommandFabric (src : Source) (s : State) : Host.Outcome State Fault Refusal :=
  .next (s.command src 0x2020 1 3 (leBytes 2 0x4000) [] true true resetFabricEffect)

/-- Responses to accepted RESET_COMMANDs that have not been sent. -/
def Salyn.resetsOpen (x : Salyn) : Nat :=
  (x.accepted.filter (fun e => e.req.op = 2 && e.idx = 0x2020 && e.verdict = .ok)).length

/-- RESET_TAKE_HOLD (R447): the oldest accepted COLD or BASE_WARM command whose response is gone takes hold. It always does: in AON, and
for BASE_WARM while a reset is held, it goes on waiting (log 180). -/
def execResetTakeHold (s : State) : Host.Outcome State Fault Refusal :=
  match s.dev.resetDue with
  | k :: rest =>
    let s1 := { s with dev := { s.dev with resetDue := rest } }
    if !s.powered || rest.length < s.sal.resetsOpen then .next s
    else if k = 1 then .next (s1.coldReset 3)
    else if s.dev.held then .next s
    else .next (s1.warmReset 5)
  | [] => .next s

end Sys2Proof.Machine
end

