-- ==== Sys2Proof/Machine/Pins.lean ====
section
/-! DEFINITION. GPIO, eyelets and JTAG (spec/19). -/

namespace Sys2Proof.Machine

/-! Pads (R473–R483). -/

/-- A pin counts as MGMT GPIO (R476). -/
def State.isGpio (s : State) (n : Nat) : Bool := s.pinRole n = (0, 0)

/-- The pads of a pin's bank work (R483, R484): its VCCIO is in range and the device is neither in reset nor in OFF, AON or
FAULT. -/
def State.padLive (s : State) (n : Nat) : Bool := s.mgmtRuns && s.pwr.inRange.contains (8 + n / 16)

/-- The register bits of a MGMT GPIO: output enable and level. -/
def State.gpioBits (s : State) (n : Nat) : Bool × Bool :=
  ((s.rd 0x7002 (n / 16)).testBit (n % 16), (s.rd 0x7001 (n / 16)).testBit (n % 16))

/-- Eyelets are open (R485). -/
def State.eyeletsOpen (s : State) : Bool := s.lifecycle = 1 || s.lifecycle = 2 || s.lifecycle = 4

/-- A probe point's level (R487): none for a signal that the spec leaves to Penel's list. Clock probes, as they are captured (R491),
and reserved numbers are 0. -/
def State.probe (s : State) (p : Nat) : Option Bool :=
  if p < 0x20 then some false
  else if p < 0x26 then
    some ([s.dev.stopAsserted, s.throttled, s.divides, s.throttle.budget, s.throttle.narrow,
      s.throttle.ddrCap].getD (p - 0x20) false)
  else if p < 0x40 then none
  else if p < 0x60 then some (s.hardIn (p - 0x40) 3)
  else if p < 0x80 then some (s.panel (p - 0x60)).switchedIn
  else if p < 0xA0 then some (s.panel (p - 0x80)).staging.isSome
  else if p < 0xC0 then some (s.panel (p - 0xA0)).switch.isSome
  else if p < 0x100 then some false
  else if p < 0x200 then some (s.probeOut ((p - 0x100) / 8) (p % 8))
  else if p < 0x900 then none
  else some false

/-- The level of EYELETk (R485, R486, R488): none where its probe point is a clock or one of Penel's list. -/
def State.eyeletLevel (s : State) (k : Nat) : Option Bool :=
  let v := s.rd 0x7100 k
  if !s.eyeletsOpen || !v.testBit 31 then some false
  else
    match s.pins.frozen.find? (fun x => x.1 = k) with
    | some x => some x.2
    | none => if v % 4096 < 0x19 then none else (s.probe (v % 4096)).map (fun b => b != v.testBit 28)

/-- The driver of a pin's function, enable and level, where the model has its level: a MGMT GPIO's registers, a panel's pin port, an
eyelet (R473, R480). None for the console UART and for an eyelet that shows a clock or one of Penel's signals. -/
def State.functionDriver (s : State) (n : Nat) : Option (Bool × Bool) :=
  match s.pinRole n with
  | (0, 0) => some (s.gpioBits n)
  | (0, 1) => none
  | (2, _) => some (s.pioOut (bits (s.pinConfig n) 20 16) n)
  | (3, 0) => (s.eyeletLevel (bits (s.pinConfig n) 18 16)).map (fun b => (true, b))
  | _ => some (false, false)

/-- A driver as the pad sees it: with OPEN_DRAIN a pin drives low only (R474). -/
def State.padCut (s : State) (n : Nat) (d : Bool × Bool) : Bool × Bool :=
  if (s.pinConfig n).testBit 6 then (d.1 && !d.2, false) else d

/-- The driver of a pin now, a free level where the model has none (log 49). -/
def State.driverNow (s : State) (n : Nat) : (Bool × Bool) × State :=
  match s.functionDriver n with
  | some d => (s.padCut n d, s)
  | none => (s.padCut n (true, s.freeNow.testBit 0), s.drawn)

/-- The pad follows its function's driver, outside a hold window. -/
def State.drivePad (s : State) (n : Nat) : State :=
  if (s.pin n).hold then s
  else
    let d := s.driverNow n
    d.2.setPin n { d.2.pin n with drive := d.1.1, level := d.1.2 }

/-- PIN_CONFIG values that R475 and R6 accept. -/
def pinFits (v : Nat) : Bool :=
  let o := bits v 31 30
  let f := bits v 27 24
  let sel := bits v 21 16
  bits v 29 28 = 0 && bits v 23 22 = 0 && bits v 15 10 = 0 && !v.testBit 2 && bits v 9 8 ≠ 3
    && (match o with
      | 0 => (f = 0 || f = 1 || f = 2 || f = 3) && sel = 0
      | 1 => f = 0 && sel = 0
      | 2 => f = 0 && sel < 32
      | _ => f = 0 && sel < 8 || f = 1 && sel < 2)
    && (v % 4 = 0 || o = 0 && (f = 0 || f = 3))

/-- PIN_CONFIG (R475, R481, R482): a change of OWNER, FUNCTION or SELECT opens a hold window, in which the pad keeps its
driver; other changes take effect without one. -/
def pinEffect (n v : Nat) : Effect := fun s =>
  if s.sec.fuses.secPins.testBit n || bits v 31 30 = 1 then (.ownerMismatch, s)
  else
    let s1 := s.wr 0x7000 n v
    if v / 65536 = s.pinConfig n / 65536 then (.ok, s1.drivePad n)
    else
      let s2 := s.drivePad n
      (.ok, (s2.wr 0x7000 n v).setPin n { s2.pin n with hold := true })

/-- PIN_CONFIG_WRITE, a write to 0x7000:n. -/
def execPinConfigWrite (src : Source) (n value : Nat) (s : State) : Host.Outcome State Fault Refusal :=
  if n < 64 then
    .next (s.command src 0x7000 n 4 (leBytes 4 value) (s.regBytes 0x7000 n)
      (bits value 31 30 ≠ 3 || s.eyeletsOpen) (pinFits (value % 2 ^ 32)) (pinEffect n (value % 2 ^ 32)))
  else .next s

/-- PIN_HOLD_WINDOW_END (R481): the new function's driver reaches the pad, and its edge detector takes the pad level as its
reference. A pad that neither the function nor the board drives keeps its last level where KEEPER is set; else it is at `level`, as a
pad is that the board drives. -/
def execPinHoldWindowEnd (n : Nat) (board level : Bool) (s : State) : Host.Outcome State Fault Refusal :=
  if n < 64 && (s.pin n).hold && s.padLive n then
    let s1 := State.drivePad (s.setPin n { s.pin n with hold := false }) n
    let x := s1.pin n
    let y := s.pin n
    let kept := if y.drive then y.level else y.seen
    .next (s1.setPin n { x with
      seen := if x.drive then x.level else if !board && (s.pinConfig n).testBit 7 then kept else level })
  else .next s

/-- A masked write over the pins of a group (R476): a masked bit of a pin that is not MGMT GPIO is left unchanged. -/
def State.maskedWrite (s : State) (idx g v : Nat) : State :=
  let new := (List.range 16).foldl (fun n i =>
    if v.testBit (16 + i) && s.isGpio (16 * g + i) then setBit n i (v.testBit i) else n) (s.rd idx g)
  (List.range 16).foldl (fun (t : State) i =>
    if v.testBit (16 + i) && t.isGpio (16 * g + i) then t.drivePad (16 * g + i) else t) (s.wr idx g new)

/-- GPIO_OUT and GPIO_OE (R476). -/
def gpioEffect (idx g v : Nat) : Effect := fun s => (.ok, s.maskedWrite idx g v)

/-- GPIO_OUT_WRITE, a write to 0x7001:g. -/
def execGpioOutWrite (src : Source) (g value : Nat) (s : State) : Host.Outcome State Fault Refusal :=
  if g < 4 then
    .next (s.command src 0x7001 g 4 (leBytes 4 value) (s.regBytes 0x7001 g) true true (gpioEffect 0x7001 g value))
  else .next s

/-- GPIO_OE_WRITE, a write to 0x7002:g. -/
def execGpioOeWrite (src : Source) (g value : Nat) (s : State) : Host.Outcome State Fault Refusal :=
  if g < 4 then
    .next (s.command src 0x7002 g 4 (leBytes 4 value) (s.regBytes 0x7002 g) true true (gpioEffect 0x7002 g value))
  else .next s

/-- The synchronised level of a pin may become `level`: its pad works, its mask is off, and a pad that is driven has its driver's
level (R477, R478), any level where the model does not have that (log 49). -/
def State.levelTurns (s : State) (n : Nat) (level : Bool) : Bool :=
  let x := s.pin n
  n < 64 && s.padLive n && !x.hold && x.seen != level
    && match s.functionDriver n with
      | some d => !(s.padCut n d).1 || (s.padCut n d).2 = level
      | none => true

/-- EDGE selects a direction (R474). -/
def State.edgeOn (s : State) (n : Nat) (level : Bool) : Bool := (s.pinConfig n).testBit (if level then 0 else 1)

/-- The synchronised level of a pin changes. -/
def State.seePin (s : State) (n : Nat) (level : Bool) : State := s.setPin n { s.pin n with seen := level }

/-- GPIO_EDGE (R478): the synchronised level of a pin other than a SYNC_IN changes; a selected edge of a MGMT GPIO is
recorded. -/
def execGpioEdge (n : Nat) (level : Bool) (s : State) : Host.Outcome State Fault Refusal :=
  if s.levelTurns n level && s.pinRole n ≠ (0, 3) then
    let s1 := s.seePin n level
    if s.isGpio n && s.edgeOn n level then
      .next ((s1.wr 0x7004 (n / 16) (setBit (s1.rd 0x7004 (n / 16)) (n % 16) true)).event 0x16 0x01 (256 * flag level + n))
    else .next s1
  else .next s

/-- SYNC_CAPTURE (R479): edges closer than 2 µs to the last one latched are not (log 50). -/
def execSyncCapture (n : Nat) (level : Bool) (s : State) : Host.Outcome State Fault Refusal :=
  if s.levelTurns n level && s.pinRole n = (0, 3) then
    let s1 := s.seePin n level
    let near := match s.pins.syncAt with
      | some t => decide (s.dev.aonTime < t + 2)
      | none => false
    if s.edgeOn n level && !near then
      let s2 := { s1 with pins := { s1.pins with syncAt := some s.dev.aonTime } }
      .next (((s2.wr 0x7005 1 (s.dev.aonTime % 2 ^ 64)).bump 0x7005 2 1).event 0x16 0x02 n)
    else .next s1
  else .next s

/-- EDGE_PENDING (R478): writing 1 clears. -/
def edgeEffect (g v : Nat) : Effect := fun s =>
  (.ok, s.wr 0x7004 g ((members 16 (s.rd 0x7004 g)).foldl (fun n i => if v.testBit i then n else n + 2 ^ i) 0))

/-- EDGE_PENDING_WRITE, a write to 0x7004:g. -/
def execEdgePendingWrite (src : Source) (g value : Nat) (s : State) : Host.Outcome State Fault Refusal :=
  if g < 4 then
    .next (s.command src 0x7004 g 4 (leBytes 4 value) (s.regBytes 0x7004 g) true true (edgeEffect g value))
  else .next s

/-- GPIO_IN (R477): levels and enabled drivers. -/
def State.gpioIn (s : State) (g : Nat) : Nat :=
  (List.range 16).foldl (fun v i =>
    let n := 16 * g + i
    let x := s.pin n
    let d := if x.hold then x.drive else (s.driverNow n).1.1
    if s.padLive n then v + flag x.seen * 2 ^ i + flag d * 2 ^ (16 + i) else v) 0

/-! Eyelets (R485–R488). -/

/-- EYELET_SELECT values that R486 and R6 accept (log 51). -/
def eyeletFits (v : Nat) : Bool :=
  bits v 27 24 = 0 && bits v 19 12 = 0
    && (if v % 4096 ≤ 0x018 then 3 ≤ bits v 23 20 else bits v 23 20 = 0)

/-- EYELET_SELECT (R486, R488): a write thaws the eyelet. -/
def eyeletEffect (k v : Nat) : Effect := fun s =>
  (.ok, State.wr { s with pins := { s.pins with frozen := s.pins.frozen.filter (fun i => i.1 ≠ k) } } 0x7100 k v)

/-- EYELET_SELECT_WRITE, a write to 0x7100:k. -/
def execEyeletSelectWrite (src : Source) (k value : Nat) (s : State) : Host.Outcome State Fault Refusal :=
  if k < 8 then
    .next (s.command src 0x7100 k 4 (leBytes 4 value) (s.regBytes 0x7100 k) s.eyeletsOpen (eyeletFits (value % 2 ^ 32))
      (eyeletEffect k (value % 2 ^ 32)))
  else .next s

/-- An eyelet freezes at an edge of trigger t (R486, R488). -/
def State.freezes (s : State) (t k : Nat) : Bool :=
  let v := s.rd 0x7100 k
  v.testBit 31 && v.testBit 30 && flag (v.testBit 29) = t && s.pins.frozen.all (fun i => i.1 ≠ k)

/-- The eyelets that a rising edge of trigger t freezes, at the level each has now (R488), a free one where the model does not have
it (log 49). -/
def State.freezeNow (s : State) (t : Nat) : List (Nat × Bool) :=
  ((List.range 8).filter (s.freezes t)).map (fun k => (k, (s.eyeletLevel k).getD (s.freeNow.testBit k)))

/-- EYELET_TRIGGER (R485, R488). -/
def execEyeletTrigger (t : Nat) (s : State) : Host.Outcome State Fault Refusal :=
  if t < 2 && s.eyeletsOpen && s.mgmtRuns then
    let v := s.rd 0x7101 1
    let c := satAdd 255 (v / 256 ^ t % 256) 1
    let s1 := s.wr 0x7101 1 (if t = 0 then 256 * (v / 256) + c else v % 256 + 256 * c)
    let s2 := { s1 with pins := { s1.pins with frozen := s1.pins.frozen ++ s.freezeNow t } }
    .next (s2.event 0x17 0x01 t).drawn
  else .next s

/-- EYELET_STATUS (R493). -/
def State.eyeletStatus (s : State) : Nat :=
  s.rd 0x7101 1 + s.pins.frozen.foldl (fun n k => n + 2 ^ (24 + k.1)) 0

/-- What PROBE_SCAN captures (R491): bit p holds probe p; the others are free values (log 49). -/
def State.probes (s : State) : Nat :=
  (List.range 0x900).foldl (fun n p => n + flag ((s.probe p).getD (s.freeNow.testBit p)) * 2 ^ p) 0

/-! JTAG (R489–R491). -/

/-- Eyelets and private JTAG are open (R374). -/
def State.jtagLife (s : State) (code : Nat) : Bool :=
  if code = 0x41 then s.lifecycle = 0 || s.lifecycle = 1
  else if 0x40 ≤ code ∧ code ≤ 0x43 then s.eyeletsOpen
  else true

/-- The device states in which an instruction is permitted (R490). -/
def State.jtagState (s : State) (code : Nat) : Bool :=
  match code with
  | 0x00 | 0x03 | 0x04 | 0x05 | 0x06 =>
    (match s.dev.state with
      | .boot | .awaitFw | .managed | .safeStop => true
      | _ => false)
  | 0x01 => s.dev.state ≠ .off
  | 0x02 | 0x40 | 0x42 | 0x43 => s.powered && s.dev.state ≠ .fault
  | 0x41 =>
    (match s.dev.state with
      | .awaitFw | .managed | .operational => true
      | _ => false)
  | _ => true

/-- The instructions of R490. -/
def jtagCodes : List Nat := [0, 1, 2, 3, 4, 5, 6, 0x40, 0x41, 0x42, 0x43, 0xFF]

/-- An instruction is current and permitted. -/
def State.jtagRuns (s : State) (code : Nat) : Bool := s.pins.ir = code && s.jtagLife code && s.jtagState code

/-- JTAG_INSTRUCTION_UPDATE (R490): one that is not permitted acts as BYPASS, counts and is reported; an unlisted code acts as
BYPASS. The TAP is in the AON domain. -/
def execJtagInstructionUpdate (code : Nat) (s : State) : Host.Outcome State Fault Refusal :=
  let set := fun (t : State) (c : Nat) => { t with pins := { t.pins with ir := c } }
  if s.dev.state = .off then .next s
  else if !jtagCodes.contains code then .next (set s 0xFF)
  else if !s.jtagLife code then .next (((set s 0xFF).bump 0x7101 2 1).event 0x17 0x02 (0x100 + code))
  else if !s.jtagState code then .next (((set s 0xFF).bump 0x7101 2 1).event 0x17 0x02 (0x200 + code))
  else .next (set s code)

/-- A fuse word by its JTAG address (R491; log 25). -/
def Fuses.word (f : Fuses) (addr : Nat) : Nat :=
  match Config.fuseName addr with
  | some 0 => f.life
  | some 9 => f.revoked
  | some 10 => f.minSvn
  | some 11 => f.secPins
  | some k => if 1 ≤ k ∧ k ≤ 8 then f.key (k - 1) % 2 ^ 256 else Tab.look (fun _ => 0) f.other addr
  | none => Tab.look (fun _ => 0) f.other addr

/-- JTAG_FUSE_READ (R491): the addressed word is captured, its address in bits 271:256. -/
def execJtagFuseRead (addr : Nat) (s : State) : Host.Outcome State Fault Refusal :=
  if s.jtagRuns 0x40 then .next (s.emit (.capture (2 ^ 256 * (addr % 65536) + s.sec.fuses.word (addr % 65536)))) else .next s

/-- The operation that programs an addressed word. -/
def jtagFuseKind (addr : Nat) : Nat := match Config.fuseName addr with
  | some 0 => 13
  | some k => if k ≤ 11 then k else 12
  | none => 12

/-- JTAG_FUSE_PROGRAM (R491): Capture-DR shows the last result; the word is programmed at Update-DR under the refusals of R376. -/
def execJtagFuseProgram (addr data : Nat) (s : State) : Host.Outcome State Fault Refusal :=
  if s.jtagRuns 0x41 then
    let s1 := s.emit (.capture s.sec.jtagFuse)
    if s.fuseFree (s.sec.fuses.word (addr % 65536) = 0) then
      .next { s1 with sec := { s1.sec with
        op := some ⟨jtagFuseKind (addr % 65536), addr % 65536, data % 2 ^ 256, none⟩, jtagFuse := 3 } }
    else .next { s1 with sec := { s1.sec with jtagFuse := 2 } }
  else .next s

/-- JTAG_PROBE_SCAN (R491). -/
def execJtagProbeScan (s : State) : Host.Outcome State Fault Refusal :=
  if s.jtagRuns 0x43 then .next (s.emit (.capture s.probes)).drawn else .next s

/-- CORE_DEBUG_ACCESS (R491): kinds 0 halt, 1 run, 2 step, 3 read a core register, 4 write one, 5 read and 6 write a byte of the
core's SRAM. The core's own registers are not described, so what one holds is a free value (log 52). -/
def execCoreDebugAccess (kind addr data : Nat) (s : State) : Host.Outcome State Fault Refusal :=
  if s.jtagRuns 0x42 && !s.dev.held then
    match kind with
    | 0 => .next { s with pins := { s.pins with halted := true } }
    | 1 => .next { s with pins := { s.pins with halted := false } }
    | 3 => .next (s.emit (.capture s.freeNow)).drawn
    | 5 => .next (s.emit (.capture (s.sec.byte (addr % 524288)).toNat))
    | 6 => .next { s with sec := s.sec.put (addr % 524288) [BitVec.ofNat 8 data] }
    | _ => .next s
  else .next s

/-- TRST (R489): the TAP returns to Test-Logic-Reset with IDCODE. -/
def execTrst (s : State) : Host.Outcome State Fault Refusal := .next { s with pins := { s.pins with ir := 1 } }

end Sys2Proof.Machine
end

