-- ==== Sys2Proof/Machine/Device.lean ====
section
/-! DEFINITION. State commands, AON time, the event log and its notices, and the publication of the pattern digest (spec/01,
R330–R332, R365–R369). -/

namespace Sys2Proof.Machine

/-! State commands (R34, R35). -/

/-- ENABLE releases a HELD panel that is parked or whose RELEASE_ON_ENABLE is TRUE (R60, R69). -/
def State.enablePanel (s : State) (p : Nat) : State :=
  let x := s.panel p
  if x.pstate = .held && (x.parked || s.rd 0x3103 p = 1) then s.releasePanel p false else s

/-- A directory that was stopped runs a RESUME sweep before it serves requests (R202). -/
def State.resumeDir (s : State) : State :=
  let s1 := { s with dir := { s.dir with stopped := false } }
  if s.dir.stopped && s.rd 0x5200 1 = 1 then s1.startSweep 1 [] else s1

/-- The entry checks of ENABLE (R34). -/
def State.mayEnable (s : State) : Bool :=
  s.dev.state = .managed && !s.pwr.refLost && s.th.coolantOk && s.allBelow (s.point 5) && s.suppliesGood

/-- STATE_COMMAND ENABLE (R34, R35). -/
def enableEffect : Effect := fun s =>
  if s.mayEnable then (.ok, (List.range 32).foldl State.enablePanel (s.goto .operational).resumeDir)
  else (.stateConflict, s)

/-- STATE_COMMAND STOP (R35): the orderly stop with cause COMMAND. -/
def stopEffect : Effect := fun s =>
  if s.dev.state = .managed ∨ s.dev.state = .operational then (.ok, s.assertStop 4) else (.stateConflict, s)

/-- The clear checks of CLEAR (R34, R436). -/
def State.mayClear (s : State) : Bool :=
  s.dev.state = .safeStop && s.allBelow (s.point 6) && s.suppliesGood && !s.pwr.memcfgLost

/-- CLEAR drops every scorch flag and its counts, with one event where one was on (R397). -/
def State.clearScorch (s : State) : State :=
  let s1 := { s with th := { s.th with
    lit := Tab.keep (fun k => decide (k / 256 ≠ 2)) s.th.lit
    up := Tab.keep (fun k => decide (k / 256 ≠ 2)) s.th.up } }
  if s.levelOn 2 then s1.event 0x12 0x06 0 else s1

/-- After VCC_CORE was removed the ACTIVE slot of every HELD panel is staged again (R436). -/
def State.restagePanel (s : State) (p : Nat) : State :=
  let x := s.panel p
  match x.pstate, x.slotIn .active with
  | .held, some k => s.setPanel p (x.startStage k .restage)
  | _, _ => s

/-- STATE_COMMAND CLEAR (R34, R35, R212, R405, R436): PWR_OFF_REQ falls, DDR5 resumes, lanes train, MANAGED. -/
def clearEffect : Effect := fun s =>
  if s.mayClear then
    let s1 := s.clearScorch
    let s2 := { s1 with th := { s1.th with pwrOff := false }, pwr := { s1.pwr with removed := [] } }
    let s3 := if s.pwr.removed.contains 4 then (List.range 32).foldl State.restagePanel s2 else s2
    (.ok, s3.resumeAll.enterManaged)
  else (.stateConflict, s)

/-- The effect of a STATE_COMMAND value (R35). -/
def stateEffect (v : Nat) : Effect := if v = 1 then enableEffect else if v = 2 then stopEffect else clearEffect

/-- STATE_COMMAND ENABLE, a write of 0x01 to 0x1010:03. -/
def execStateCommandEnable (src : Source) (s : State) : Host.Outcome State Fault Refusal :=
  .next (s.command src 0x1010 3 2 (leBytes 1 1) [] true true enableEffect)

/-- STATE_COMMAND STOP, a write of 0x02 to 0x1010:03. -/
def execStateCommandStop (src : Source) (s : State) : Host.Outcome State Fault Refusal :=
  .next (s.command src 0x1010 3 2 (leBytes 1 2) [] true true stopEffect)

/-- STATE_COMMAND CLEAR, a write of 0x03 to 0x1010:03. -/
def execStateCommandClear (src : Source) (s : State) : Host.Outcome State Fault Refusal :=
  .next (s.command src 0x1010 3 2 (leBytes 1 3) [] true true clearEffect)

/-- DEVICE_FLAGS (R36). -/
def State.deviceFlags (s : State) : Nat :=
  flag s.throttled + 2 * flag s.dev.stopAsserted

/-! AON time (R30, R32). -/

/-- AON time takes a value; TIME_MARK is written when bits 31:0 return to 0 (R30). -/
def State.setTime (s : State) (t : Nat) : State :=
  let s1 := { s with dev := { s.dev with aonTime := t } }
  if t % 2 ^ 32 = 0 then s1.event 0x00 0x04 (bits t 47 32) else s1

/-- The commands held for the memory tier are presented again, oldest first (R107; log 146). -/
def State.retried (s : State) : State :=
  { s with pending := s.pending ++ s.stalled.map (fun x => x.2), stalled := [] }

/-- TIME_MARK (R30): AON time has run on until bits 31:0 return to 0 (log 53). -/
def execTimeMark (s : State) : Host.Outcome State Fault Refusal :=
  if s.dev.state = .off then .next s else .next (s.setTime (2 ^ 32 * (s.dev.aonTime / 2 ^ 32 + 1) % 2 ^ 64))

/-! Notices (R367–R369). -/

/-- A notice rule is enabled and matches an event (R367). -/
def ruleMatches (rule subsys event : Nat) : Bool :=
  rule.testBit 31 && bits rule 15 8 = subsys && (rule % 256 = 0 || rule % 256 = event)

/-- The rules that match an event. -/
def State.rulesFor (s : State) (subsys event : Nat) : List Nat :=
  ((List.range 64).map (s.rd 0x1110)).filter (fun r => ruleMatches r subsys event)

/-- ALERT_N is driven low (R369): ALERT_SEQ differs from ALERT_ACK, in every state but OFF. -/
def State.alertLow (s : State) : Bool := s.dev.state ≠ .off && s.rd 0x1112 1 ≠ s.rd 0x1112 2

/-- A notify target. -/
def State.target (s : State) (t : Nat) : Target := Tab.look (fun _ => Target.init) s.sal.targets t

/-- Store a notify target. -/
def State.setTarget (s : State) (t : Nat) (x : Target) : State :=
  { s with sal := { s.sal with targets := Tab.put (fun _ => Target.init) s.sal.targets t x } }

/-- A record is pending for a target; one beyond 256 is lost for it (R368). -/
def State.pendRecord (s : State) (record t : Nat) : State :=
  if s.rd 0x1111 t % 256 = 0 then s
  else
    let x := s.target t
    if x.records.length < 256 then s.setTarget t { x with records := x.records ++ [(record, s.dev.aonTime)] }
    else s.setTarget t { x with lost := x.lost + 1 }

/-- A record goes once to each sink that a matching rule selects (R367); in AON and FAULT, and while T0 is in reset, ALERT_N
alone delivers (R29). -/
def State.notice (s : State) (record subsys event : Nat) : State :=
  let rs := s.rulesFor subsys event
  let s1 := if rs.any (fun r => r.testBit 30) then s.wr 0x1112 1 ((s.rd 0x1112 1 + 1) % 2 ^ 32) else s
  if s.mgmtRuns then
    let s2 := if rs.any (fun r => r.testBit 29) then [1, 2, 3, 4].foldl (fun t k => t.pendRecord record k) s1 else s1
    let vs := ((rs.filter (fun r => r.testBit 28)).map (fun r => bits r 27 22)).eraseDups
    vs.foldl State.trigger s2
  else s1

/-- A record enters the log (R28, R31) and is matched against the rules. -/
def State.logRecord (s : State) (subsys event inst : Nat) : State :=
  let r := 2 ^ 56 * subsys + 2 ^ 48 * event + 2 ^ 32 * (inst % 65536) + s.dev.aonTime % 2 ^ 32
  State.notice { s with dev := { s.dev with
    evtLog := Tab.put (fun _ => 0) s.dev.evtLog (s.dev.evtCount % 1024) r
    evtCount := (s.dev.evtCount + 1) % 2 ^ 32 } } r subsys event

/-- EVENT_RECORD_ACCEPT (R29): the serialiser takes the oldest record of a source, with EVENT_LOST immediately before the
first one that entered the hold after a loss. -/
def execEventRecordAccept (source : Nat) (s : State) : Host.Outcome State Fault Refusal :=
  match (s.hold source).recs with
  | [] => .next s
  | r :: t =>
    if s.dev.state = .off then .next s
    else
      let s1 := { s with dev := { s.dev with
        evtHolds := Tab.put (fun _ => EvtHold.empty) s.dev.evtHolds source ⟨t, (s.hold source).lost⟩ } }
      let s2 := if r.lostBefore = 0 then s1 else s1.logRecord r.subsys 0xFF (satAdd 65535 0 r.lostBefore)
      .next (s2.logRecord r.subsys r.event r.inst)

/-- The record at a position of the ring. -/
def State.logAt (s : State) (i : Nat) : Nat := Tab.look (fun _ => 0) s.dev.evtLog i

/-- A read from a source with a reply path (R13, R350, R357): served, counted, answered with the value or a status, with INTERNAL where
firmware serves the object and has stopped (R358). -/
def State.readCommand (s : State) (src : Source) (idx sub : Nat) (f : State → List Byte × State) : State :=
  if s.served src then
    let s1 := s.countRequest src
    if s1.fwRuns || bootObject idx sub false then
      if s1.sec.dead && firmwareServes src idx sub false then s1.say src 1 idx sub (.status src Status.internal.code)
      else
        let r := f s1
        r.2.say src 1 idx sub (.value src r.1)
    else s1.say src 1 idx sub (.status src Status.awaitingFirmware.code)
  else s

/-- A read of EVENT_RECORD advances EVENT_READ_INDEX (R36). -/
def State.readEvent (s : State) : List Byte × State :=
  let i := s.rd 0x1012 2
  (leBytes 8 (s.logAt i), s.wr 0x1012 2 ((i + 1) % 1024))

/-- EVENT_RECORD_READ, a read of 0x1012:03 (R36). -/
def execEventRecordRead (src : Source) (s : State) : Host.Outcome State Fault Refusal :=
  .next (s.readCommand src 0x1012 3 State.readEvent)

/-! The pattern digest (R330–R332, R365, R366). -/

/-- The value of a covered object, its fields that are not RW taken as 0, ENABLE of a QUEUE_SETUP too (R152, R365). -/
def State.coveredValue (s : State) (idx sub : Nat) : Nat :=
  if 0x4100 ≤ idx ∧ idx ≤ 0x4104 then (s.bank (256 * (idx - 0x4100) + sub)).owner
  else if 0x6010 ≤ idx ∧ idx ≤ 0x601F then (s.queue (256 * (idx - 0x6010) + sub)).setup % 2 ^ 255
  else s.rd idx sub

/-- The record of a covered subindex (R366). -/
def State.coveredRecord (s : State) (idx sub : Nat) : List Byte :=
  match objFind idx sub with
  | some o =>
    leBytes 2 idx ++ leBytes 1 sub ++ leBytes 1 o.ty.code ++ leBytes 2 o.size ++ leBytes o.size (s.coveredValue idx sub)
  | none => []

/-- The covered subindexes of an index, rising. -/
def coveredSubs (idx : Nat) : List Nat := (List.range 256).filter (covered idx)

/-- The covered indexes, rising. -/
def coveredIndexes : List Nat :=
  ((List.range 0x6000).map (· + 0x2000)).filter (fun i => objIndexed i && !(coveredSubs i).isEmpty)

/-- The index digest (R366). -/
def State.indexDigest (s : State) (idx : Nat) : List Byte := sha256 ((coveredSubs idx).flatMap (s.coveredRecord idx))

/-- The settings digest (R366). -/
def State.settingsDigest (s : State) : List Byte :=
  sha256 (coveredIndexes.flatMap (fun i => leBytes 2 i ++ s.indexDigest i))

/-- The firmware digest: zeros while no firmware has been started (R331, R386; log 54). -/
def State.firmwareDigest (s : State) : List Byte := if s.sec.closed then s.sec.digest else List.replicate 32 0

/-- The slot digests of a panel, slot 0 first (R330, R331). -/
def State.slotDigests (s : State) (p : Nat) : List Byte := (List.range 8).flatMap (s.panel p).slotDigest

/-- A publication of the device as it stands (R331, R332), with the epoch increased by 1 (R27). -/
def State.publication (s : State) : Publication :=
  let slots := (List.range 32).map s.slotDigests
  let set := s.settingsDigest
  let fw := s.firmwareDigest
  { epoch := s.pub.epoch + 1, digest := sha256 (slots.flatten ++ set ++ fw), slots := slots, settings := set, firmware := fw }

/-- DIGEST_PUBLICATION (R27, R332): a change has fallen due and T0 is neither held in reset nor unpowered. -/
def execDigestPublication (s : State) : Host.Outcome State Fault Refusal :=
  if s.dev.publishDue && s.mgmtRuns then
    .next { s with pub := s.publication, dev := { s.dev with publishDue := false } }
  else .next s

end Sys2Proof.Machine
end

