-- ==== Sys2Proof/Machine/Dictionary.lean ====
section
/-! DEFINITION. The object dictionary as a whole (spec/13): what a read of each object returns, and how a write of each object is
checked and what it does. -/

namespace Sys2Proof.Machine

/-! Reads. -/

/-- PART_NUMBER (R1, R372): "TVM5-96-S1-X" or "TVM5-96-S2-X". -/
def partNumber : List Byte :=
  [0x54, 0x56, 0x4D, 0x35, 0x2D, 0x39, 0x36, 0x2D, 0x53] ++ [if Config.gradeS2 then 0x32 else 0x31] ++ [0x2D, 0x58]

/-- The per-link objects, which read 0 at a lane that begins no link (R278, R305). -/
def perLink (idx : Nat) : Bool := 0x5110 ≤ idx && idx ≤ 0x5115 || 0x5130 ≤ idx && idx ≤ 0x5137

/-- Bits of 32 banks of a group: bit b covers bank 32g + b. -/
def State.bankMap (s : State) (g : Nat) (p : Bank → Bool) : Nat :=
  (List.range 32).foldl (fun n b => n + flag (p (s.bank (32 * g + b))) * 2 ^ b) 0

/-- DARN_ENTRY (R133). -/
def DarnEntry.packed (d : DarnEntry) : Nat :=
  2 ^ 31 * flag d.valid + 2 ^ 30 * flag d.migrating + 2 ^ 24 * d.cause + 2 ^ 16 * d.spareCe + d.row * 8 + d.word

/-- DARN_SPARES_FREE_TOTAL (R144): 8 spares a bank, less the entries in use. -/
def State.sparesFree (s : State) : Nat :=
  10240 - s.mem.banks.foldl (fun n x => n + (x.2.darn.filter (fun d => d.2.cause ≠ 0)).length) 0

/-- RINSE_LAG_MAX (R144). -/
def State.largestLag (s : State) : Nat := s.mem.banks.foldl (fun n x => max n x.2.rinseLag) 0

/-- The numeric objects at 0x1000–0x1FFF. -/
def State.baseWord (s : State) (idx sub : Nat) : Nat :=
  if idx = 0x1000 then
    (if sub = 4 then (if Config.gradeS2 then 2 else 1) else if sub = 6 then Config.serialNumber else s.rd idx sub)
  else if idx = 0x1010 then
    (if sub = 1 then s.dev.state.code else if sub = 2 then s.deviceFlags else s.rd idx sub)
  else if idx = 0x1011 then s.dev.aonTime
  else if idx = 0x1012 then (if sub = 1 then s.dev.evtCount else if sub = 4 then s.dev.evtLost else s.rd idx sub)
  else if idx = 0x1020 then s.pub.epoch
  else if idx = 0x1100 then
    (if sub = 8 then Config.macAddress % 2 ^ 48
     else match (s.sal.settings.filter (fun x => x.1 = sub)).getLast? with
       | some x => x.2
       | none => s.rd idx sub)
  else if idx = 0x1104 then
    (if sub = 1 then s.jrn.count else if sub = 4 then s.jrn.lost else if sub = 5 then s.jrn.seq else s.rd idx sub)
  else if idx = 0x1105 then
    (if sub = 1 then (match s.nv.newest with
      | some x => x.1
      | none => 0) else s.rd idx sub)
  else if idx = 0x1200 then
    (if sub = 1 then s.lifecycle else if sub = 3 then s.fuseStatus else if sub = 4 then s.sec.fuses.minSvn
     else if sub = 0x18 then s.sec.fuses.revoked else if sub = 0x30 then s.sec.fuses.secPins else s.rd idx sub)
  else if idx = 0x1300 then
    (if sub = 1 then Config.romVersion else if sub = 2 then s.fwStatus else s.rd idx sub)
  else s.rd idx sub

/-- The numeric objects at 0x2000–0x2FFF. -/
def State.healthWord (s : State) (idx sub : Nat) : Nat :=
  if idx = 0x2000 then s.railMonitor sub
  else if idx = 0x2001 then s.supplyStatus
  else if idx = 0x2101 then s.clockStatus sub
  else if idx = 0x2200 then
    (if sub = 0xA then s.thermalStatus else if sub = 0xB then s.hottestValue else s.rd idx sub)
  else if idx = 0x2202 then (match s.inferred sub with
    | some t => u16 t
    | none => 0x8000)
  else if idx = 0x2301 then wearIndex (s.rd 0x2300 sub)
  else if idx = 0x2306 then (if sub = 1 then s.nvStatus else s.rd idx sub)
  else s.rd idx sub

/-- The numeric objects at 0x3000–0x4FFF. -/
def State.planeWord (s : State) (idx sub : Nat) : Nat :=
  if idx = 0x3000 then (if sub = 2 then s.ld.status else s.rd idx sub)
  else if idx = 0x3101 then s.panelStatus sub
  else if idx = 0x3102 then (s.panel sub).slotStates
  else if idx = 0x3201 then s.panelFabricStatus sub
  else if idx = 0x3206 then (if sub = 3 then Config.maxFclkKhz else s.rd idx sub)
  else if idx = 0x4000 then (if sub = 2 then s.pressBudget else s.rd idx sub)
  else if idx = 0x4002 then s.bankMap sub (fun x => x.wipePending)
  else if 0x4100 ≤ idx ∧ idx ≤ 0x4104 then (s.bank (256 * (idx - 0x4100) + sub)).ownerValue
  else if idx = 0x4300 then (if sub = 0xF then s.largestLag else s.rd idx sub)
  else if idx = 0x4400 then (if sub = 3 then s.sparesFree else s.rd idx sub)
  else if idx = 0x4401 then (Tab.look (fun _ => darnFree) (s.bank (s.rd 0x4400 1)).darn sub).packed
  else s.rd idx sub

/-- The numeric objects at 0x5000–0x5FFF. -/
def State.linkWord (s : State) (idx sub : Nat) : Nat :=
  if perLink idx && !s.beginsLink sub then 0
  else if idx = 0x5000 then s.laneStatus sub
  else if idx = 0x5002 then s.txCoeff sub
  else if 0x500B ≤ idx && idx ≤ 0x500D then s.checkerWord idx sub
  else if idx = 0x5101 then s.portStatus sub
  else if idx = 0x5112 then s.linkStatus sub
  else if idx = 0x5130 then s.laceStatus sub
  else if idx = 0x5200 then (if sub = 2 then s.dirStatus else if sub = 3 then 131072 * s.dirN else s.rd idx sub)
  else if idx = 0x5301 then (s.chan sub).status
  else if idx = 0x5302 then (s.chan sub).margin
  else s.rd idx sub

/-- The numeric objects at 0x6000–0x7FFF. -/
def State.queueWord (s : State) (idx sub : Nat) : Nat :=
  if idx = 0x6000 then
    (if sub = 3 then s.qmStatus else if sub = 6 then s.poolCount else if sub = 7 then s.freeCells else s.rd idx sub)
  else if idx = 0x6030 then (s.mover sub).status
  else if idx = 0x7003 then s.gpioIn sub
  else if idx = 0x7101 then (if sub = 1 then s.eyeletStatus else s.rd idx sub)
  else if idx = 0x7800 then (if sub = 2 then s.st.status else s.rd idx sub)
  else s.rd idx sub

/-- A numeric object as it reads. -/
def State.wordAt (s : State) (idx sub : Nat) : Nat :=
  if idx < 0x2000 then s.baseWord idx sub
  else if idx < 0x3000 then s.healthWord idx sub
  else if idx < 0x5000 then s.planeWord idx sub
  else if idx < 0x6000 then s.linkWord idx sub
  else s.queueWord idx sub

/-- The objects that are not numbers (types STR, DIGEST and BLOB of R338), where they are no numbers of `wordAt`. -/
def State.blobAt (s : State) (idx sub : Nat) : Option (List Byte) :=
  if idx = 0x1000 ∧ sub = 5 then some partNumber
  else if idx = 0x1020 then
    (if sub = 1 then some s.pub.digest else if sub = 3 then some (leBytes 8 s.pub.epoch ++ s.pub.digest)
     else if sub = 4 then some s.pub.settings else if sub = 5 then some s.pub.firmware else none)
  else if idx = 0x1021 then some (s.pub.slots.getD sub (List.replicate 256 0))
  else if idx = 0x1104 ∧ sub = 3 then some (leBytes 64 (Tab.look (fun _ => 0) s.jrn.ring (s.rd 0x1104 2)))
  else if idx = 0x1105 ∧ sub = 3 then some (leBytes 64 ((s.nv.entry (s.rd 0x1105 2)).getD 0))
  else if idx = 0x1200 then
    (if 0x10 ≤ sub ∧ sub ≤ 0x17 then some (leBytes 32 (s.sec.fuses.key (sub - 0x10)))
     else if 0x20 ≤ sub ∧ sub ≤ 0x23 then some (List.replicate 64 0)
     else if sub = 0x40 then some ((s.sec.challenge ++ List.replicate 32 0).take 32)
     else if sub = 0x42 then some s.identityPublic
     else none)
  else if 0x6010 ≤ idx ∧ idx ≤ 0x601F then some (leBytes 32 (s.queue (256 * (idx - 0x6010) + sub)).setup)
  else if 0x6020 ≤ idx ∧ idx ≤ 0x602F then some (leBytes 32 (s.queue (256 * (idx - 0x6020) + sub)).word0)
  else none

/-- The value of an object, without what reading it does. -/
def State.valueAt (s : State) (idx sub : Nat) : List Byte :=
  match s.blobAt idx sub with
  | some l => l
  | none =>
    match objFind idx sub with
    | some o => leBytes o.size (s.wordAt idx sub)
    | none => []

/-- A read of JOURNAL_ENTRY returns the entry at JOURNAL_READ_INDEX and advances it by 1 modulo 4,096 (R363, R373). -/
def State.readJournal (s : State) : List Byte × State :=
  (s.valueAt 0x1104 3, s.wr 0x1104 2 ((s.rd 0x1104 2 + 1) % 4096))

/-- A read of NV_JOURNAL_ENTRY reads the entry's group, of which an unreadable one is reported (R422), and advances
NV_JOURNAL_READ_INDEX by 1 modulo 256 (R364, R373). -/
def State.readNvJournal (s : State) : List Byte × State :=
  (s.valueAt 0x1105 3, (s.readGroup (entryPairs (s.rd 0x1105 2))).2.wr 0x1105 2 ((s.rd 0x1105 2 + 1) % 256))

/-- A read of an object: its status, its value, and what reading it does (R36, R140, R373). GPIO_IN takes a free value (log 49). -/
def State.readObject (s : State) (idx sub : Nat) : Status × List Byte × State :=
  if idx = 0x1012 ∧ sub = 3 then (.ok, s.readEvent)
  else if idx = 0x1104 ∧ sub = 3 then (.ok, s.readJournal)
  else if idx = 0x1105 ∧ sub = 3 then (.ok, s.readNvJournal)
  else if idx = 0x4310 ∧ sub = 6 then splitReadValue s
  else if idx = 0x7003 then (.ok, s.valueAt idx sub, s.drawn)
  else (.ok, s.valueAt idx sub, s)

/-- IDENTITY_PUBLIC is readable in MANUFACTURE and RETURNED only (R390). -/
def State.readLife (s : State) (idx sub : Nat) : Bool :=
  !(idx = 0x1200 && sub = 0x42) || s.lifecycle = 1 || s.lifecycle = 4

/-! Writes. -/

/-- How a write of an object is checked and what it does: its life-cycle check, its value check beyond its plain range (R13 checks 4
and 6), and its state check and effect. -/
structure WriteRule where
  life : Bool
  fits : Bool
  eff : Effect

/-- A write with no life-cycle check. -/
def ruled (fits : Bool) (eff : Effect) : WriteRule := ⟨true, fits, eff⟩

/-- A write that stores the value. -/
def stored (idx sub v : Nat) : WriteRule := ruled true (storeEffect idx sub v)

/-- A write that stores the value where it fits. -/
def storedIf (fits : Bool) (idx sub v : Nat) : WriteRule := ruled fits (storeEffect idx sub v)

/-- Bits written as 0 are cleared, bits written as 1 stay (R114, R388). -/
def clearZeros (idx sub v : Nat) : WriteRule := ruled true (fun s => (.ok, s.wr idx sub (s.rd idx sub &&& v)))

/-- The transport settings of R356. -/
def transportSetting (sub : Nat) : Bool := 4 ≤ sub && sub ≤ 7 || sub = 9

/-- A transport setting takes effect after the response to its write (R356). -/
def settingEffect (sub v : Nat) : Effect := fun s =>
  (.ok, { s with sal := { s.sal with settings := s.sal.settings ++ [(sub, v)] } })

/-- NOTICE_RULE values (R367). -/
def noticeFits (v : Nat) : Bool := bits v 27 22 < 48 && bits v 21 16 = 0 && bits v 15 8 ≤ 0x18

/-- NOTIFY_TARGET values (R368). -/
def targetFits (v : Nat) : Bool := bits v 127 80 = 0 && bits v 23 15 = 0 && v % 256 ≤ 3

/-- A value of ALERT_ACK lies ahead of ALERT_SEQ (R369). -/
def ackAhead (seq v : Nat) : Bool :=
  let d := (2 ^ 32 + v - seq) % 2 ^ 32
  1 ≤ d && d ≤ 2 ^ 31

/-- Writes at 0x1000–0x1FFF; those that program fuses have `fuseRule`. -/
def State.baseRule (s : State) (idx sub v : Nat) (bytes : List Byte) : WriteRule :=
  if idx = 0x1010 then ruled true (stateEffect v)
  else if idx = 0x1100 then ruled true (settingEffect sub v)
  else if idx = 0x1110 then storedIf (noticeFits v) idx sub v
  else if idx = 0x1111 then storedIf (targetFits v) idx sub v
  else if idx = 0x1112 then storedIf (!ackAhead (s.rd 0x1112 1) v) idx sub v
  else if idx = 0x1200 then
    (if 0x20 ≤ sub ∧ sub ≤ 0x23 then ruled (s.bsKeyFits (sub - 0x20) bytes) (bsKeyEffect (sub - 0x20) bytes)
     else clearZeros idx sub v)
  else if idx = 0x1300 then
    (if sub = 3 then ruled true (fwCommandEffect v)
     else if sub = 5 then ruled true (windowEffect bytes)
     else if sub = 8 then stored idx sub v
     else ruled true (windowSetEffect sub v))
  else stored idx sub v

/-- A setting of the throttle: stored, then the set in force follows it (R394, R401). -/
def throttleEffect (idx sub v : Nat) : Effect := fun s => (.ok, (s.wr idx sub v).applyThrottle)

/-- Values of REGULATOR_MAP (R453, R6). -/
def mapFits (v : Nat) : Bool := bits v 30 28 = 0 && !v.testBit 15 && bits v 7 1 = 0 && regulatorFits v

/-- Values of PANEL_CLOCK_ACTION (R413). -/
def actionFits (v : Nat) : Bool := bits v 6 5 = 0 && bits v 3 2 = 0 && (v % 4 = 1 || v % 4 = 2)

/-- Writes at 0x2000–0x2FFF. -/
def State.healthRule (s : State) (idx sub v : Nat) : WriteRule :=
  if idx = 0x2002 then ruled true (setpointEffect v)
  else if idx = 0x2004 then ruled true (fun t => (.ok, (t.wr idx sub v).powerSeen))
  else if idx = 0x2010 then ruled (mapFits v) (regulatorEffect sub v)
  else if idx = 0x2020 then ruled (resetFits v) (resetEffect v)
  else if idx = 0x2100 then ruled (v ≤ Config.maxFclkKhz) (fclkEffect sub v)
  else if idx = 0x2200 then
    (if sub ≤ 6 then ruled (s.pointsFit sub (s16 v)) (pointEffect sub v)
     else if sub = 7 then ruled true (guardEffect (s.dev.state ≠ .quiescing) .stateConflict (storeEffect idx sub v))
     else if sub = 8 then ruled true (throttleEffect idx sub v)
     else storedIf (10 ≤ s16 v && s16 v ≤ 60) idx sub v)
  else if idx = 0x2203 then ruled true (disagreeEffect sub v)
  else if idx = 0x2210 then ruled (sub ≠ 1 || actionFits v) (throttleEffect idx sub v)
  else stored idx sub v

/-- TSLICE_ENTRY values (R87). -/
def sliceEntryFits (v : Nat) : Bool := bits v 30 27 = 0 && v % 2 ^ 24 ≠ 0

/-- Writes at 0x3000–0x3FFF. -/
def State.controlRule (s : State) (src : Source) (seen : WriteSeen) (idx sub v : Nat) : WriteRule :=
  if idx = 0x3000 then (if sub = 1 then ruled (loaderFits v) (loaderEffect src v) else stored idx sub v)
  else if idx = 0x3100 then ruled (shuttleFits v) (rivalled sub seen.rivals (shuttleEffect sub v))
  else if idx = 0x3104 then
    ruled (v = 7 || (reqSource sub v).isSome)
      (guardEffect ((s.panel sub).pstate ≠ .running) .stateConflict (storeEffect idx sub v))
  else if idx = 0x3105 then ruled (sliceFits v) (sliceControlEffect sub v)
  else if 0x3110 ≤ idx ∧ idx ≤ 0x311F then
    ruled (sliceEntryFits v) (guardEffect (!s.sliceEnable sub) .stateConflict (storeEffect idx sub v))
  else if idx = 0x3200 then ruled true (panelClockSelEffect sub v)
  else if idx = 0x3205 then ruled true (tileMemClearEffect sub)
  else stored idx sub v

/-- Writes of the split-write objects (R139, R140). -/
def State.splitRule (s : State) (sub v : Nat) : WriteRule :=
  if sub = 1 then ⟨s.splitLife, true, splitBankEffect v⟩
  else if sub = 2 then ⟨s.splitLife, true, splitEnableEffect (v = 1)⟩
  else if sub = 3 then ⟨s.splitLife, true, storeEffect 0x4310 3 v⟩
  else if sub = 4 then ⟨s.splitLife, true, splitDataEffect v⟩
  else if sub = 5 then ⟨s.splitLife, true, splitCheckEffect v⟩
  else ⟨s.splitLife, bits v 30 26 = 0, splitFoldEffect v⟩

/-- Writes at 0x4000–0x4FFF. -/
def State.memoryRule (s : State) (idx sub v : Nat) : WriteRule :=
  if idx = 0x4001 then clearZeros idx sub v
  else if 0x4100 ≤ idx ∧ idx ≤ 0x4104 then
    ruled (bankOwnerFits (256 * (idx - 0x4100) + sub) v)
      (bankOwnerEffect (256 * (idx - 0x4100) + sub) v (s.ownerUses (256 * (idx - 0x4100) + sub)) (s.testHolds (256 * (idx - 0x4100) + sub)))
  else if idx = 0x4310 then s.splitRule sub v
  else if idx = 0x4400 ∧ sub = 2 then ruled (darnInstallFits v) (darnInstallEffect v)
  else stored idx sub v

/-- ROOT_CFG_ADDR values (R261, R6). -/
def rootAddrFits (v : Nat) : Bool := bits v 63 39 = 0 && bits v 31 28 = 0 && v % 4 = 0

/-- A setting that is writable while its port's ENABLE is 0 (R278, R305). -/
def portOffEffect (p : Nat) (eff : Effect) : Effect := fun s =>
  if (s.rd 0x5100 p).testBit 24 then (.stateConflict, s) else eff s

/-- SHIM_PANEL (R271): a panel already named by another port is refused. -/
def shimPanelEffect (p v : Nat) : Effect := fun s =>
  if v ≠ 0xFF ∧ (List.range 6).any (fun k => k ≠ p && s.rd 0x5103 k = v) then (.stateConflict, s)
  else (.ok, s.wr 0x5103 p v)

/-- The data rates DDR_SPEED_MAX takes (R227). -/
def speedFits (v : Nat) : Bool := v = 4800 || v = 5200 || v = 5600 || v = 6000 || v = 6400

/-- Writes at 0x5000–0x5FFF. -/
def State.linkRule (s : State) (src : Source) (seen : WriteSeen) (idx sub v : Nat) : WriteRule :=
  if idx = 0x5001 then ruled (laneControlFits v) (laneControlEffect sub v)
  else if idx = 0x5003 then ruled true (eyeEffect sub)
  else if idx = 0x500A then
    ruled (loopbackFits v) (loopbackEffect sub v (seen.bits % 2 ^ 64) (seen.errors % 2 ^ 64))
  else if idx = 0x5100 then ruled (portConfigFits v) (portConfigEffect sub v)
  else if idx = 0x5102 then ruled true (portResetEffect sub)
  else if idx = 0x5103 then ruled (v < 32 || v = 0xFF) (portOffEffect sub (shimPanelEffect sub v))
  else if idx = 0x5104 ∨ idx = 0x5138 then ruled true (portOffEffect sub (storeEffect idx sub v))
  else if idx = 0x5105 then storedIf (v = 2 || v = 4) idx sub v
  else if idx = 0x5110 ∨ idx = 0x5111 then
    ruled (s.beginsLink sub) (portOffEffect (portOf sub) (storeEffect idx sub v))
  else if idx = 0x5120 then
    (if sub = 1 then storedIf (rootAddrFits v) idx sub v else ruled true (rootCfgEffect src v))
  else if idx = 0x5132 then ruled (s.beginsLink sub) (laceRetrainEffect sub)
  else if idx = 0x5139 then storedIf (v = 0 || 100 ≤ v) idx sub v
  else if idx = 0x513A then storedIf (v = 0 || 10 ≤ v) idx sub v
  else if idx = 0x5200 then
    (if sub = 1 then ruled true (dirEnableEffect (v = 1))
     else if sub = 4 then ruled (dirCommandFits v) (dirCommandEffect v)
     else stored idx sub v)
  else if idx = 0x5201 then ruled (s.bankSlotFits sub v) (bankSlotEffect sub v)
  else if idx = 0x5202 then ruled true (hostMapEffect sub v)
  else if idx = 0x5203 then storedIf (bits v 31 10 = 0) idx sub v
  else if idx = 0x5205 then storedIf (s.rd 0x5204 sub ≤ v) idx sub v
  else if idx = 0x5206 then storedIf (bits v 6 3 = 0) idx sub v
  else if idx = 0x5300 then
    (if sub = 3 then storedIf (speedFits v) idx sub v
     else if sub = 5 then ruled true (if v = 1 then trainFullEffect seen.dimms else trainResumeEffect)
     else stored idx sub v)
  else stored idx sub v

/-- QM_CONTROL_BANK (R148): writable only while QM_ENABLE is FALSE. -/
def controlBankEffect (v : Nat) : Effect := fun s =>
  if s.rd 0x6000 1 = 1 then (.stateConflict, s) else (.ok, s.wr 0x6000 2 v)

/-- VECTOR_STEER values (R175). -/
def steerFits (v : Nat) : Bool := bits v 31 15 = 0 && bits v 14 12 < 6

/-- Writes at 0x6000–0x6FFF. -/
def queueRule (idx sub v : Nat) : WriteRule :=
  if idx = 0x6000 then
    (if sub = 1 then ruled true (qmEnableEffect (v = 1))
     else if sub = 2 then ruled true (controlBankEffect v)
     else if sub = 4 then ruled true (poolAddEffect v)
     else if sub = 5 then ruled true (poolRemoveEffect v)
     else ruled (queueFits v) (queueEffect (bits v 23 20) (v % 4096)))
  else if 0x6010 ≤ idx ∧ idx ≤ 0x601F then
    ruled (v % 2 ^ 170 = 0 && setupFits v) (setupEffect (256 * (idx - 0x6010) + sub) v)
  else storedIf (steerFits v) idx sub v

/-- Writes at 0x7000–0x7FFF. -/
def State.pinRule (s : State) (idx sub v : Nat) : WriteRule :=
  if idx = 0x7000 then ⟨bits v 31 30 ≠ 3 || s.eyeletsOpen, pinFits v, pinEffect sub v⟩
  else if idx = 0x7001 ∨ idx = 0x7002 then ruled true (gpioEffect idx sub v)
  else if idx = 0x7004 then ruled true (edgeEffect sub v)
  else if idx = 0x7100 then ⟨s.eyeletsOpen, eyeletFits v, eyeletEffect sub v⟩
  else if idx = 0x7800 ∧ sub = 1 then ⟨stOp v ≠ 1 || s.stLife v, true, selfTestEffect v⟩
  else stored idx sub v

/-- The rule of a write of an object, but those that program fuses. -/
def State.writeRule (s : State) (src : Source) (seen : WriteSeen) (idx sub : Nat) (bytes : List Byte) : WriteRule :=
  let v := leValue bytes
  if idx < 0x2000 then s.baseRule idx sub v bytes
  else if idx < 0x3000 then s.healthRule idx sub v
  else if idx < 0x4000 then s.controlRule src seen idx sub v
  else if idx < 0x5000 then s.memoryRule idx sub v
  else if idx < 0x6000 then s.linkRule src seen idx sub v
  else if idx < 0x7000 then queueRule idx sub v
  else s.pinRule idx sub v

/-- The T0 requester whose tier accesses the write of an object makes (R107): the queue manager 0x40, the directory 0x41, MGMT 0x43;
0 none. -/
def writeTier (idx sub : Nat) : Nat :=
  if 0x6000 ≤ idx ∧ idx < 0x6020 then 0x40
  else if idx = 0x4310 ∧ (sub = 4 ∨ sub = 5) then 0x43
  else if idx = 0x5200 ∧ (sub = 1 ∨ sub = 4) ∨ idx = 0x5202 then 0x41
  else 0

/-- The tier takes the accesses of a write now (log 146). -/
def State.writeOpen (s : State) (idx sub : Nat) : Bool :=
  match writeTier idx sub with
  | 0x40 => s.qmOpen
  | 0x41 => s.sweepOpen
  | 0x43 => s.splitOpen true
  | _ => true

/-- The tier takes the access of a read of an object now. -/
def State.readOpen (s : State) (idx sub : Nat) : Bool := idx ≠ 0x4310 || sub ≠ 6 || s.splitOpen false

/-- DICTIONARY_WRITE (R340, R359): a write of any object by a source with a reply path. -/
def execDictionaryWrite (src : Source) (idx sub ty : Nat) (value : List Byte) (seen : WriteSeen) (s : State) :
    Host.Outcome State Fault Refusal :=
  if fuseObject idx sub then .next (s.fuseWrite src sub ty value)
  else
    let r := s.writeRule src seen idx sub value
    let t := s.command src idx sub ty value (s.valueAt idx sub) r.life r.fits r.eff
    .next (s.whenOpen (s.writeOpen idx sub) (writeTier idx sub) (.dictionaryWrite src idx sub ty value seen) <|
      if idx = 0x3100 then s.besideWrite src sub ty value seen.rivals t else t)

/-- ALERT_ACK_WRITE, a write to 0x1112:02 (R369). -/
def execAlertAckWrite (src : Source) (value : Nat) (s : State) : Host.Outcome State Fault Refusal :=
  .next (s.command src 0x1112 2 4 (leBytes 4 value) (s.regBytes 0x1112 2) true
    (!ackAhead (s.rd 0x1112 1) (value % 2 ^ 32)) (storeEffect 0x1112 2 (value % 2 ^ 32)))

/-- JOURNAL_ENTRY_READ, a read of 0x1104:03 (R363, R373). -/
def execJournalEntryRead (src : Source) (s : State) : Host.Outcome State Fault Refusal :=
  .next (s.readCommand src 0x1104 3 State.readJournal)

/-- NV_JOURNAL_ENTRY_READ, a read of 0x1105:03 (R364, R373). -/
def execNvJournalEntryRead (src : Source) (s : State) : Host.Outcome State Fault Refusal :=
  .next (s.readCommand src 0x1105 3 State.readNvJournal)

end Sys2Proof.Machine
end

