-- ==== Sys2Proof/Machine/Salyn.lean ====
section
/-! DEFINITION. The Salyn engine (spec/13): messages and their checks (R344–R349), acceptance in rotation, firmware-served
requests, transports (R350–R356), the journal's internal sources (R362), and notifications (R368). -/

namespace Sys2Proof.Machine

/-! Arrival (R344, R346, R347). -/

/-- The place of a source's transport in the rotation of R347: I3C, PCIe VDM, UDP, firmware. -/
def transportOf (code : Nat) : Nat := if code = 0x10 then 4 else code

/-- The requests that a transport holds. -/
def State.heldBy (s : State) (t : Nat) : List SalynReq := Tab.look (fun _ => []) s.sal.held t

/-- Store the requests that a transport holds. -/
def State.setHeld (s : State) (t : Nat) (l : List SalynReq) : State :=
  { s with sal := { s.sal with held := Tab.put (fun _ => []) s.sal.held t l } }

/-- DISCARD_COUNT of a transport (R373). -/
def State.countDiscard (s : State) (code : Nat) : State := if 1 ≤ code ∧ code ≤ 3 then s.bump 0x1102 code 1 else s

/-- The fields of a message header (R344): VERSION, OPCODE, RESPONSE, reserved, STATUS, TAG, BODY_LENGTH. -/
def headerOf (m : List Byte) : Nat := leValue (m.take 8)

/-- A message is discarded without a response (R346). -/
def messageBad (m : List Byte) : Bool :=
  let h := headerOf m
  m.length < 8 || h % 256 ≠ 1 || bits h 63 48 + 8 ≠ m.length || h.testBit 16 && bits h 15 8 ≠ 0x10
    || !h.testBit 16 && bits h 31 24 ≠ 0

/-- The address of a notify target is a source's (R368): on I3C its EID, from the controller's dynamic address (log 55). -/
def State.targetIs (s : State) (v : Nat) (src : Source) : Bool :=
  v % 256 = src.code &&
    match src.code with
    | 0x01 => bits v 31 24 = bits src.addr 15 8 && src.addr % 128 = s.sal.controller
    | 0x02 => bits v 31 24 = bits src.addr 15 8 && bits v 14 8 = src.addr % 128
    | 0x03 => bits v 79 48 = bits src.addr 47 16 && bits v 47 32 = src.addr % 2 ^ 16
    | _ => false

/-- The target whose unacknowledged NOTIFY a response answers (R368). -/
def State.notified (s : State) (src : Source) (tag : Nat) : Option Nat :=
  [1, 2, 3, 4].find? (fun k =>
    s.targetIs (s.rd 0x1111 k) src &&
      match (s.target k).sent with
      | some x => x.1 = tag
      | none => false)

/-- A NOTIFY response (R368): it acknowledges one target's NOTIFY, or is discarded and counted. -/
def State.ackNotify (s : State) (src : Source) (tag : Nat) : State :=
  match s.notified src tag with
  | some k => s.setTarget k { s.target k with sent := none }
  | none => s.countDiscard src.code

/-- A transport holds 8 requests: it takes no other message (R347, R351, R352, R354). -/
def State.full (s : State) (src : Source) : Bool := 8 ≤ (s.heldBy (transportOf src.code)).length

/-- NOTIFY_RESPONSE (R368): a message as any other to its transport, which drops it while 8 requests are held. -/
def execNotifyResponse (src : Source) (tag : Nat) (s : State) : Host.Outcome State Fault Refusal :=
  if !s.served src then .next s
  else if s.full src then .next (s.countDiscard src.code)
  else .next (s.ackNotify src tag)

/-- A message reaches its transport (R346, R347): dropped while 8 requests are held, discarded, taken as a NOTIFY response, or
held. -/
def State.arrive (s : State) (src : Source) (mtag : Nat) (m : List Byte) : State :=
  let h := headerOf m
  if !s.served src then s
  else if s.full src || messageBad m then s.countDiscard src.code
  else if h.testBit 16 then s.ackNotify src (bits h 47 32)
  else
    s.setHeld (transportOf src.code)
      (s.heldBy (transportOf src.code) ++ [⟨src, bits h 15 8, bits h 47 32, m.drop 8, bits h 23 17 ≠ 0, mtag⟩])

/-! UDP on Ethernet (R354, R355). -/

/-- The UDP transport is served (R350). -/
def State.udpServed (s : State) : Bool := s.served ⟨3, 0⟩

/-- The UDP port of the transport (R354). -/
def salynPort : Nat := 20731

/-- A whole datagram for IPV4_ADDRESS (R354): its payload is a Salyn message where it is for the transport's port. -/
def State.datagram (s : State) (ip : Nat) (d : List Byte) : State :=
  match udpOf ip (s.rd 0x1100 5) salynPort d with
  | some x => s.arrive ⟨3, 2 ^ 16 * ip + x.1⟩ 0 x.2
  | none => s

/-- Store the datagrams in reassembly. -/
def State.setFrags (s : State) (l : List Frag) : State := { s with sal := { s.sal with frags := l } }

/-- A fragment (R355): of a datagram in reassembly, or the first to come of one of at most 4. A datagram longer than a request of
4,352 B is dropped. -/
def State.fragment (s : State) (p : IpPacket) : State :=
  let old := s.sal.frags.find? (fun f => f.ip = p.src && f.id = p.id)
  let rest := s.sal.frags.filter (fun f => !(f.ip = p.src && f.id = p.id))
  let f := old.getD ⟨p.src, p.id, [], none, s.dev.aonTime⟩
  let g := { f with
    pieces := f.pieces ++ [(p.off, p.data)], total := if p.more then f.total else some (p.off + p.data.length) }
  if 8 + 4352 < p.off + p.data.length then s.setFrags rest
  else
    match g.total.bind (fun n => joinPieces g.pieces 0 n (g.pieces.length + 1)) with
    | some d => (s.setFrags rest).datagram p.src d
    | none => if old.isNone && 4 ≤ rest.length then s else s.setFrags (rest ++ [g])

/-- An Ethernet frame (R354): an untagged IPv4 packet without options for IPV4_ADDRESS that carries UDP is taken, whole or in
fragments; others are ignored. -/
def State.frame (s : State) (f : List Byte) : State :=
  if !s.udpServed then s
  else
    match ipOfFrame (Config.macAddress % 2 ^ 48) f with
    | some p =>
      if p.dst ≠ s.rd 0x1100 5 ∨ p.proto ≠ 17 then s
      else if p.off = 0 ∧ !p.more then s.datagram p.src p.data
      else s.fragment p
    | none => s

/-- UDP_REASSEMBLY_TIMEOUT (R355): the datagrams that have been in reassembly for 1 s are discarded and counted. -/
def execUdpReassemblyTimeout (s : State) : Host.Outcome State Fault Refusal :=
  let late := s.sal.frags.filter (fun f => f.began + 1000000 ≤ s.dev.aonTime)
  .next (late.foldl (fun (t : State) _ => t.countDiscard 3)
    (s.setFrags (s.sal.frags.filter (fun f => s.dev.aonTime < f.began + 1000000))))

/-- ARP_REQUEST (R354). -/
def execArpRequest (ip : Nat) (s : State) : Host.Outcome State Fault Refusal :=
  if s.udpServed && ip = s.rd 0x1100 5 then .next (s.emit (.net 1 ip)) else .next s

/-- ICMP_ECHO (R354). -/
def execIcmpEcho (ip : Nat) (s : State) : Host.Outcome State Fault Refusal :=
  if s.udpServed && ip = s.rd 0x1100 5 then .next (s.emit (.net 2 ip)) else .next s

/-- DYNAMIC_ADDRESS_ASSIGN (R352): SETDASA or ENTDAA, by the active controller, of the given address. -/
def execDynamicAddressAssign (addr controller : Nat) (s : State) : Host.Outcome State Fault Refusal :=
  if s.served ⟨1, 0⟩ then
    let s1 := s.wr 0x1100 2 (addr % 128)
    .next { s1 with sal := { s1.sal with controller := controller % 128 } }
  else .next s

/-! MCTP (R295, R351, R353). The packet and control formats are those of DSP0236 and DSP0238 (log 59). -/

/-- Set the endpoint ID on a medium; the one on I3C is MCTP_EID (R373). -/
def State.setEid (s : State) (medium v : Nat) : State :=
  let s1 := { s with sal := { s.sal with eids := Tab.put (fun _ => 0) s.sal.eids medium v } }
  if medium = 1 then s1.wr 0x1100 3 v else s1

/-- The answer to a control command: completion code, data and the state (R351). The UUID is the part's (log 59). -/
def State.mctpControl (s : State) (medium cmd : Nat) (data : List Byte) : Nat × List Byte × State :=
  match cmd with
  | 1 =>
    let v := leValue (slice data 1 1)
    if data.length ≠ 2 then (3, [], s)
    else if v = 0 ∨ v = 0xFF then (2, [], s)
    else (0, leBytes 1 0 ++ leBytes 1 v ++ leBytes 1 0, s.setEid medium v)
  | 2 => (0, leBytes 1 (s.eid medium) ++ leBytes 1 0 ++ leBytes 1 0, s)
  | 3 => (0, leBytes 16 Config.endpointUuid, s)
  | 4 => (0, [0x01, 0xF1, 0xF3, 0xFF, 0x00], s)
  | 5 => (0, [0x04, 0x00, 0x05, 0x06, 0x7E], s)
  | 6 => (0, [0xFF, 0x00, 0x1F, 0x2C, 0x00, 0x53], s)
  | _ => (5, [], s)

/-- A control command is answered on its medium, to the source it came from (R351, R353): instance ID, command, completion code,
data. -/
def State.mctpAnswer (s : State) (src : Source) (mtag inst cmd : Nat) (data : List Byte) : State :=
  let r := s.mctpControl (mediumOf src) cmd data
  r.2.2.sendMctp src mtag ([0x00] ++ leBytes 1 (inst % 32) ++ leBytes 1 cmd ++ leBytes 1 r.1 ++ r.2.1)

/-- MCTP_CONTROL_COMMAND (R351), from an I3C or PCIe VDM source; a packet as any other, dropped while 8 requests are held. -/
def execMctpControlCommand (src : Source) (cmd : Nat) (data : List Byte) (s : State) : Host.Outcome State Fault Refusal :=
  if (src.code = 1 ∨ src.code = 2) ∧ s.served src then
    (if s.full src then .next (s.countDiscard src.code) else .next (s.mctpAnswer src 0 0 cmd data))
  else .next s

/-- A whole MCTP message (R351): Salyn, control, or SPDM, plain or in a secured message, which goes to the security engine; others are
dropped. What a secured message carries is the engine's to open (log 30). -/
def State.mctpMessage (s : State) (src : Source) (mtag : Nat) (m : List Byte) : State :=
  match leValue (m.take 1) with
  | 0x7E => if beValue (slice m 1 2) = 0x1F2C ∧ leValue (slice m 3 1) = 0x53 then s.arrive src mtag (m.drop 4) else s
  | 0x00 =>
    let h := leValue (slice m 1 1)
    if h.testBit 7 then s.mctpAnswer src mtag h (leValue (slice m 2 1)) (m.drop 3) else s
  | 0x05 => s.spdmTake src (leValue (slice m 2 1))
  | 0x06 => s.spdmTake src (leValue (slice (Config.openSecured (m.drop 1)) 2 1))
  | _ => s

/-- The reassembly a packet belongs to. -/
def State.partOf (s : State) (medium : Nat) (p : Packet) : Option Part :=
  s.sal.parts.find? (fun x => x.medium = medium && x.eid = p.eid && x.tag = p.tag)

/-- A reassembly ends. -/
def State.dropPart (s : State) (x : Part) : State := { s with sal := { s.sal with parts := s.sal.parts.filter (fun y => y ≠ x) } }

/-- A packet of a message: the first begins a reassembly, of which a medium has up to 4; a later one continues it in sequence; the last
ends it and the message is taken (R351). -/
def State.assemble (s : State) (src : Source) (p : Packet) : State :=
  let md := mediumOf src
  let old := s.partOf md p
  let s1 := match old with
    | some x => s.dropPart x
    | none => s
  let go := fun (l : List Byte) =>
    if p.eom then s1.mctpMessage src (p.tag % 8) l
    else { s1 with sal := { s1.sal with parts := s1.sal.parts ++ [⟨md, p.eid, p.tag, (p.seq + 1) % 4, l⟩] } }
  if p.som then
    (if !p.eom && 4 ≤ (s1.sal.parts.filter (fun x => x.medium = md)).length then s1 else go p.payload)
  else
    match old with
    | some x => if x.next = p.seq then go (x.bytes ++ p.payload) else s1
    | none => s

/-- A packet that the device takes (R351): of header version 1, for its endpoint ID or the null EID, with one transmission unit of 64 B
or, as the last, up to that. -/
def State.takesPacket (s : State) (md : Nat) (p : Packet) : Bool :=
  p.version = 1 && (p.dest = 0 || p.dest = s.eid md) && 1 ≤ p.payload.length && p.payload.length ≤ 64
    && (p.eom || p.payload.length = 64)

/-- A packet on a medium (R351–R353): while 8 requests are held it is dropped, on I3C by a NACK of its private write, which is counted
once for each request that loses a packet. -/
def State.packetIn (s : State) (src : Source) (p : Packet) : State :=
  if !s.served src || !s.takesPacket (mediumOf src) p then s
  else if s.full src then
    match s.partOf (mediumOf src) p with
    | some x => (s.dropPart x).countDiscard src.code
    | none => if p.som then s.countDiscard src.code else s
  else s.assemble src p

/-- A packet on a link (R353), from a requester. -/
def State.vdmPacket (s : State) (link requester : Nat) (l : List Byte) : State :=
  s.packetIn ⟨2, 2 ^ 16 * (requester % 2 ^ 16) + 2 ^ 8 * (packetOf l).eid + link⟩ (packetOf l)

/-- A packet on I3C (R352): a private write by a controller, whose dynamic address the source gives. -/
def State.i3cPacket (s : State) (src : Source) (l : List Byte) : State :=
  s.packetIn ⟨1, 2 ^ 8 * (packetOf l).eid + src.addr % 128⟩ (packetOf l)

/-- SALYN_MESSAGE_ARRIVAL (R347): what arrives is, on I3C, an MCTP packet (R352); on UDP, an Ethernet frame (R354); from any other
source, a whole message. -/
def execSalynMessageArrival (src : Source) (message : List Byte) (s : State) : Host.Outcome State Fault Refusal :=
  match src.code with
  | 0x01 => .next (s.i3cPacket src message)
  | 0x03 => .next (s.frame message)
  | _ => .next (s.arrive src 0 message)

/-! Acceptance (R347, R349). -/

/-- A transport has a request that may be accepted: its first is from a source that is served (R350). -/
def State.offers (s : State) (t : Nat) : Bool :=
  match s.heldBy t with
  | r :: _ => s.served r.src
  | [] => false

/-- The transport whose turn it is: the first in rotation that offers a request (R347). -/
def State.turnOf (s : State) : Option Nat :=
  ([0, 1, 2, 3].map (fun i => (s.sal.turn + 3 + i) % 4 + 1)).find? s.offers

/-- The opcodes that the device serves (R345). -/
def servedOp (op : Nat) : Bool := op = 1 || op = 2 || op = 3 || op = 4

/-- The request that a row for an opcode accepts from a transport: the transport's first, where it is the transport's turn and the
journal can take an entry (R347, R362, R363). A request with an opcode that is not served is taken by any of the rows. -/
def State.nextRequest (s : State) (t op : Nat) : Option SalynReq :=
  if s.journalOpen && s.turnOf = some t then
    match s.heldBy t with
    | r :: _ => if r.op = op ∨ !servedOp r.op then some r else none
    | [] => none
  else none

/-- The request leaves its transport and the rotation moves on (R347); it counts as accepted (R373). -/
def State.takenIn (s : State) (t : Nat) (r : SalynReq) : State :=
  let s1 := s.setHeld t ((s.heldBy t).drop 1)
  State.countRequest { s1 with sal := { s1.sal with turn := t % 4 + 1 } } r.src

/-- An open request as it is accepted now. -/
def State.newOpen (s : State) (r : SalynReq) (idx sub : Nat) (fw : Bool) : OpenReq :=
  ⟨r, idx, sub, fw, false, s.dev.aonTime, none, .ok, false, false⟩

/-- A request is answered as it is accepted. -/
def State.replyNow (s : State) (r : SalynReq) (idx sub status : Nat) (body : List Byte) : State :=
  (s.openReq (s.newOpen r idx sub false)).reply (s.newOpen r idx sub false) status body

/-- A request repeats one of its source's last 16 within 1 s (R349): the stored response, or none where that one is still open. -/
def State.repeatOf (s : State) (r : SalynReq) : Option (Option (List Byte)) :=
  if 3 < r.src.code then none
  else
    (s.sal.done.find? (fun a =>
      sameSource a.src r.src && a.tag = r.tag && a.op = r.op && a.digest = sha256 r.body && s.dev.aonTime < 1000000 + a.time)).map
        Answered.reply

/-- A request is kept for repeats as it is accepted, for the sources that R349 names. -/
def State.remember (s : State) (r : SalynReq) : State :=
  if 3 < r.src.code then s
  else
    { s with sal := { s.sal with
        done := keepAnswered s.sal.done ⟨r.src, r.tag, r.op, sha256 r.body, none, s.dev.aonTime⟩ } }

/-- An accepted request: a repeat is answered with the stored response and not performed again (R349); an opcode that is not served
answers VALUE_RANGE and is not journalled (R345, R346); any other is served. -/
def State.accept (s : State) (t op : Nat) (serve : SalynReq → State → State) : State :=
  match s.nextRequest t op with
  | none => s
  | some r =>
    let s1 := s.takenIn t r
    match s1.repeatOf r with
    | some ready =>
      (s1.openReq ⟨r, 0, 0, false, true, s.dev.aonTime, ready.map (Out.message r.src), .ok, false, false⟩).sendReplies
    | none =>
      let s2 := s1.remember r
      if servedOp r.op then serve r s2 else s2.replyNow r 0 0 Status.valueRange.code []

/-- INDEX of a request's body, 0 as far as the body does not hold it. -/
def SalynReq.idx (r : SalynReq) : Nat := leValue (r.body.take 2)

/-- SUB of a request's body. -/
def SalynReq.sub (r : SalynReq) : Nat := leValue (slice r.body 2 1)

/-- Firmware serves the object for this request. -/
def byFirmware (r : SalynReq) (write : Bool) : Bool := firmwareServes r.src r.idx r.sub write

/-- The body of a READ response (R345). -/
def readBody (idx sub : Nat) (value : List Byte) : List Byte :=
  leBytes 1 (match objFind idx sub with
    | some o => o.ty.code
    | none => 0) ++ [0] ++ leBytes 2 value.length ++ value

/-- The status of a message with 4 bytes of fixed fields (R13, R346): the object's own checks, then its length, then the reserved
bits; a body that does not name its object answers LENGTH_MISMATCH (log 56). -/
def fixedStatus (r : SalynReq) (own : Status) (reserved : List Byte) : Status :=
  if r.body.length < 3 then .lengthMismatch
  else
    match own with
    | .ok =>
      if r.body.length ≠ 4 then .lengthMismatch
      else if r.badHead || reserved.any (fun b => b ≠ 0) then .valueRange
      else .ok
    | st => st

/-- A read is performed for a request in hand: answered at once, or left open until the completion of its configuration request comes
(R261). -/
def State.performRead (s : State) (o : OpenReq) : State :=
  if o.idx = 0x5120 ∧ o.sub = 2 then
    (if s.rootReady then s.rootRequest o.req.src false 0 else s.reply o Status.stateConflict.code [])
  else
    let r := s.readObject o.idx o.sub
    match r.1 with
    | .ok => r.2.2.reply o 0 (readBody o.idx o.sub r.2.1)
    | st => r.2.2.reply o st.code []

/-- A READ (R345). -/
def serveRead (r : SalynReq) (s : State) : State :=
  match fixedStatus r (s.readStatus r.idx r.sub (s.readLife r.idx r.sub)) (r.body.drop 3) with
  | .ok =>
    if byFirmware r false then
      (if s.sec.dead then s.replyNow r r.idx r.sub Status.internal.code []
       else s.openReq (s.newOpen r r.idx r.sub true))
    else
      let o := s.newOpen r r.idx r.sub false
      (s.openReq o).performRead o
  | st => s.replyNow r r.idx r.sub st.code []

/-- A READ is performed when the tier takes its access, else its row is held (log 146). -/
def State.readHeld (s : State) (r : Option (Nat × Nat)) (c : Instr) (t : State) : State :=
  match r with
  | some k => s.whenOpen (s.readOpen k.1 k.2) (if k = (0x4310, 6) then 0x43 else 0) c t
  | none => t

/-- SALYN_READ (R345). -/
def execSalynRead (transport : Nat) (s : State) : Host.Outcome State Fault Refusal :=
  .next (s.readHeld ((s.nextRequest transport 1).map (fun r => (r.idx, r.sub))) (.salynRead transport)
    (s.accept transport 1 serveRead))

/-- FLAGS of a DESCRIBE response (R345): BOOT, FIRMWARE, COVERED. Reads of the objects at 0x1200 are boot objects, so they carry
BOOT (log 57). -/
def describeFlags (idx sub : Nat) : Nat :=
  flag (bootObject idx sub false) + 2 * flag (Config.firmwareServed idx && !bootObject idx sub false) + 4 * flag (covered idx sub)

/-- Whether an object exists (R337). -/
def existsStatus (idx sub : Nat) : Status :=
  match objFind idx sub with
  | some _ => .ok
  | none => if objIndexed idx then .noSubindex else .noObject

/-- The body of a DESCRIBE response (R345). -/
def describeBody (idx sub : Nat) : List Byte :=
  match objFind idx sub with
  | some o => leBytes 1 o.ty.code ++ leBytes 1 o.acc.code ++ leBytes 2 o.size ++ leBytes 2 (describeFlags idx sub) ++ [0, 0]
  | none => []

/-- A DESCRIBE: answered for every defined object, whether or not firmware runs (R345). -/
def serveDescribe (r : SalynReq) (s : State) : State :=
  match fixedStatus r (existsStatus r.idx r.sub) (r.body.drop 3) with
  | .ok => s.replyNow r r.idx r.sub 0 (describeBody r.idx r.sub)
  | st => s.replyNow r r.idx r.sub st.code []

/-- SALYN_DESCRIBE (R345). -/
def execSalynDescribe (transport : Nat) (s : State) : Host.Outcome State Fault Refusal :=
  .next (s.accept transport 3 serveDescribe)

/-- The 32 B of an ENUMERATE response: bit s set when subindex s exists (R345). -/
def enumerateBody (idx : Nat) : List Byte :=
  leBytes 32 ((List.range 256).foldl (fun n k => n + flag (objFind idx k).isSome * 2 ^ k) 0)

/-- The status of an ENUMERATE (R345, R346). -/
def enumerateStatus (r : SalynReq) : Status :=
  if r.body.length < 2 then .lengthMismatch
  else if !objIndexed r.idx then .noObject
  else if r.body.length ≠ 4 then .lengthMismatch
  else if r.badHead || (r.body.drop 2).any (fun b => b ≠ 0) then .valueRange
  else .ok

/-- An ENUMERATE (R345). -/
def serveEnumerate (r : SalynReq) (s : State) : State :=
  match enumerateStatus r with
  | .ok => s.replyNow r r.idx 0 0 (enumerateBody r.idx)
  | st => s.replyNow r r.idx 0 st.code []

/-- SALYN_ENUMERATE (R345). -/
def execSalynEnumerate (transport : Nat) (s : State) : Host.Outcome State Fault Refusal :=
  .next (s.accept transport 4 serveEnumerate)

/-! Writes (R340, R345, R346, R359). -/

/-- TYPE of a WRITE's body. -/
def SalynReq.ty (r : SalynReq) : Nat := leValue (slice r.body 3 1)

/-- The value of a WRITE's body. -/
def SalynReq.value (r : SalynReq) : List Byte := r.body.drop 8

/-- A WRITE body shorter than its fixed fields, or whose length differs from 8 + LENGTH (R346). -/
def SalynReq.lengthBad (r : SalynReq) : Bool := r.body.length ≠ 8 + leValue (slice r.body 4 2)

/-- A reserved bit of the message is set (R6, R346). -/
def SalynReq.reservedSet (r : SalynReq) : Bool := r.badHead || (slice r.body 6 2).any (fun b => b ≠ 0)

/-- The status of a WRITE from the checks of its object and of its message, in the order of R13 (log 56). -/
def writeStatusOf (r : SalynReq) (own : Status) : Status :=
  if r.body.length < 3 then .lengthMismatch
  else
    match own with
    | .noObject | .noSubindex | .awaitingFirmware | .readOnly | .lifecycleDenied => own
    | _ =>
      if r.lengthBad then .lengthMismatch
      else
        match own with
        | .typeMismatch | .lengthMismatch | .lengthExceeds => own
        | _ => if r.reservedSet then .valueRange else own

/-- The entry of a WRITE (R359, R360); an object that a short body does not name is 0:0 (R346). -/
def State.writeEntry (s : State) (r : SalynReq) (st : Status) : JRec :=
  ⟨r.idx, r.sub, st.code, r.src, r.ty, if noOld r.idx r.sub st then none else some (s.valueAt r.idx r.sub), r.value⟩

/-- A WRITE has reached its status (R359): the entry with the value before it, then the response. -/
def State.endWrite (s s1 : State) (o : OpenReq) (st : Status) : State :=
  (s1.journalWrite (s.writeEntry o.req st) false).reply o st.code []

/-- The status of a WRITE that programs fuses, and the write begun where it is accepted: it is answered when it ends (R376), with
INTERNAL at once after an error in the security engine's SRAM (R141). -/
def State.serveFuse (s : State) (r : SalynReq) : State :=
  let f := s.fuseRule r.sub r.value
  match writeStatusOf r (s.fuseStatusOf f r.sub r.ty r.value) with
  | .ok =>
    if s.sramMarked 5 then
      ((s.sramTaken 5).journalWrite (f.entry r.src r.sub r.ty r.value .internal) false).replyNow r r.idx r.sub
        Status.internal.code []
    else (s.beginFuse f r.src r.sub r.ty r.value).openReq (s.newOpen r r.idx r.sub false)
  | st => (s.journalWrite (f.entry r.src r.sub r.ty r.value st) false).replyNow r r.idx r.sub st.code []

/-- A WRITE (R340): checked; applied or refused, journalled and answered at once, or left to firmware, which a watchdog expiry has
ended (R358). One that is refused waits, as an accepted one does, while firmware has not replied to an earlier write of the object
(R359). -/
def serveWrite (seen : WriteSeen) (r : SalynReq) (s : State) : State :=
  if fuseObject r.idx r.sub then s.serveFuse r
  else
    let w := s.writeRule r.src seen r.idx r.sub r.value
    let x := s.tryWrite r.idx r.sub r.ty r.value w.life w.fits w.eff
    let own := s.writeStatus r.idx r.sub r.ty r.value w.life w.fits
    let fw := byFirmware r true
    let st := s.verdict fw (writeStatusOf r x.1)
    let o := { s.newOpen r r.idx r.sub false with verdict := st }
    let base := if writeStatusOf r own = .ok ∧ st = x.1 ∧ st ≠ .ok then x.2 else s
    if fw && (st = .ok || s.firmwareBusy r.idx r.sub) then base.openReq { o with toFirmware := true }
    else if st = .ok then s.endWrite (x.2.openReq o) o .ok
    else
      let t := s.endWrite (base.openReq o) o st
      if r.idx = 0x3100 && writeStatusOf r own ≠ .ok then t.arbitrate r.sub seen.rivals else t

/-- A firmware-served or hardware-served WRITE is performed when the tier takes its accesses, else its row is held (log 146). -/
def State.writeHeld (s : State) (r : Option (Nat × Nat)) (c : Instr) (t : State) : State :=
  match r with
  | some k => s.whenOpen (s.writeOpen k.1 k.2) (writeTier k.1 k.2) c t
  | none => t

/-- SALYN_WRITE (R340, R345). -/
def execSalynWrite (transport : Nat) (seen : WriteSeen) (s : State) : Host.Outcome State Fault Refusal :=
  .next (s.writeHeld ((s.nextRequest transport 2).map (fun r => (r.idx, r.sub))) (.salynWrite transport seen)
    (s.accept transport 2 (serveWrite seen)))

/-! Firmware-served requests (R348, R358, R359). -/

/-- The oldest request of an object that firmware has not answered (R359). -/
def State.oldestAt (s : State) (idx sub : Nat) : Option OpenReq :=
  s.sal.accepted.find? (fun e => e.toFirmware && e.reply.isNone && e.idx = idx && e.sub = sub)

/-- The first entry of a list that is `a` becomes `b`. -/
def replaceFirst (a b : OpenReq) : List OpenReq → List OpenReq
  | [] => []
  | e :: t => if e = a then b :: t else e :: replaceFirst a b t

/-- The request is no longer firmware's. -/
def State.takeBack (s : State) (o : OpenReq) : State :=
  { s with sal := { s.sal with accepted := replaceFirst o { o with toFirmware := false } s.sal.accepted } }

/-- A SHUTTLE_REQUEST that was accepted has its effect on the panel as it now is (R14, R80). -/
def State.shuttleAccepted (s : State) (p v : Nat) : State :=
  let x := s.panel p
  let slot := v % 8
  match bits v 7 4 with
  | 1 => if x.pstate = .running ∧ x.slot slot ≠ .active then s.takeSwitch p slot (v.testBit 3) false else s
  | 2 => if x.slot slot = .valid ∧ x.switch.isNone then s.setPanel p (x.startStage slot .plain) else s
  | 3 => if x.slot slot = .staged ∧ x.switch.isNone then s.setPanel p (x.setSlot slot .valid) else s
  | 4 => (selectEffect p slot s).2
  | 5 => if x.pstate = .held then s.releasePanel p (v.testBit 3) else s
  | 6 => s.parkPanel p
  | 7 =>
    if x.slot slot = .valid ∨ x.slot slot = .staged then
      ((s.cancelSwitchTo p slot).setPanel p (((s.cancelSwitchTo p slot).panel p).dropStage slot).dropActivation).invalidateSlot p slot
    else s
  | _ => s

/-- A queue command that was accepted has its effect on the queue as it now is (R14, R154). -/
def State.queueAccepted (s : State) (op q : Nat) : State :=
  let x := s.queue q
  match op with
  | 1 => s.storeSetup q { x with setup := setBit x.setup 255 true }
  | 3 => s.flushQueue q
  | _ => s

/-- An accepted write whose check no longer passes has its effect as it was accepted (R14): a command acts on its target as that now
is, as far as the target has what the command acts on (log 58); any other write stores its value. -/
def State.asAccepted (s : State) (idx sub v : Nat) : State :=
  if idx = 0x3100 then s.shuttleAccepted sub v
  else if 0x4100 ≤ idx ∧ idx ≤ 0x4104 then
    let b := 256 * (idx - 0x4100) + sub
    s.setBank b { s.bank b with handover := true, newOwner := v % 256, wipe := v.testBit 8 }
  else if idx = 0x6000 ∧ sub = 4 then
    match ((List.range 255).map (· + 1)).find? (fun k => !(s.slot k).valid) with
    | some k => if (s.slotOf v).isSome then s else s.setSlot k ⟨true, false, v⟩
    | none => s
  else if idx = 0x6000 ∧ sub = 5 then
    match s.slotOf v with
    | some k => if k = 0 then s else (s.setSlot k { s.slot k with draining := true }).drainSlot k
    | none => s
  else if idx = 0x6000 ∧ sub = 0x0B then s.queueAccepted (bits v 23 20) (v % 4096)
  else if 0x6010 ≤ idx ∧ idx ≤ 0x601F then
    let q := 256 * (idx - 0x6010) + sub
    s.storeSetup q { s.queue q with setup := 2 ^ 170 * (v / 2 ^ 170) % 2 ^ 255 + 2 ^ 255 * flag (s.queue q).enabled }
  else s.wr idx sub v

/-- A firmware-served write reaches its status (R348, R359): one that was refused at acceptance has that status; an accepted one is
performed by firmware as accepted (R14; log 58). -/
def State.firmwareWrites (s : State) (seen : WriteSeen) (o : OpenReq) : State :=
  match o.verdict with
  | .ok =>
    let w := s.writeRule o.req.src seen o.idx o.sub o.req.value
    let x := s.tryWrite o.idx o.sub o.req.ty o.req.value w.life w.fits w.eff
    match x.1 with
    | .ok => s.endWrite x.2 o .ok
    | _ => s.endWrite (s.asAccepted o.idx o.sub (leValue o.req.value)) o .ok
  | st => s.endWrite s o st

/-- Refused writes of an object that waited for an earlier one have their entries and answers (R359). -/
def State.settleRefused (s : State) (idx sub : Nat) : Nat → State
  | 0 => s
  | n + 1 =>
    match s.oldestAt idx sub with
    | some e =>
      if e.req.op = 2 && e.verdict ≠ .ok && s.journalOpen then
        ((s.takeBack e).endWrite (s.takeBack e) { e with toFirmware := false } e.verdict).settleRefused idx sub n
      else s
    | none => s

/-- A write's entry waits while the journal's SEQ reserve is used up (R363), so its status is taken then. -/
def State.mayAnswer (s : State) (o : OpenReq) : Bool := o.req.op = 1 || s.journalOpen

/-- FIRMWARE_REPLY (R348): firmware replies to the oldest open request of an object. -/
def execFirmwareReply (idx sub : Nat) (seen : WriteSeen) (s : State) : Host.Outcome State Fault Refusal :=
  match s.oldestAt idx sub with
  | some e =>
    if s.fwRuns && !s.sec.dead && s.mayAnswer e then
      let o := { e with toFirmware := false }
      let s1 := s.takeBack e
      .next (if e.req.op = 1 then s.readHeld (some (idx, sub)) (.firmwareReply idx sub seen) (s1.performRead o)
        else s.writeHeld (some (idx, sub)) (.firmwareReply idx sub seen)
          ((s1.firmwareWrites seen o).settleRefused idx sub s.sal.accepted.length))
    else .next s
  | none => .next s

/-- FIRMWARE_TIMEOUT (R348): INTERNAL, not applied, and one event with the transport code. -/
def execFirmwareTimeout (idx sub : Nat) (s : State) : Host.Outcome State Fault Refusal :=
  match s.oldestAt idx sub with
  | some e =>
    if s.fwRuns && s.mayAnswer e then
      let o := { e with toFirmware := false }
      let s1 := (s.takeBack e).event 0x10 0x01 (256 * e.req.src.code)
      .next (if e.req.op = 1 then s1.reply o Status.internal.code []
        else (s1.endWrite s1 o .internal).settleRefused idx sub s.sal.accepted.length)
    else .next s
  | none => .next s

/-- TRANSPORT_SETTING_APPLY (R356): the oldest written setting takes effect once no response to a write of it waits on a transport
that is served. -/
def execTransportSettingApply (s : State) : Host.Outcome State Fault Refusal :=
  match s.sal.settings with
  | (sub, v) :: t =>
    if s.sal.accepted.any (fun e => e.req.op = 2 && e.idx = 0x1100 && e.sub = sub && s.served e.req.src) then .next s
    else .next (State.wr { s with sal := { s.sal with settings := t } } 0x1100 sub v)
  | [] => .next s

/-! The journal's internal sources (R362). -/

/-- JOURNAL_ENTRY_ACCEPT (R362): the journal takes the oldest entry that a source holds; the first one after a run of losses carries
LOSS_BEFORE. -/
def execJournalEntryAccept (source : Nat) (s : State) : Host.Outcome State Fault Refusal :=
  match (s.jhold source).recs with
  | r :: t =>
    if s.mgmtRuns && s.journalOpen then
      .next ((s.setJhold source ⟨t, false⟩).journalWrite r (s.jhold source).lossBefore)
    else .next s
  | [] => .next s

/-! Notifications (R368). -/

/-- A source of a notify target's transport and link, for the check of R350. -/
def targetSource (v : Nat) : Source := ⟨v % 256, bits v 14 8⟩

/-- A NOTIFY body (R368): the full AON time, LOST, COUNT, reserved, the records. -/
def State.notifyBody (s : State) (x : Target) (recs : List Nat) : List Byte :=
  leBytes 8 s.dev.aonTime ++ leBytes 2 (satAdd 0xFFFF 0 x.lost) ++ leBytes 1 recs.length ++ List.replicate 5 0
    ++ recs.flatMap (leBytes 8)

/-- 16 records are pending, or the oldest has been for 1 ms (R368). -/
def State.notifyDue (s : State) (x : Target) : Bool :=
  16 ≤ x.records.length ||
    match x.records with
    | r :: _ => 1000 + r.2 ≤ s.dev.aonTime
    | [] => false

/-- NOTIFY_SEND (R368): up to 16 of the oldest pending records go to a target whose transport is served and that has acknowledged
its last NOTIFY. -/
def execNotifySend (target : Nat) (s : State) : Host.Outcome State Fault Refusal :=
  let x := s.target target
  if 1 ≤ target && target ≤ 4 && x.sent.isNone && s.notifyDue x && s.served (targetSource (s.rd 0x1111 target)) then
    let b := s.notifyBody x ((x.records.take 16).map (·.1))
    .next ((s.setTarget target ⟨x.records.drop 16, 0, (x.tag + 1) % 2 ^ 16, some (x.tag, b, 0)⟩).emit (.notify target x.tag b))
  else .next s

/-- NOTIFY_RESEND (R368): sent again with the same TAG, up to 3 times; a resend waits while its transport is not served. After the
third, the records are dropped and counted, with one NOTIFY_DROPPED event. -/
def execNotifyResend (target : Nat) (s : State) : Host.Outcome State Fault Refusal :=
  let x := s.target target
  match x.sent with
  | some (tag, b, n) =>
    if 3 ≤ n then
      .next (((s.setTarget target { x with sent := none }).bump 0x1112 3 ((b.length - 16) / 8)).event 0x10 0x03 target)
    else if s.served (targetSource (s.rd 0x1111 target)) then
      .next ((s.setTarget target { x with sent := some (tag, b, n + 1) }).emit (.notify target tag b))
    else .next s
  | none => .next s

/-- MCTP_VDM_RECEIVE (R353): a packet on a PCIe or CXL link, routed to the root complex (0), by ID (2) or as a broadcast from the root
complex (3). -/
def execMctpVdmReceive (link dpid requester routing : Nat) (packet : List Byte) (s : State) : Host.Outcome State Fault Refusal :=
  if !s.isLace link && s.linkActive link && (routing = 0 || routing = 2 || routing = 3) then
    .next (s.routed link dpid (s.vdmPacket link requester packet))
  else .next s

/-- A held flit of a Lace link is performed (R294, R295): an MCTP packet as by the PCIe VDM transport, from the link's partner. -/
def State.performHeld (s : State) (l : Nat) (f : List Byte) : State :=
  if fTy (flitHead f) = 7 then (s.vdmPacket l (s.rd 0x5110 l) (slice f 8 (fLen (flitHead f)))).freeBuffer l 0
  else s.performFlit l f

/-- The flits that a link holds are performed in order, as far as they have not to wait (R294): at most `n`. -/
def State.releaseRequests (s : State) (l : Nat) : Nat → State
  | 0 => s
  | n + 1 =>
    match s.nextHeld l with
    | some f => ((s.takeHeld l f).performHeld l f).releaseRequests l n
    | none => s

/-- Every link's held flits. -/
def State.releaseLinks (s : State) : State :=
  (s.links.map (fun x => x.1)).foldl (fun (t : State) l => t.releaseRequests l 64) s

/-- LACE_MCTP (R295): the flit is accepted as any other, and its packet is handled in its turn (R294). -/
def execLaceMctp (link : Nat) (flit : List Byte) (s : State) : Host.Outcome State Fault Refusal :=
  if fTy (flitHead flit) = 7 then .next ((s.receiveFlit link flit).releaseRequests link 64) else .next s

end Sys2Proof.Machine
end

