-- ==== Sys2Proof/Machine/Dispatch.lean ====
section
/-! DEFINITION. One arm per command: each calls that command's own meaning. -/

namespace Sys2Proof.Machine

def exec (i : Instr) (s : State) : Host.Outcome State Fault Refusal :=
  match i with
  | .stateCommandEnable src => Sys2Proof.Machine.execStateCommandEnable src s
  | .stateCommandStop src => Sys2Proof.Machine.execStateCommandStop src s
  | .stateCommandClear src => Sys2Proof.Machine.execStateCommandClear src s
  | .stopMoversIdle => Sys2Proof.Machine.execStopMoversIdle s
  | .ddrSelfRefreshDone => Sys2Proof.Machine.execDdrSelfRefreshDone s
  | .stopNvIdle => Sys2Proof.Machine.execStopNvIdle s
  | .stopStep3Forced => Sys2Proof.Machine.execStopStep3Forced s
  | .stopWindowExpired => Sys2Proof.Machine.execStopWindowExpired s
  | .thermtrip => Sys2Proof.Machine.execThermtrip s
  | .vccBaseLoss => Sys2Proof.Machine.execVccBaseLoss s
  | .porAssert => Sys2Proof.Machine.execPorAssert s
  | .porRelease straps => Sys2Proof.Machine.execPorRelease straps s
  | .bootEntry => Sys2Proof.Machine.execBootEntry s
  | .bootRomDone res => Sys2Proof.Machine.execBootRomDone res s
  | .eventRecordAccept source => Sys2Proof.Machine.execEventRecordAccept source s
  | .timeMark => Sys2Proof.Machine.execTimeMark s
  | .eventRecordRead src => Sys2Proof.Machine.execEventRecordRead src s
  | .digestPublication => Sys2Proof.Machine.execDigestPublication s
  | .tileMemClear src panel value => Sys2Proof.Machine.execTileMemClear src panel value s
  | .tileMemClearDone panel => Sys2Proof.Machine.execTileMemClearDone panel s
  | .panelClockSelWrite src panel sel => Sys2Proof.Machine.execPanelClockSelWrite src panel sel s
  | .userEvent panel code => Sys2Proof.Machine.execUserEvent panel code s
  | .panelResetEnd panel => Sys2Proof.Machine.execPanelResetEnd panel s
  | .shuttleSwitch src panel slot fresh rivals => Sys2Proof.Machine.execShuttleSwitch src panel slot fresh rivals s
  | .shuttleStage src panel slot rivals => Sys2Proof.Machine.execShuttleStage src panel slot rivals s
  | .shuttleUnstage src panel slot rivals => Sys2Proof.Machine.execShuttleUnstage src panel slot rivals s
  | .shuttleSelect src panel slot rivals => Sys2Proof.Machine.execShuttleSelect src panel slot rivals s
  | .shuttleRelease src panel fresh rivals => Sys2Proof.Machine.execShuttleRelease src panel fresh rivals s
  | .shuttleHold src panel rivals => Sys2Proof.Machine.execShuttleHold src panel rivals s
  | .shuttleInvalidate src panel slot rivals => Sys2Proof.Machine.execShuttleInvalidate src panel slot rivals s
  | .fabricShuttleReq panel slot fresh rivals => Sys2Proof.Machine.execFabricShuttleReq panel slot fresh rivals s
  | .queueArrivalRequest panel rivals => Sys2Proof.Machine.execQueueArrivalRequest panel rivals s
  | .tsliceControlWrite src panel value => Sys2Proof.Machine.execTsliceControlWrite src panel value s
  | .tsliceRequest panel rivals => Sys2Proof.Machine.execTsliceRequest panel rivals s
  | .tsliceEntryAdvance panel => Sys2Proof.Machine.execTsliceEntryAdvance panel s
  | .stagingComplete panel => Sys2Proof.Machine.execStagingComplete panel s
  | .stageCrcError panel tile frame flip => Sys2Proof.Machine.execStageCrcError panel tile frame flip s
  | .switchCycle panel => Sys2Proof.Machine.execSwitchCycle panel s
  | .readbackFrame panel flip => Sys2Proof.Machine.execReadbackFrame panel flip s
  | .pressRead tile row persist => Sys2Proof.Machine.execPressRead tile row persist s
  | .pressWrite tile row persist => Sys2Proof.Machine.execPressWrite tile row persist s
  | .pressBudgetGrant => Sys2Proof.Machine.execPressBudgetGrant s
  | .bankAdmit bank upsets => Sys2Proof.Machine.execBankAdmit bank upsets s
  | .pressCompletion tile => Sys2Proof.Machine.execPressCompletion tile s
  | .pressRegWrite tile we data sameCycle => Sys2Proof.Machine.execPressRegWrite tile we data sameCycle s
  | .wordRead tile tier row word persist => Sys2Proof.Machine.execWordRead tile tier row word persist s
  | .wordWrite tile tier row word be data persist => Sys2Proof.Machine.execWordWrite tile tier row word be data persist s
  | .wordCompletion tile tier => Sys2Proof.Machine.execWordCompletion tile tier s
  | .baseChannelGrant group => Sys2Proof.Machine.execBaseChannelGrant group s
  | .bankOwnerWrite src bank value => Sys2Proof.Machine.execBankOwnerWrite src bank value s
  | .handoverDrainDone bank => Sys2Proof.Machine.execHandoverDrainDone bank s
  | .initEngineRow bank => Sys2Proof.Machine.execInitEngineRow bank s
  | .repairWriteback group => Sys2Proof.Machine.execRepairWriteback group s
  | .darnMigration bank => Sys2Proof.Machine.execDarnMigration bank s
  | .darnInstall src value => Sys2Proof.Machine.execDarnInstall src value s
  | .rinseTick => Sys2Proof.Machine.execRinseTick s
  | .rinseRow bank upsets => Sys2Proof.Machine.execRinseRow bank upsets s
  | .splitBankWrite src bank => Sys2Proof.Machine.execSplitBankWrite src bank s
  | .splitEnableWrite src on => Sys2Proof.Machine.execSplitEnableWrite src on s
  | .splitData src data => Sys2Proof.Machine.execSplitData src data s
  | .splitCheck src check => Sys2Proof.Machine.execSplitCheck src check s
  | .splitRead src => Sys2Proof.Machine.execSplitRead src s
  | .splitFoldOverride src value => Sys2Proof.Machine.execSplitFoldOverride src value s
  | .baseSramRead sram addr flips => Sys2Proof.Machine.execBaseSramRead sram addr flips s
  | .qmEnableWrite src on => Sys2Proof.Machine.execQmEnableWrite src on s
  | .qmRebuildDone => Sys2Proof.Machine.execQmRebuildDone s
  | .poolAdd src bank => Sys2Proof.Machine.execPoolAdd src bank s
  | .poolRemove src bank => Sys2Proof.Machine.execPoolRemove src bank s
  | .queueSetupWrite src queue setup => Sys2Proof.Machine.execQueueSetupWrite src queue setup s
  | .queueEnable src queue => Sys2Proof.Machine.execQueueEnable src queue s
  | .queueDisable src queue => Sys2Proof.Machine.execQueueDisable src queue s
  | .queueFlush src queue => Sys2Proof.Machine.execQueueFlush src queue s
  | .queueClearFlags src queue => Sys2Proof.Machine.execQueueClearFlags src queue s
  | .queueSetupApply link queue => Sys2Proof.Machine.execQueueSetupApply link queue s
  | .enqValue link queue data => Sys2Proof.Machine.execEnqValue link queue data s
  | .enqBuffer link queue bufAddr len => Sys2Proof.Machine.execEnqBuffer link queue bufAddr len s
  | .panelEnqueueCell panel queue len first last data => Sys2Proof.Machine.execPanelEnqueueCell panel queue len first last data s
  | .mgmtEnqueue queue data => Sys2Proof.Machine.execMgmtEnqueue queue data s
  | .enqueueCommit queue => Sys2Proof.Machine.execEnqueueCommit queue s
  | .deqValue link tag queue size => Sys2Proof.Machine.execDeqValue link tag queue size s
  | .deqBuffer link queue bufAddr len => Sys2Proof.Machine.execDeqBuffer link queue bufAddr len s
  | .panelDequeueRequest panel queue => Sys2Proof.Machine.execPanelDequeueRequest panel queue s
  | .panelDequeueCell panel => Sys2Proof.Machine.execPanelDequeueCell panel s
  | .dequeueCommit queue => Sys2Proof.Machine.execDequeueCommit queue s
  | .queueIdleTimeout queue => Sys2Proof.Machine.execQueueIdleTimeout queue s
  | .moverEnable link mover base size => Sys2Proof.Machine.execMoverEnable link mover base size s
  | .moverTailWrite link mover tail => Sys2Proof.Machine.execMoverTailWrite link mover tail s
  | .moverRetry link mover => Sys2Proof.Machine.execMoverRetry link mover s
  | .moverSkip link mover => Sys2Proof.Machine.execMoverSkip link mover s
  | .moverReset link mover => Sys2Proof.Machine.execMoverReset link mover s
  | .moverUnit mover => Sys2Proof.Machine.execMoverUnit mover s
  | .vectorTableWrite link vector field value => Sys2Proof.Machine.execVectorTableWrite link vector field value s
  | .vectorDelivery vector => Sys2Proof.Machine.execVectorDelivery vector s
  | .cxlMemRequest link partner dpid op field line tag be data poison => Sys2Proof.Machine.execCxlMemRequest link partner dpid op field line tag be data poison s
  | .localDirRequest mover line write => Sys2Proof.Machine.execLocalDirRequest mover line write s
  | .dirSetReadReturn txn => Sys2Proof.Machine.execDirSetReadReturn txn s
  | .dirEntryWriteAdmit txn => Sys2Proof.Machine.execDirEntryWriteAdmit txn s
  | .dirSnoopIssue partner line => Sys2Proof.Machine.execDirSnoopIssue partner line s
  | .dirBiResponse link spid dpid line rsp => Sys2Proof.Machine.execDirBiResponse link spid dpid line rsp s
  | .dirSnoopTimeout partner line => Sys2Proof.Machine.execDirSnoopTimeout partner line s
  | .biconflict link spid dpid line => Sys2Proof.Machine.execBiconflict link spid dpid line s
  | .dirEnableWrite src on => Sys2Proof.Machine.execDirEnableWrite src on s
  | .dirSweepDone => Sys2Proof.Machine.execDirSweepDone s
  | .dirFlush src value => Sys2Proof.Machine.execDirFlush src value s
  | .dirPurgePartner src value => Sys2Proof.Machine.execDirPurgePartner src value s
  | .hostMapWrite src entry value => Sys2Proof.Machine.execHostMapWrite src entry value s
  | .dirBankSlotWrite src slot value => Sys2Proof.Machine.execDirBankSlotWrite src slot value s
  | .trainFull src dimms => Sys2Proof.Machine.execTrainFull src dimms s
  | .trainResume src => Sys2Proof.Machine.execTrainResume src s
  | .ddrTrainingDone chan result margin => Sys2Proof.Machine.execDdrTrainingDone chan result margin s
  | .ddrReadComplete chan flips => Sys2Proof.Machine.execDdrReadComplete chan flips s
  | .ddrRequest line => Sys2Proof.Machine.execDdrRequest line s
  | .scrubLine chan flips => Sys2Proof.Machine.execScrubLine chan flips s
  | .ddrCapWindow chan => Sys2Proof.Machine.execDdrCapWindow chan s
  | .spdTempPoll chan slot temp => Sys2Proof.Machine.execSpdTempPoll chan slot temp s
  | .receiverDetect lane => Sys2Proof.Machine.execReceiverDetect lane s
  | .laneTrainDone lane => Sys2Proof.Machine.execLaneTrainDone lane s
  | .laneTrainTimeout lane => Sys2Proof.Machine.execLaneTrainTimeout lane s
  | .laceLinkFormation lane => Sys2Proof.Machine.execLaceLinkFormation lane s
  | .laneLockTimeout lane => Sys2Proof.Machine.execLaneLockTimeout lane s
  | .exchangeTimeout link => Sys2Proof.Machine.execExchangeTimeout link s
  | .laneRetry src lane value => Sys2Proof.Machine.execLaneRetry src lane value s
  | .laneDisable src lane value => Sys2Proof.Machine.execLaneDisable src lane value s
  | .eqRequestReceived lane value => Sys2Proof.Machine.execEqRequestReceived lane value s
  | .eqAnswerReceived lane value => Sys2Proof.Machine.execEqAnswerReceived lane value s
  | .eqAnswerTimeout lane => Sys2Proof.Machine.execEqAnswerTimeout lane s
  | .eqEvaluationDone lane met request => Sys2Proof.Machine.execEqEvaluationDone lane met request s
  | .markerReceived lane levels skew onTime corrected => Sys2Proof.Machine.execMarkerReceived lane levels skew onTime corrected s
  | .pcieLtssmTransition link ltssm width rate flitMode flit68 reversed inverted errors => Sys2Proof.Machine.execPcieLtssmTransition link ltssm width rate flitMode flit68 reversed inverted errors s
  | .loopbackStart src lane value => Sys2Proof.Machine.execLoopbackStart src lane value s
  | .loopbackStop src lane bits errors => Sys2Proof.Machine.execLoopbackStop src lane bits errors s
  | .loopbackDurationEnd lane bits errors => Sys2Proof.Machine.execLoopbackDurationEnd lane bits errors s
  | .loopbackNoLock lane => Sys2Proof.Machine.execLoopbackNoLock lane s
  | .eyeCommand src lane value => Sys2Proof.Machine.execEyeCommand src lane value s
  | .eyeMeasurementDone lane height width => Sys2Proof.Machine.execEyeMeasurementDone lane height width s
  | .laneMarginingCommand lane busy => Sys2Proof.Machine.execLaneMarginingCommand lane busy s
  | .portConfigWrite src port value => Sys2Proof.Machine.execPortConfigWrite src port value s
  | .portReset src port value => Sys2Proof.Machine.execPortReset src port value s
  | .perstAssert port => Sys2Proof.Machine.execPerstAssert port s
  | .linkLoss link => Sys2Proof.Machine.execLinkLoss link s
  | .linkUp link => Sys2Proof.Machine.execLinkUp link s
  | .rootCfgRead src => Sys2Proof.Machine.execRootCfgRead src s
  | .rootCfgWrite src value => Sys2Proof.Machine.execRootCfgWrite src value s
  | .rootCfgCompletion link dpid tag status data => Sys2Proof.Machine.execRootCfgCompletion link dpid tag status data s
  | .barRequest link dpid bar offset len tag write data poison => Sys2Proof.Machine.execBarRequest link dpid bar offset len tag write data poison s
  | .atomicopRequest link dpid bar offset op size operand compare tag => Sys2Proof.Machine.execAtomicopRequest link dpid bar offset op size operand compare tag s
  | .pcieConfigRequest link dpid fn offset tag be data write => Sys2Proof.Machine.execPcieConfigRequest link dpid fn offset tag be data write s
  | .deviceCompletionReceive link spid dpid tag status poison data => Sys2Proof.Machine.execDeviceCompletionReceive link spid dpid tag status poison data s
  | .completionTimeout link tag => Sys2Proof.Machine.execCompletionTimeout link tag s
  | .ideIntegrityFailure link stream => Sys2Proof.Machine.execIdeIntegrityFailure link stream s
  | .ideKmKeyProgram link stream slot key => Sys2Proof.Machine.execIdeKmKeyProgram link stream slot key s
  | .shimTxPacket port kind link partner tag nonPosted bytes => Sys2Proof.Machine.execShimTxPacket port kind link partner tag nonPosted bytes s
  | .shimHoldTimeout port => Sys2Proof.Machine.execShimHoldTimeout port s
  | .l0pResponse link granted => Sys2Proof.Machine.execL0pResponse link granted s
  | .mctpVdmReceive link dpid requester routing packet => Sys2Proof.Machine.execMctpVdmReceive link dpid requester routing packet s
  | .trainingFrameReceive lane levels => Sys2Proof.Machine.execTrainingFrameReceive lane levels s
  | .laceRateChange lane => Sys2Proof.Machine.execLaceRateChange lane s
  | .capFlitReceive lane flit => Sys2Proof.Machine.execCapFlitReceive lane flit s
  | .laceWrite link flit => Sys2Proof.Machine.execLaceWrite link flit s
  | .laceRead link flit => Sys2Proof.Machine.execLaceRead link flit s
  | .laceAtomic link flit => Sys2Proof.Machine.execLaceAtomic link flit s
  | .laceFlush link flit => Sys2Proof.Machine.execLaceFlush link flit s
  | .laceFlushDone link => Sys2Proof.Machine.execLaceFlushDone link s
  | .laceMctp link flit => Sys2Proof.Machine.execLaceMctp link flit s
  | .laceCompletion link flit => Sys2Proof.Machine.execLaceCompletion link flit s
  | .laceUserFlit link flit => Sys2Proof.Machine.execLaceUserFlit link flit s
  | .laceShimTxFlit link partner flit => Sys2Proof.Machine.execLaceShimTxFlit link partner flit s
  | .laceNullFlit link flit => Sys2Proof.Machine.execLaceNullFlit link flit s
  | .laceBadFlit link nth codewords => Sys2Proof.Machine.execLaceBadFlit link nth codewords s
  | .laceNakResend link => Sys2Proof.Machine.execLaceNakResend link s
  | .laceNakReceive link flit => Sys2Proof.Machine.execLaceNakReceive link flit s
  | .laceReplayTimeout link => Sys2Proof.Machine.execLaceReplayTimeout link s
  | .laceCreditNull link => Sys2Proof.Machine.execLaceCreditNull link s
  | .laceRetrainCommand src link value => Sys2Proof.Machine.execLaceRetrainCommand src link value s
  | .lacePartnerIdle link => Sys2Proof.Machine.execLacePartnerIdle link s
  | .laceRetrainIdleEnd link => Sys2Proof.Machine.execLaceRetrainIdleEnd link s
  | .laceDozeIdleTimer link => Sys2Proof.Machine.execLaceDozeIdleTimer link s
  | .laceOffIdleTimer link => Sys2Proof.Machine.execLaceOffIdleTimer link s
  | .laceSleepAcked link => Sys2Proof.Machine.execLaceSleepAcked link s
  | .laceDozeFlit link flit => Sys2Proof.Machine.execLaceDozeFlit link flit s
  | .laceOffFlit link flit => Sys2Proof.Machine.execLaceOffFlit link flit s
  | .laceDozeMax link => Sys2Proof.Machine.execLaceDozeMax link s
  | .laceWake link receiver => Sys2Proof.Machine.execLaceWake link receiver s
  | .laceRxReady link flit => Sys2Proof.Machine.execLaceRxReady link flit s
  | .laceWidthFlit link flit => Sys2Proof.Machine.execLaceWidthFlit link flit s
  | .laceNarrowTimeout link => Sys2Proof.Machine.execLaceNarrowTimeout link s
  | .laceRequestTimeout link tag => Sys2Proof.Machine.execLaceRequestTimeout link tag s
  | .loaderLoad src value => Sys2Proof.Machine.execLoaderLoad src value s
  | .loaderAbort src => Sys2Proof.Machine.execLoaderAbort src s
  | .loaderBootLoad src => Sys2Proof.Machine.execLoaderBootLoad src s
  | .loaderChainSend src value => Sys2Proof.Machine.execLoaderChainSend src value s
  | .flashPreambleDone header ok => Sys2Proof.Machine.execFlashPreambleDone header ok s
  | .loadHeader header => Sys2Proof.Machine.execLoadHeader header s
  | .loadFrameRecord record => Sys2Proof.Machine.execLoadFrameRecord record s
  | .loadEndRecord record => Sys2Proof.Machine.execLoadEndRecord record s
  | .loadSignatureRecord record => Sys2Proof.Machine.execLoadSignatureRecord record s
  | .loadVerifyDone crcFail => Sys2Proof.Machine.execLoadVerifyDone crcFail s
  | .loadTimeout => Sys2Proof.Machine.execLoadTimeout s
  | .chainEnvelope data => Sys2Proof.Machine.execChainEnvelope data s
  | .salynMessageArrival src message => Sys2Proof.Machine.execSalynMessageArrival src message s
  | .salynRead transport => Sys2Proof.Machine.execSalynRead transport s
  | .salynWrite transport seen => Sys2Proof.Machine.execSalynWrite transport seen s
  | .salynDescribe transport => Sys2Proof.Machine.execSalynDescribe transport s
  | .salynEnumerate transport => Sys2Proof.Machine.execSalynEnumerate transport s
  | .notifyResponse src tag => Sys2Proof.Machine.execNotifyResponse src tag s
  | .firmwareReply idx sub seen => Sys2Proof.Machine.execFirmwareReply idx sub seen s
  | .firmwareTimeout idx sub => Sys2Proof.Machine.execFirmwareTimeout idx sub s
  | .dictionaryWrite src idx sub ty value seen => Sys2Proof.Machine.execDictionaryWrite src idx sub ty value seen s
  | .transportSettingApply => Sys2Proof.Machine.execTransportSettingApply s
  | .journalEntryAccept source => Sys2Proof.Machine.execJournalEntryAccept source s
  | .journalEntryRead src => Sys2Proof.Machine.execJournalEntryRead src s
  | .nvJournalEntryRead src => Sys2Proof.Machine.execNvJournalEntryRead src s
  | .journalNvCopy => Sys2Proof.Machine.execJournalNvCopy s
  | .seqReserveCommit => Sys2Proof.Machine.execSeqReserveCommit s
  | .notifySend target => Sys2Proof.Machine.execNotifySend target s
  | .notifyResend target => Sys2Proof.Machine.execNotifyResend target s
  | .alertAckWrite src value => Sys2Proof.Machine.execAlertAckWrite src value s
  | .udpReassemblyTimeout => Sys2Proof.Machine.execUdpReassemblyTimeout s
  | .arpRequest ip => Sys2Proof.Machine.execArpRequest ip s
  | .icmpEcho ip => Sys2Proof.Machine.execIcmpEcho ip s
  | .mctpControlCommand src cmd data => Sys2Proof.Machine.execMctpControlCommand src cmd data s
  | .dynamicAddressAssign addr controller => Sys2Proof.Machine.execDynamicAddressAssign addr controller s
  | .lifecycleAdvance src value => Sys2Proof.Machine.execLifecycleAdvance src value s
  | .returnToken src token => Sys2Proof.Machine.execReturnToken src token s
  | .keyHashWrite src sub hash => Sys2Proof.Machine.execKeyHashWrite src sub hash s
  | .keyRevoke src value => Sys2Proof.Machine.execKeyRevoke src value s
  | .fwSvnAdvance src value => Sys2Proof.Machine.execFwSvnAdvance src value s
  | .secPinMaskWrite src value => Sys2Proof.Machine.execSecPinMaskWrite src value s
  | .fuseWriteDone interrupted => Sys2Proof.Machine.execFuseWriteDone interrupted s
  | .bsKeyWrite src slot key => Sys2Proof.Machine.execBsKeyWrite src slot key s
  | .fwVerifyAndStart src => Sys2Proof.Machine.execFwVerifyAndStart src s
  | .fwClearWindow src => Sys2Proof.Machine.execFwClearWindow src s
  | .fwVerifyDone windowUe => Sys2Proof.Machine.execFwVerifyDone windowUe s
  | .fwWindowData src data => Sys2Proof.Machine.execFwWindowData src data s
  | .bootBarWindowWrite offset data => Sys2Proof.Machine.execBootBarWindowWrite offset data s
  | .spdmRequest src code => Sys2Proof.Machine.execSpdmRequest src code s
  | .tamper pin => Sys2Proof.Machine.execTamper pin s
  | .watchdogExpiry => Sys2Proof.Machine.execWatchdogExpiry s
  | .coreTrapTimeout => Sys2Proof.Machine.execCoreTrapTimeout s
  | .thermalSample readings coolant coolantOk => Sys2Proof.Machine.execThermalSample readings coolant coolantOk s
  | .thermistorRecover t => Sys2Proof.Machine.execThermistorRecover t s
  | .levelRiseConfirm level value => Sys2Proof.Machine.execLevelRiseConfirm level value s
  | .levelReleaseConfirm level value => Sys2Proof.Machine.execLevelReleaseConfirm level value s
  | .sensorDisagreeLatch site => Sys2Proof.Machine.execSensorDisagreeLatch site s
  | .disagreeMapWrite src word value => Sys2Proof.Machine.execDisagreeMapWrite src word value s
  | .coolantLossConfirm => Sys2Proof.Machine.execCoolantLossConfirm s
  | .coolantRestoreConfirm => Sys2Proof.Machine.execCoolantRestoreConfirm s
  | .inletHighConfirm => Sys2Proof.Machine.execInletHighConfirm s
  | .inletHighClear => Sys2Proof.Machine.execInletHighClear s
  | .levelPointWrite src sub value => Sys2Proof.Machine.execLevelPointWrite src sub value s
  | .fraySample => Sys2Proof.Machine.execFraySample s
  | .frayPeriodicSave => Sys2Proof.Machine.execFrayPeriodicSave s
  | .nvGroupCommitDone => Sys2Proof.Machine.execNvGroupCommitDone s
  | .firmwareNvWrite pair data => Sys2Proof.Machine.execFirmwareNvWrite pair data s
  | .railOutOfRange monitor => Sys2Proof.Machine.execRailOutOfRange monitor s
  | .railInRange monitor => Sys2Proof.Machine.execRailInRange monitor s
  | .supplyRemoval rail => Sys2Proof.Machine.execSupplyRemoval rail s
  | .resetNAssert => Sys2Proof.Machine.execResetNAssert s
  | .coldResetRelease => Sys2Proof.Machine.execColdResetRelease s
  | .warmNAssert => Sys2Proof.Machine.execWarmNAssert s
  | .resetCommandCold src => Sys2Proof.Machine.execResetCommandCold src s
  | .resetCommandBaseWarm src => Sys2Proof.Machine.execResetCommandBaseWarm src s
  | .resetCommandPanel src panel => Sys2Proof.Machine.execResetCommandPanel src panel s
  | .resetCommandFabric src => Sys2Proof.Machine.execResetCommandFabric src s
  | .resetTakeHold => Sys2Proof.Machine.execResetTakeHold s
  | .baseWarmRelease => Sys2Proof.Machine.execBaseWarmRelease s
  | .pmbusPoll entry ack modeOk vout iout temp status => Sys2Proof.Machine.execPmbusPoll entry ack modeOk vout iout temp status s
  | .pmbAlert statuses => Sys2Proof.Machine.execPmbAlert statuses s
  | .vcoreSetpointWrite src mv => Sys2Proof.Machine.execVcoreSetpointWrite src mv s
  | .vcoreSetpointStep => Sys2Proof.Machine.execVcoreSetpointStep s
  | .powerEstimate mv2 mv4 toggles => Sys2Proof.Machine.execPowerEstimate mv2 mv4 toggles s
  | .powerCalibration => Sys2Proof.Machine.execPowerCalibration s
  | .powerHighConfirm => Sys2Proof.Machine.execPowerHighConfirm s
  | .processMonitorRead mv2 mv4 readings => Sys2Proof.Machine.execProcessMonitorRead mv2 mv4 readings s
  | .clockDomainStart n => Sys2Proof.Machine.execClockDomainStart n s
  | .pllUnlock n => Sys2Proof.Machine.execPllUnlock n s
  | .pllRelock n => Sys2Proof.Machine.execPllRelock n s
  | .refLoss => Sys2Proof.Machine.execRefLoss s
  | .refRestored => Sys2Proof.Machine.execRefRestored s
  | .fclkFreqWrite src n khz => Sys2Proof.Machine.execFclkFreqWrite src n khz s
  | .fclkRelockDone n => Sys2Proof.Machine.execFclkRelockDone n s
  | .aonRetrim => Sys2Proof.Machine.execAonRetrim s
  | .pllRecalibration n => Sys2Proof.Machine.execPllRecalibration n s
  | .selftestStartMemory src value => Sys2Proof.Machine.execSelftestStartMemory src value s
  | .selftestStartLogic src value => Sys2Proof.Machine.execSelftestStartLogic src value s
  | .selftestStartLane src value => Sys2Proof.Machine.execSelftestStartLane src value s
  | .selftestStartFuse src value => Sys2Proof.Machine.execSelftestStartFuse src value s
  | .selftestAbort src value => Sys2Proof.Machine.execSelftestAbort src value s
  | .memorySliceStart group saveFails => Sys2Proof.Machine.execMemorySliceStart group saveFails s
  | .memorySliceEnd group rows failing => Sys2Proof.Machine.execMemorySliceEnd group rows failing s
  | .logicTestEnd panel result => Sys2Proof.Machine.execLogicTestEnd panel result s
  | .laneTestEnd results => Sys2Proof.Machine.execLaneTestEnd results s
  | .fuseTestEnd fails => Sys2Proof.Machine.execFuseTestEnd fails s
  | .pinConfigWrite src n value => Sys2Proof.Machine.execPinConfigWrite src n value s
  | .pinHoldWindowEnd n board level => Sys2Proof.Machine.execPinHoldWindowEnd n board level s
  | .gpioOutWrite src g value => Sys2Proof.Machine.execGpioOutWrite src g value s
  | .gpioOeWrite src g value => Sys2Proof.Machine.execGpioOeWrite src g value s
  | .gpioEdge n level => Sys2Proof.Machine.execGpioEdge n level s
  | .syncCapture n level => Sys2Proof.Machine.execSyncCapture n level s
  | .edgePendingWrite src g value => Sys2Proof.Machine.execEdgePendingWrite src g value s
  | .eyeletSelectWrite src k value => Sys2Proof.Machine.execEyeletSelectWrite src k value s
  | .eyeletTrigger t => Sys2Proof.Machine.execEyeletTrigger t s
  | .jtagInstructionUpdate code => Sys2Proof.Machine.execJtagInstructionUpdate code s
  | .jtagFuseRead addr => Sys2Proof.Machine.execJtagFuseRead addr s
  | .jtagFuseProgram addr data => Sys2Proof.Machine.execJtagFuseProgram addr data s
  | .jtagProbeScan => Sys2Proof.Machine.execJtagProbeScan s
  | .coreDebugAccess kind addr data => Sys2Proof.Machine.execCoreDebugAccess kind addr data s
  | .trst => Sys2Proof.Machine.execTrst s
  | .watchdogRestart => Sys2Proof.Machine.execWatchdogRestart s
  | .mgmtBaseChannelAccess kind addr be data => Sys2Proof.Machine.execMgmtBaseChannelAccess kind addr be data s
  | .shimRxPacket port kind link spid dpid tag nonPosted bytes cut => Sys2Proof.Machine.execShimRxPacket port kind link spid dpid tag nonPosted bytes cut s
  | .wakeLockTimeout link => Sys2Proof.Machine.execWakeLockTimeout link s
  | .ethLinkChange up speed => Sys2Proof.Machine.execEthLinkChange up speed s

end Sys2Proof.Machine
end

