-- ==== Sys2Proof/Machine/LaceWire.lean ====
section
/-! DEFINITION. What the lanes of the Lace links send as AON time passes: training frames back to back (R282), codewords slot by slot,
and the alignment markers of the link's schedule (R279–R281, R285, R287). -/

namespace Sys2Proof.Machine

/-- `n` training frames. -/
def State.sendFrames (s : State) (k : Nat) : Nat → State
  | 0 => s
  | n + 1 => (s.sendFrame k).sendFrames k n

/-- A lane in TRAIN sends the frames of one microsecond, back to back (R282). -/
def State.trainLane (s : State) (k : Nat) : State :=
  let x := s.lane k
  if x.lstate = .train && s.isLace k then
    let n := x.frameBits + rateBits x.rate
    (s.setLane k { x with frameBits := n % 512 }).sendFrames k (n / 512)
  else s

/-- A lane sends a block as a codeword (R279). -/
def State.sendBlock (s : State) (k n : Nat) (block : List Byte) : State :=
  let x := s.lane k
  (s.setLane k { x with scrambler := (scramblerBits 5120 x.scrambler).2 }).sendLevels k
    ((codeword (flitOffset n) block x.scrambler).flatMap symbolLevels)

/-- A lane sends its marker, and its scrambler is loaded (R281, R279). -/
def State.sendMarker (s : State) (k count : Nat) : State :=
  let x := s.lane k
  (s.setLane k { x with scrambler := scramblerLoad x.logical }).sendLevels k (bitLevels 120 (markerBits x.logical count))

/-- A lane takes part in its link's slots (R281, R301, R303): past TRAIN, with its transmitter on. -/
def Lane.onWire (x : Lane) : Bool :=
  x.lstate = .lock || x.lstate = .exchange || x.lstate = .active && x.txPower = 0

/-- The lanes of a link that take part in its slots; none while it sends electrical idle for a retrain (R299). -/
def State.wireLanes (s : State) (l : Nat) : List Nat :=
  if (s.link l).lace.idling then [] else (s.linkLanes l).filter (fun k => (s.lane k).onWire)

/-- The next flit of the stream that every lane carries (R285, R287): NULL in LOCK; in EXCHANGE CAP with ACK 0, with ACK 1 once a CAP was
received, and one with START after four of these; NULL again up to the first striped slot. -/
def State.nextOwn (s : State) (l : Nat) : State :=
  let x := (s.link l).lace
  if x.startAt ≠ 0 || !(s.linkLanes l).any (fun k => decide ((s.lane k).lstate = .exchange)) then s.ownFlit l 0 []
  else if x.ackSeen && 4 ≤ x.acksSent then
    let s1 := s.sendCap l true true
    let y := (s1.link l).lace
    s1.setLace l { y with startAt := y.own.length }
  else
    let s1 := s.sendCap l x.capSeen false
    let y := (s1.link l).lace
    s1.setLace l { y with acksSent := y.acksSent + flag x.capSeen }

/-- The lanes' own stream has a block, after at most `n` flits. -/
def State.fillOwn (s : State) (l : Nat) : Nat → State
  | 0 => s
  | n + 1 => if 640 ≤ (s.link l).lace.own.length then s else (s.nextOwn l).fillOwn l n

/-- The slot in which the START flit ends is over: the next one is the first striped slot (R287). -/
def Lace.striped (x : Lace) : Lace :=
  { x with
    startSent := true, startAt := 0, own := [], stream := [], blocks := 0, txWidth := x.agreed, txGoal := x.agreed, wantTx := 0
    widths := [] }

/-- A slot before the first striped one (R285, R287): every lane sends the same block of the lanes' own stream. -/
def State.ownSlot (s : State) (l : Nat) : State :=
  let s1 := s.fillOwn l 3
  let x := (s1.link l).lace
  let s2 := (s1.wireLanes l).foldl (fun (t : State) k => t.sendBlock k x.ownBlocks (x.own.take 640)) s1
  let y := { x with own := x.own.drop 640, ownBlocks := x.ownBlocks + 1, startAt := x.startAt - 640 }
  if x.startAt = 0 || 640 < x.startAt then s2.setLace l y else (s2.setLace l y.striped).tryEnd l

/-- The byte stream of a link has at least `bytes`, after at most `n` NULL flits. -/
def State.fillStream (s : State) (l bytes : Nat) : Nat → State
  | 0 => s
  | n + 1 => if bytes ≤ (s.link l).lace.stream.length then s else (s.sendNull l).fillStream l bytes n

/-- WIDTH flits that ended in a slot of so many bytes take effect (R303): lanes at and above the last width turn off. -/
def State.takeWidths (s : State) (l sent : Nat) : State :=
  let x := (s.link l).lace
  let s1 := s.setLace l { x with widths := (x.widths.filter (fun w => sent < w.1)).map (fun w => (w.1 - sent, w.2)) }
  match (x.widths.filter (fun w => w.1 ≤ sent)).getLast? with
  | some w => State.txLanes (s1.setLace l { (s1.link l).lace with txWidth := w.2 }) l w.2
  | none => s1

/-- A striped slot (R280): block `i` of the slot goes to logical lane `i` below the transmit width. None is sent while the transmitter
sleeps, and the stream goes on in the next (R301). A lane that wakes for a wider width carries NULL flits of its own until then
(log 164). -/
def State.stripedSlot (s : State) (l : Nat) : State :=
  let w := (s.link l).lace.txWidth
  let t0 := (s.link l).lace.tx
  if t0 = .dozing || t0 = .off then s
  else
    let wide := (s.wireLanes l).any (fun k => decide (w ≤ (s.lane k).logical))
    let s1 := (s.fillStream l (640 * w) 41).fillOwn l (if wide then 3 else 0)
    let x := (s1.link l).lace
    let s2 := (s1.wireLanes l).foldl (fun (t : State) k =>
      let i := (t.lane k).logical
      if i < w then t.sendBlock k (x.blocks + i) (slice x.stream (640 * i) 640)
      else t.sendBlock k x.ownBlocks (x.own.take 640)) s1
    State.takeWidths (s2.setLace l { x with
      stream := x.stream.drop (640 * w), blocks := x.blocks + w, own := x.own.drop 640, ownBlocks := x.ownBlocks + flag wide }) l
      (640 * w)

/-- One codeword slot of a link passes (R280, R281); after every 16,384th the markers follow, with one count on every lane. -/
def State.wireSlot (s : State) (l : Nat) : State :=
  let s1 :=
    if (s.link l).lace.idling then s
    else if (s.link l).lace.startSent then s.stripedSlot l else s.ownSlot l
  let x := (s1.link l).lace
  if x.since + 1 < 16384 then s1.setLace l { x with since := x.since + 1 }
  else
    let s2 := (s1.wireLanes l).foldl (fun (t : State) k => t.sendMarker k x.markers) s1
    s2.setLace l { (s2.link l).lace with since := 0, markers := (x.markers + 1) % 2 ^ 16 }

/-- The bits of the present slot, with the marker that follows it (R242). -/
def Lace.slotSize (x : Lace) : Nat := 5440 + (if x.since + 1 = 16384 then 120 else 0)

/-- The slots that end within the bits that have passed: at most `n`. -/
def State.wireSlots (s : State) (l : Nat) : Nat → State
  | 0 => s
  | n + 1 =>
    let x := (s.link l).lace
    if x.slotSize ≤ x.slotBits then
      ((s.setLace l { x with slotBits := x.slotBits - x.slotSize }).wireSlot l).wireSlots l n
    else s

/-- The rate of a link whose schedule runs: that of its lanes past TRAIN (R284). -/
def State.lineRate (s : State) (l : Nat) : Nat :=
  (((s.linkLanes l).find? (fun k =>
    decide ((s.lane k).lstate = .lock || (s.lane k).lstate = .exchange || (s.lane k).lstate = .active))).map
      (fun k => (s.lane k).rate)).getD 0

/-- One microsecond of a Lace link whose schedule runs (R281). A sleeping transmitter wakes where accepted flits are unreported (R297). -/
def State.wireLink (s : State) (l : Nat) : State :=
  let x := s.link l
  if s.isLace l && x.lace.scheduled then
    let s0 := if x.active && x.lace.unreported ≠ 0 then s.wakeTx l else s
    let y := (s0.link l).lace
    (s0.setLace l { y with slotBits := y.slotBits + rateBits (s0.lineRate l) }).wireSlots l 22
  else s

/-- One microsecond of every lane and link in Lace link mode. -/
def State.wires (s : State) : State :=
  (s.links.map (fun x => x.1)).foldl State.wireLink ((s.lanes.map (fun x => x.1)).foldl State.trainLane s)

/-- One microsecond of AON time passes, in every state but OFF (R32): the rail monitors convert (R433), what the Lace lanes send in it goes
out, and an edge of those FCLKs
that have one reaches the panels (log 60). -/
def State.tick (s : State) : State :=
  if s.dev.state = .off then s
  else s.stopClocks.sampleRails.retried.releaseLinks.loaderRetry.wires.fclkEdges.setTime ((s.dev.aonTime + 1) % 2 ^ 64)

end Sys2Proof.Machine
end

