-- ==== Sys2Proof/WellFormed.lean ====
section
/-! DEFINITION. Well-formed commands: operands within what the spec numbers. Every meaning is total: a command outside these bounds
is still a step. -/

namespace Sys2Proof

/-- A source code of R361. -/
def sourceOk (s : Source) : Bool := (1 ≤ s.code && s.code ≤ 3 || s.code = 0x10) && s.addr < 2 ^ 64

/-- A tier with word ports (R104). -/
def tierOk (t : Nat) : Bool := t = 2 || t = 4

/-- A transport in the rotation of R347, or a notify target (R368). -/
def fourOk (t : Nat) : Bool := 1 ≤ t && t ≤ 4

/-- An internal journal source (R361). -/
def journalSource (c : Nat) : Bool := 0x20 ≤ c && c ≤ 0x27

/-- A rival that R22 knows. -/
def rivalOk (r : Rival) : Bool := 1 ≤ r.kind && r.kind ≤ 4 && r.slot < 8

/-- A value, a packet or a message that its carrier can hold: the longest is a Salyn message of 4,112 B (R344). -/
def lengthOk (l : List Byte) : Bool := l.length ≤ 4112

/-- `n` PAM4 levels. -/
def levelsOk (n : Nat) (l : List Nat) : Bool := l.length = n && l.all (fun g => g < 4)

/-- A codeword of 544 symbols of five levels, after the level before it. -/
def RxCodeword.wf (c : RxCodeword) : Bool := c.lane < 96 && levelsOk 2721 c.levels

/-- The operands of a command lie within what the spec numbers. -/
def Instr.wf : Instr → Bool
  | .stateCommandEnable src => sourceOk src
  | .stateCommandStop src => sourceOk src
  | .stateCommandClear src => sourceOk src
  | .stopMoversIdle => true
  | .ddrSelfRefreshDone => true
  | .stopNvIdle => true
  | .stopStep3Forced => true
  | .stopWindowExpired => true
  | .thermtrip => true
  | .vccBaseLoss => true
  | .porAssert => true
  | .porRelease straps => straps < 1024
  | .bootEntry => true
  | .bootRomDone _ => true
  | .eventRecordAccept _ => true
  | .timeMark => true
  | .eventRecordRead src => sourceOk src
  | .digestPublication => true
  | .tileMemClear src panel _ => sourceOk src && panel < 32
  | .tileMemClearDone panel => panel < 32
  | .panelClockSelWrite src panel _ => sourceOk src && panel < 32
  | .userEvent panel _ => panel < 32
  | .panelResetEnd panel => panel < 32
  | .shuttleSwitch src panel slot _ rivals => sourceOk src && panel < 32 && slot < 8 && rivals.all rivalOk
  | .shuttleStage src panel slot rivals => sourceOk src && panel < 32 && slot < 8 && rivals.all rivalOk
  | .shuttleUnstage src panel slot rivals => sourceOk src && panel < 32 && slot < 8 && rivals.all rivalOk
  | .shuttleSelect src panel slot rivals => sourceOk src && panel < 32 && slot < 8 && rivals.all rivalOk
  | .shuttleRelease src panel _ rivals => sourceOk src && panel < 32 && rivals.all rivalOk
  | .shuttleHold src panel rivals => sourceOk src && panel < 32 && rivals.all rivalOk
  | .shuttleInvalidate src panel slot rivals => sourceOk src && panel < 32 && slot < 8 && rivals.all rivalOk
  | .fabricShuttleReq panel slot _ rivals => panel < 32 && slot < 8 && rivals.all rivalOk
  | .queueArrivalRequest panel rivals => panel < 32 && rivals.all rivalOk
  | .tsliceControlWrite src panel _ => sourceOk src && panel < 32
  | .tsliceRequest panel rivals => panel < 32 && rivals.all rivalOk
  | .tsliceEntryAdvance panel => panel < 32
  | .stagingComplete panel => panel < 32
  | .stageCrcError panel tile frame _ => panel < 32 && tile < 80 && frame < 50
  | .switchCycle panel => panel < 32
  | .readbackFrame panel _ => panel < 32
  | .pressRead tile row _ => tile < 1280 && row < 4096
  | .pressWrite tile row _ => tile < 1280 && row < 4096
  | .pressBudgetGrant => true
  | .bankAdmit bank _ => bank < 1280
  | .pressCompletion tile => tile < 1280
  | .pressRegWrite tile _ _ _ => tile < 1280
  | .wordRead tile tier row word _ => tile < 1280 && tierOk tier && row < 4096 && word < 8
  | .wordWrite tile tier row word _ _ _ => tile < 1280 && tierOk tier && row < 4096 && word < 8
  | .wordCompletion tile tier => tile < 1280 && tierOk tier
  | .baseChannelGrant group => group < 40
  | .bankOwnerWrite src bank _ => sourceOk src && bank < 1280
  | .handoverDrainDone bank => bank < 1280
  | .initEngineRow bank => bank < 1280
  | .repairWriteback group => group < 40
  | .darnMigration bank => bank < 1280
  | .darnInstall src _ => sourceOk src
  | .rinseTick => true
  | .rinseRow bank _ => bank < 1280
  | .splitBankWrite src bank => sourceOk src && bank < 1280
  | .splitEnableWrite src _ => sourceOk src
  | .splitData src data => sourceOk src && lengthOk data
  | .splitCheck src _ => sourceOk src
  | .splitRead src => sourceOk src
  | .splitFoldOverride src _ => sourceOk src
  | .baseSramRead sram _ _ => sram < 6
  | .qmEnableWrite src _ => sourceOk src
  | .qmRebuildDone => true
  | .poolAdd src bank => sourceOk src && bank < 1280
  | .poolRemove src bank => sourceOk src && bank < 1280
  | .queueSetupWrite src queue setup => sourceOk src && queue < 4096 && lengthOk setup
  | .queueEnable src queue => sourceOk src && queue < 4096
  | .queueDisable src queue => sourceOk src && queue < 4096
  | .queueFlush src queue => sourceOk src && queue < 4096
  | .queueClearFlags src queue => sourceOk src && queue < 4096
  | .queueSetupApply link queue => link < 96 && queue < 4096
  | .enqValue link queue data => link < 96 && queue < 4096 && lengthOk data
  | .enqBuffer link queue _ _ => link < 96 && queue < 4096
  | .panelEnqueueCell panel queue _ _ _ data => panel < 32 && queue < 4096 && lengthOk data
  | .mgmtEnqueue queue data => queue < 4096 && lengthOk data
  | .enqueueCommit queue => queue < 4096
  | .deqValue link _ queue _ => link < 96 && queue < 4096
  | .deqBuffer link queue _ _ => link < 96 && queue < 4096
  | .panelDequeueRequest panel queue => panel < 32 && queue < 4096
  | .panelDequeueCell panel => panel < 32
  | .dequeueCommit queue => queue < 4096
  | .queueIdleTimeout queue => queue < 4096
  | .moverEnable link mover _ _ => link < 96 && mover < 16
  | .moverTailWrite link mover _ => link < 96 && mover < 16
  | .moverRetry link mover => link < 96 && mover < 16
  | .moverSkip link mover => link < 96 && mover < 16
  | .moverReset link mover => link < 96 && mover < 16
  | .moverUnit mover => mover < 16
  | .vectorTableWrite link vector _ _ => link < 96 && vector < 4160
  | .vectorDelivery vector => vector < 4160
  | .cxlMemRequest link _ _ _ _ _ _ _ _ _ => link < 96
  | .localDirRequest mover _ _ => mover < 16
  | .dirSetReadReturn _ => true
  | .dirEntryWriteAdmit _ => true
  | .dirSnoopIssue _ _ => true
  | .dirBiResponse link _ _ _ _ => link < 96
  | .dirSnoopTimeout _ _ => true
  | .biconflict link _ _ _ => link < 96
  | .dirEnableWrite src _ => sourceOk src
  | .dirSweepDone => true
  | .dirFlush src _ => sourceOk src
  | .dirPurgePartner src _ => sourceOk src
  | .hostMapWrite src entry _ => sourceOk src && entry < 128
  | .dirBankSlotWrite src slot _ => sourceOk src && slot < 256
  | .trainFull src _ => sourceOk src
  | .trainResume src => sourceOk src
  | .ddrTrainingDone chan _ _ => chan < 8
  | .ddrReadComplete chan _ => chan < 8
  | .ddrRequest _ => true
  | .scrubLine chan _ => chan < 8
  | .ddrCapWindow chan => chan < 8
  | .spdTempPoll chan slot _ => chan < 8 && slot < 2
  | .receiverDetect lane => lane < 96
  | .laneTrainDone lane => lane < 96
  | .laneTrainTimeout lane => lane < 96
  | .laceLinkFormation lane => lane < 96
  | .laneLockTimeout lane => lane < 96
  | .exchangeTimeout link => link < 96
  | .laneRetry src lane _ => sourceOk src && lane < 96
  | .laneDisable src lane _ => sourceOk src && lane < 96
  | .eqRequestReceived lane _ => lane < 96
  | .eqAnswerReceived lane _ => lane < 96
  | .eqAnswerTimeout lane => lane < 96
  | .eqEvaluationDone lane _ _ => lane < 96
  | .markerReceived lane levels _ _ _ => lane < 96 && levelsOk 61 levels
  | .pcieLtssmTransition link _ _ _ _ _ _ _ _ => link < 96
  | .loopbackStart src lane _ => sourceOk src && lane < 96
  | .loopbackStop src lane _ _ => sourceOk src && lane < 96
  | .loopbackDurationEnd lane _ _ => lane < 96
  | .loopbackNoLock lane => lane < 96
  | .eyeCommand src lane _ => sourceOk src && lane < 96
  | .eyeMeasurementDone lane _ _ => lane < 96
  | .laneMarginingCommand lane _ => lane < 96
  | .portConfigWrite src port _ => sourceOk src && port < 6
  | .portReset src port _ => sourceOk src && port < 6
  | .perstAssert port => port < 6
  | .linkLoss link => link < 96
  | .linkUp link => link < 96
  | .rootCfgRead src => sourceOk src
  | .rootCfgWrite src _ => sourceOk src
  | .rootCfgCompletion link _ _ _ _ => link < 96
  | .barRequest link _ _ _ _ _ _ data _ => link < 96 && lengthOk data
  | .atomicopRequest link _ _ _ _ _ _ _ _ => link < 96
  | .pcieConfigRequest link _ _ _ _ _ _ _ => link < 96
  | .deviceCompletionReceive link _ _ _ _ _ data => link < 96 && lengthOk data
  | .completionTimeout link _ => link < 96
  | .ideIntegrityFailure link stream => link < 96 && stream < 5
  | .ideKmKeyProgram link stream slot _ => link < 96 && stream < 5 && slot < 4
  | .shimTxPacket port _ link _ _ _ bytes => port < 6 && link < 96 && lengthOk bytes
  | .shimHoldTimeout port => port < 6
  | .l0pResponse link _ => link < 96
  | .mctpVdmReceive link _ _ _ packet => link < 96 && lengthOk packet
  | .trainingFrameReceive lane levels => lane < 96 && levelsOk 257 levels
  | .laceRateChange lane => lane < 96
  | .capFlitReceive lane flit => lane < 96 && lengthOk flit
  | .laceWrite link flit => link < 96 && lengthOk flit
  | .laceRead link flit => link < 96 && lengthOk flit
  | .laceAtomic link flit => link < 96 && lengthOk flit
  | .laceFlush link flit => link < 96 && lengthOk flit
  | .laceFlushDone link => link < 96
  | .laceMctp link flit => link < 96 && lengthOk flit
  | .laceCompletion link flit => link < 96 && lengthOk flit
  | .laceUserFlit link flit => link < 96 && lengthOk flit
  | .laceShimTxFlit link _ flit => link < 96 && lengthOk flit
  | .laceNullFlit link flit => link < 96 && lengthOk flit
  | .laceBadFlit link _ codewords => link < 96 && codewords.all RxCodeword.wf
  | .laceNakResend link => link < 96
  | .laceNakReceive link flit => link < 96 && lengthOk flit
  | .laceReplayTimeout link => link < 96
  | .laceCreditNull link => link < 96
  | .laceRetrainCommand src link _ => sourceOk src && link < 96
  | .lacePartnerIdle link => link < 96
  | .laceRetrainIdleEnd link => link < 96
  | .laceDozeIdleTimer link => link < 96
  | .laceOffIdleTimer link => link < 96
  | .laceSleepAcked link => link < 96
  | .laceDozeFlit link flit => link < 96 && lengthOk flit
  | .laceOffFlit link flit => link < 96 && lengthOk flit
  | .laceDozeMax link => link < 96
  | .laceWake link _ => link < 96
  | .laceRxReady link flit => link < 96 && lengthOk flit
  | .laceWidthFlit link flit => link < 96 && lengthOk flit
  | .laceNarrowTimeout link => link < 96
  | .laceRequestTimeout link _ => link < 96
  | .loaderLoad src _ => sourceOk src
  | .loaderAbort src => sourceOk src
  | .loaderBootLoad src => sourceOk src
  | .loaderChainSend src _ => sourceOk src
  | .flashPreambleDone header _ => lengthOk header
  | .loadHeader header => lengthOk header
  | .loadFrameRecord record => lengthOk record
  | .loadEndRecord record => lengthOk record
  | .loadSignatureRecord record => lengthOk record
  | .loadVerifyDone _ => true
  | .loadTimeout => true
  | .chainEnvelope data => lengthOk data
  | .salynMessageArrival src message => sourceOk src && lengthOk message
  | .salynRead transport => fourOk transport
  | .salynWrite transport _ => fourOk transport
  | .salynDescribe transport => fourOk transport
  | .salynEnumerate transport => fourOk transport
  | .notifyResponse src _ => sourceOk src
  | .firmwareReply idx sub _ => idx < 65536 && sub < 256
  | .firmwareTimeout idx sub => idx < 65536 && sub < 256
  | .dictionaryWrite src idx sub _ value _ => sourceOk src && idx < 65536 && sub < 256 && lengthOk value
  | .transportSettingApply => true
  | .journalEntryAccept source => journalSource source
  | .journalEntryRead src => sourceOk src
  | .nvJournalEntryRead src => sourceOk src
  | .journalNvCopy => true
  | .seqReserveCommit => true
  | .notifySend target => fourOk target
  | .notifyResend target => fourOk target
  | .alertAckWrite src _ => sourceOk src
  | .udpReassemblyTimeout => true
  | .arpRequest _ => true
  | .icmpEcho _ => true
  | .mctpControlCommand src _ data => sourceOk src && lengthOk data
  | .dynamicAddressAssign addr controller => addr < 128 && controller < 128
  | .lifecycleAdvance src _ => sourceOk src
  | .returnToken src token => sourceOk src && lengthOk token
  | .keyHashWrite src sub hash => sourceOk src && sub < 256 && lengthOk hash
  | .keyRevoke src _ => sourceOk src
  | .fwSvnAdvance src _ => sourceOk src
  | .secPinMaskWrite src _ => sourceOk src
  | .fuseWriteDone _ => true
  | .bsKeyWrite src slot key => sourceOk src && slot < 4 && lengthOk key
  | .fwVerifyAndStart src => sourceOk src
  | .fwClearWindow src => sourceOk src
  | .fwVerifyDone _ => true
  | .fwWindowData src data => sourceOk src && lengthOk data
  | .bootBarWindowWrite _ data => lengthOk data
  | .spdmRequest src _ => sourceOk src
  | .tamper pin => pin < 64
  | .watchdogExpiry => true
  | .coreTrapTimeout => true
  | .thermalSample _ _ _ => true
  | .thermistorRecover t => t < 4
  | .levelRiseConfirm level value => level < 3 && value < 192
  | .levelReleaseConfirm level value => level < 3 && value < 192
  | .sensorDisagreeLatch site => site < 64
  | .disagreeMapWrite src word _ => sourceOk src && word < 8
  | .coolantLossConfirm => true
  | .coolantRestoreConfirm => true
  | .inletHighConfirm => true
  | .inletHighClear => true
  | .levelPointWrite src sub _ => sourceOk src && sub < 256
  | .fraySample => true
  | .frayPeriodicSave => true
  | .nvGroupCommitDone => true
  | .firmwareNvWrite _ _ => true
  | .railOutOfRange monitor => monitor < 24
  | .railInRange monitor => monitor < 24
  | .supplyRemoval rail => rail < 16
  | .resetNAssert => true
  | .coldResetRelease => true
  | .warmNAssert => true
  | .resetCommandCold src => sourceOk src
  | .resetCommandBaseWarm src => sourceOk src
  | .resetCommandPanel src panel => sourceOk src && panel < 32
  | .resetCommandFabric src => sourceOk src
  | .resetTakeHold => true
  | .baseWarmRelease => true
  | .pmbusPoll entry _ _ _ _ _ _ => entry - 1 < 16
  | .pmbAlert _ => true
  | .vcoreSetpointWrite src _ => sourceOk src
  | .vcoreSetpointStep => true
  | .powerEstimate _ _ _ => true
  | .powerCalibration => true
  | .powerHighConfirm => true
  | .processMonitorRead _ _ _ => true
  | .clockDomainStart n => n < 26
  | .pllUnlock n => n < 26
  | .pllRelock n => n < 26
  | .refLoss => true
  | .refRestored => true
  | .fclkFreqWrite src n _ => sourceOk src && n < 8
  | .fclkRelockDone n => n < 8
  | .aonRetrim => true
  | .pllRecalibration n => n < 26
  | .selftestStartMemory src _ => sourceOk src
  | .selftestStartLogic src _ => sourceOk src
  | .selftestStartLane src _ => sourceOk src
  | .selftestStartFuse src _ => sourceOk src
  | .selftestAbort src _ => sourceOk src
  | .memorySliceStart group _ => group < 40
  | .memorySliceEnd group _ _ => group < 40
  | .logicTestEnd panel _ => panel < 32
  | .laneTestEnd _ => true
  | .fuseTestEnd _ => true
  | .pinConfigWrite src n _ => sourceOk src && n < 64
  | .pinHoldWindowEnd n _ _ => n < 64
  | .gpioOutWrite src g _ => sourceOk src && g < 4
  | .gpioOeWrite src g _ => sourceOk src && g < 4
  | .gpioEdge n _ => n < 64
  | .syncCapture n _ => n < 64
  | .edgePendingWrite src g _ => sourceOk src && g < 4
  | .eyeletSelectWrite src k _ => sourceOk src && k < 8
  | .eyeletTrigger t => t < 2
  | .jtagInstructionUpdate _ => true
  | .jtagFuseRead _ => true
  | .jtagFuseProgram _ _ => true
  | .jtagProbeScan => true
  | .coreDebugAccess _ _ _ => true
  | .trst => true
  | .watchdogRestart => true
  | .mgmtBaseChannelAccess _ _ _ _ => true
  | .shimRxPacket port _ link _ _ _ _ bytes _ => port < 6 && link < 96 && lengthOk bytes
  | .wakeLockTimeout link => link < 96
  | .ethLinkChange _ _ => true

end Sys2Proof
end

