-- ==== Sys2Proof/Safety.lean ====
section
/-! DEFINITION. What counts as a safe run, and the predicates that the statements about commands are written with. -/

namespace Sys2Proof.Machine

/-- The canonical form of the memory tier's stored bytes and of its stored check bits: addresses strictly rising, none listed
with the value an unlisted address reads as. -/
def Memory.wf (s : State) : Bool := Tab.wf memDefault s.mem.bytes && Tab.wf defaultCheck s.mem.checks

/-- A write of an object is answered by the row that makes it: firmware runs and has no earlier write of the object open, or does not
serve the object for this source (R358, R359). -/
def State.answersNow (s : State) (src : Source) (idx sub : Nat) : Bool :=
  !s.sec.dead && !s.firmwareBusy idx sub || !firmwareServes src idx sub true

/-- A write from a source to `idx:sub` is served, passes the checks of R13 that stand before the object's own state check, its
journal entry can be written, and no earlier request of the source is unanswered (R347). -/
def State.admits (s : State) (src : Source) (idx sub ty : Nat) (bytes : List Byte) (life fits : Bool) : Bool :=
  s.served src && s.writeStatus idx sub ty bytes life fits = .ok && s.journalOpen && s.answersNow src idx sub && !s.awaits src

/-- A write from a source that programs fuses at 0x1200:sub is served and accepted (R13, R376). -/
def State.takesFuse (s : State) (src : Source) (sub ty : Nat) (bytes : List Byte) : Bool :=
  s.served src && s.answersNow src 0x1200 sub
    && (s.countRequest src).fuseStatusOf ((s.countRequest src).fuseRule sub bytes) sub ty bytes = .ok

/-- The journal entry of an accepted write that programs fuses (R376). -/
def State.fuseEntry (s : State) (src : Source) (sub ty : Nat) (bytes : List Byte) : JRec :=
  ((s.countRequest src).fuseRule sub bytes).entry src sub ty bytes .ok

/-- A command that needs the memory tier for a requester is taken at once: its way is open and none of that requester waits
before it (R107). -/
def State.goes (s : State) (ready : Bool) (code : Nat) : Bool := ready && !s.stalled.any (fun x => x.1 = code)

/-- No other dictionary write is among the requests of a SHUT cycle (R22). -/
def dictionaryAlone (rivals : List Rival) : Bool := rivals.all (fun r => r.kind ≠ 1)

/-- The queue manager's map and pool after a rebuild (R149, R150). -/
def State.rebuilt (s : State) : State := ((State.rebuildMap { s with qm := { s.qm with rebuilding := false, used := [] } }).markCells true s.qm.accepted).drainAll

/-- The last thing the device sent is the answer OK to a source, where its transport is still served (R350). -/
def State.saidOk (t : State) (src : Source) : Prop := t.served src = true → t.out.getLast? = some (.status src 0)

/-- A read from a source of the object at `idx:sub` reaches the object and is answered at once: no earlier request of the source is
unanswered, and firmware has not stopped under an object it serves (R347, R358). -/
def State.reads (s : State) (src : Source) (idx sub : Nat) : Bool :=
  s.served src && (s.fwRuns || bootObject idx sub false) && !s.awaits src && (!s.sec.dead || !firmwareServes src idx sub false)

/-- What a message for a request's source is sent as (R351–R354): MCTP packets on I3C or to a requester by ID, a UDP datagram in IPv4
packets, or, for firmware, the engine's own output. A Lace link's type 7 flits are of its queue. -/
def State.sends (s : State) (r : SalynReq) (m : List Byte) : List Out :=
  let ip := bits r.src.addr 47 16
  let l := [0x7E, 0x1F, 0x2C, 0x53] ++ m
  let packets := mctpPackets (bits r.src.addr 15 8) (s.eid (mediumOf r.src)) (r.mtag % 8) 0 true l l.length
  match r.src.code with
  | 0x01 => [.i3c packets]
  | 0x02 => packets.map (Out.vdm (r.src.addr % 128) (s.spid (r.src.addr % 128)) (bits r.src.addr 31 16))
  | 0x03 =>
    (ipPackets (s.rd 0x1100 5) ip (s.freeNow % 65536) (udpDatagram (s.rd 0x1100 5) ip 20731 (r.src.addr % 65536) m)).map
      (Out.ip (s.hop ip))
  | _ => [.message r.src m]

/-- What the answer to an open request sends. -/
def State.sendsFor (s : State) (o : OpenReq) (status : Nat) (body : List Byte) : List Out :=
  match o.says status body with
  | .message _ m => s.sends o.req m
  | x => [x]

/-- A source that is not the partner of a Lace link. -/
def State.offLace (s : State) (src : Source) : Bool := src.code ≠ 2 || !s.isLace (src.addr % 128)

/-- The sum of the root of a field to the power `k·i` over the positions `i` below `n` whose bit of `x` is 1 (R122). -/
def gfSum (w poly k x : Nat) : Nat → Nat
  | 0 => 0
  | n + 1 => (if x.testBit n then gfShift w poly (k * n) 1 else 0) ^^^ gfSum w poly k x n

/-- How many of the low `n` bits of two numbers differ. -/
def distance (n a b : Nat) : Nat := ((List.range n).filter (fun i => (a ^^^ b).testBit i)).length

/-- How many turns after the requester served last the code `c` comes in its group's rotation (R109). -/
def State.turns (s : State) (g c : Nat) : Nat :=
  (c - 0x40 + 5 - (Tab.look (fun _ => 0x44) s.mem.lastServed g - 0x40 + 1) % 5) % 5

/-- The last thing the device sent is a status to a source, where its transport is served (R350). -/
def State.said (t : State) (src : Source) (st : Status) : Prop := t.served src = true → t.out.getLast? = some (.status src st.code)

/-- The states from BOOT to FAULT, from which a reset or a loss of VCC_BASE acts (R34). -/
def DevState.powered (d : DevState) : Bool := d ≠ .off && d ≠ .aon

/-- The moves of the table of R34, and the two in which an entry to MANAGED finds a stop condition in force and goes on to
QUIESCING at once (R397, R433). -/
def mayMove (a b : DevState) : Bool :=
  a = b || b = .off ||
  match a, b with
  | .off, .aon | .aon, .boot | .boot, .awaitFw | .awaitFw, .managed | .awaitFw, .quiescing | .managed, .operational
  | .managed, .quiescing | .operational, .quiescing | .quiescing, .safeStop | .safeStop, .managed
  | .safeStop, .quiescing => true
  | x, .boot => x.powered
  | x, .aon => x.powered
  | x, .fault => x.powered
  | _, _ => false

/-- An orderly stop is in progress only in QUIESCING, outside a reset (R403). -/
def State.stopFits (s : State) : Prop := s.stop.step ≠ 0 → s.dev.state = .quiescing ∧ s.dev.held = false

/-- No hold of an event source or of an internal journal source lists more than its 8 entries (R29, R362). -/
def State.holdsFit (s : State) : Prop :=
  (∀ k, (s.hold k).recs.length ≤ 8) ∧ (∀ k, (s.jhold k).recs.length ≤ 8)

/-- A flit is one that an ACTIVE Lace link accepts now (R296, R297, R300): its CRC is right, it is sequenced with the SEQ expected,
its header starts no retrain, a buffer of its VC is free, its type is on its own VC, and it is for this partner. -/
def State.arrives (s : State) (l : Nat) (f : List Byte) : Bool :=
  let h := flitHead f
  let u := s.takeHead l h
  (s.link l).active && s.isLace l && flitGood f && !flitPlain f && fSeq h = (s.link l).lace.rxNext && (u.link l).active
    && !(2 ≤ fTy h && vcBuffers (fVc h) ≤ vcCount (u.link l).lace.held (fVc h)) && flitFits h
    && (!(2 ≤ fTy h && fTy h ≤ 7) || fPartner h = s.rd 0x5111 l) && s.portClock l

/-- An accepted flit that is not held: it is performed at once (R294). -/
def State.takesFlit (s : State) (l : Nat) (f : List Byte) : Bool :=
  s.arrives l f && !(s.takeHead l (flitHead f)).holdsRequests l f

/-! What a command leaves alone. -/

/-- The parts of the state that a frame is stated over; `registers` are the dictionary registers. -/
inductive Facet where
  | panels
  | arrivals
  | links
  | throttle
  | clkLost
  | memKept
  | lifecycle
  | warmRuns
  | dir
  | lanes
  | testLanes
  | bootFn
  | ld
  | st
  | shims
  | cfg
  | hdm
  | ras
  | block
  | errLog
  | stalled
  | ideKeys
  | bsKeys
  | th
  | stop
  | nv
  | wear
  | pwr
  | pins
  | sal
  | pub
  | out
  | free
  | mode
  | stopSignal
  | time
  | due
  | log
  | events
  | resets
  | ring
  | reserve
  | sources
  | waiting
  | copier
  | bytes
  | banks
  | ports
  | channels
  | hostReads
  | pregs
  | repairs
  | pool
  | queues
  | pages
  | panelQueues
  | vectors
  | movers
  | ddrLines
  | ddrChans
  | fuses
  | fuseWrite
  | latched
  | window
  | firmware
  | sessions
  | core
  | registers
  deriving DecidableEq, Repr

/-- A part is the same in two states. -/
def Facet.same (s t : State) : Facet → Prop
  | .panels => t.panels = s.panels
  | .arrivals => t.arrivals = s.arrivals
  | .links => t.links = s.links
  | .throttle => t.throttle = s.throttle
  | .clkLost => t.clkLost = s.clkLost
  | .memKept => t.memKept = s.memKept
  | .lifecycle => t.lifecycle = s.lifecycle
  | .warmRuns => t.warmRuns = s.warmRuns
  | .dir => t.dir = s.dir
  | .lanes => t.lanes = s.lanes
  | .testLanes => t.testLanes = s.testLanes
  | .bootFn => t.bootFn = s.bootFn
  | .ld => t.ld = s.ld
  | .st => t.st = s.st
  | .shims => t.shims = s.shims
  | .cfg => t.cfg = s.cfg
  | .hdm => t.hdm = s.hdm
  | .ras => t.ras = s.ras
  | .block => t.block = s.block
  | .errLog => t.errLog = s.errLog
  | .stalled => t.stalled = s.stalled
  | .ideKeys => t.ideKeys = s.ideKeys
  | .bsKeys => t.bsKeys = s.bsKeys
  | .th => t.th = s.th
  | .stop => t.stop = s.stop
  | .nv => t.nv = s.nv
  | .wear => t.wear = s.wear
  | .pwr => t.pwr = s.pwr
  | .pins => t.pins = s.pins
  | .sal => t.sal = s.sal
  | .pub => t.pub = s.pub
  | .out => t.out = s.out
  | .free => t.freeCount = s.freeCount
  | .mode => t.dev.state = s.dev.state
  | .stopSignal => t.dev.stopAsserted = s.dev.stopAsserted
  | .time => t.dev.aonTime = s.dev.aonTime
  | .due => t.dev.publishDue = s.dev.publishDue
  | .log => t.dev.evtLog = s.dev.evtLog ∧ t.dev.evtCount = s.dev.evtCount
  | .events => t.dev.evtHolds = s.dev.evtHolds ∧ t.dev.evtLost = s.dev.evtLost
  | .resets => t.dev.held = s.dev.held ∧ t.dev.resetLow = s.dev.resetLow ∧ t.dev.resetDue = s.dev.resetDue
  | .ring => t.jrn.ring = s.jrn.ring ∧ t.jrn.count = s.jrn.count ∧ t.jrn.seq = s.jrn.seq
  | .reserve => t.jrn.reserve = s.jrn.reserve
  | .sources => t.jrn.lost = s.jrn.lost ∧ t.jrn.holds = s.jrn.holds ∧ t.jrn.bootLost = s.jrn.bootLost
  | .waiting => t.jrn.waiting = s.jrn.waiting
  | .copier => t.jrn.copied = s.jrn.copied ∧ t.jrn.copyHeld = s.jrn.copyHeld
  | .bytes => t.mem.bytes = s.mem.bytes ∧ t.mem.checks = s.mem.checks ∧ t.mem.written = s.mem.written
  | .banks => t.mem.banks = s.mem.banks
  | .ports => t.mem.press = s.mem.press ∧ t.mem.word2 = s.mem.word2 ∧ t.mem.word4 = s.mem.word4
  | .channels => t.mem.channel = s.mem.channel ∧ t.mem.atBank = s.mem.atBank ∧ t.mem.lastServed = s.mem.lastServed ∧ t.mem.rotation = s.mem.rotation ∧ t.mem.age = s.mem.age ∧ t.mem.cycle = s.mem.cycle
  | .hostReads => t.mem.hostReads = s.mem.hostReads
  | .pregs => t.mem.preg = s.mem.preg
  | .repairs => t.mem.repairs = s.mem.repairs ∧ t.mem.trackers = s.mem.trackers ∧ t.mem.barred = s.mem.barred ∧ t.mem.sramBad = s.mem.sramBad
  | .pool => t.qm.rebuilding = s.qm.rebuilding ∧ t.qm.slots = s.qm.slots ∧ t.qm.used = s.qm.used ∧ t.qm.links = s.qm.links ∧ t.qm.exhausted = s.qm.exhausted
  | .queues => t.qm.queues = s.qm.queues
  | .pages => t.qm.pages = s.qm.pages ∧ t.qm.staging = s.qm.staging ∧ t.qm.cmdStatus = s.qm.cmdStatus
  | .panelQueues => t.qm.panelEnq = s.qm.panelEnq ∧ t.qm.panelDeq = s.qm.panelDeq ∧ t.qm.rot = s.qm.rot
  | .vectors => t.qm.vectors = s.qm.vectors ∧ t.qm.blocked = s.qm.blocked
  | .movers => t.qm.movers = s.qm.movers
  | .ddrLines => t.ddr.lines = s.ddr.lines ∧ t.ddr.seen = s.ddr.seen
  | .ddrChans => t.ddr.chans = s.ddr.chans ∧ t.ddr.issued = s.ddr.issued
  | .fuses => t.sec.fuses = s.sec.fuses
  | .fuseWrite => t.sec.op = s.sec.op ∧ t.sec.jtagFuse = s.sec.jtagFuse
  | .latched => t.sec.keys = s.sec.keys ∧ t.sec.revoked = s.sec.revoked ∧ t.sec.minSvn = s.sec.minSvn ∧ t.sec.challenge = s.sec.challenge ∧ t.sec.trngBad = s.sec.trngBad ∧ t.sec.identity = s.sec.identity
  | .window => t.sec.window = s.sec.window
  | .firmware => t.sec.closed = s.sec.closed ∧ t.sec.verifying = s.sec.verifying ∧ t.sec.digest = s.sec.digest ∧ t.sec.svn = s.sec.svn ∧ t.sec.result = s.sec.result ∧ t.sec.lastStatus = s.sec.lastStatus
  | .sessions => t.sec.sessions = s.sec.sessions
  | .core => t.sec.trap = s.sec.trap ∧ t.sec.dead = s.sec.dead
  | .registers => t.reg = s.reg

/-- What a command may change: parts, and registers by index and subindex (`none`: every subindex). -/
structure Footprint where
  parts : List Facet
  regs : List (Nat × Option Nat)
  deriving DecidableEq, Repr

/-- A footprint of parts and registers. -/
abbrev Footprint.of (ps : List Facet) (rs : List (Nat × Option Nat)) : Footprint := ⟨ps, rs⟩

/-- Everything that either may change. -/
def Footprint.join (a b : Footprint) : Footprint := ⟨a.parts ++ b.parts, a.regs ++ b.regs⟩

/-- Everything that a footprint or one of a list may change. -/
def Footprint.plus (a : Footprint) (l : List Footprint) : Footprint := l.foldl .join a

/-- A register is in a footprint. -/
def Footprint.names (f : Footprint) (idx sub : Nat) : Bool :=
  f.parts.contains .registers || f.regs.any (fun r => r.1 = idx && (r.2 = none || r.2 = some (sub % 256)))

/-- Nothing outside a footprint differs between two states: every part it does not list is the same, every register it does not
name reads the same, and the waiting commands are the same. -/
def Footprint.keeps (f : Footprint) (s t : State) : Prop :=
  (∀ p : Facet, p ∉ f.parts → p ≠ .registers → p.same s t) ∧
  (∀ idx sub, f.names idx sub = false → t.rd idx sub = s.rd idx sub) ∧ t.pending = s.pending

/-- An answer to a dictionary write: the entry, the answer or the request itself waiting, and the request count. -/
def Footprint.answered : Footprint := .of [.sal, .out, .due, .ring, .waiting] [(0x1101, none)]

/-- What reading words of the memory tier may count and repair. -/
def Footprint.wordRead : Footprint := .of [.due, .events, .banks, .repairs] [(0x4300, some 0x7), (0x4300, some 0x8),
  (0x4300, some 0x9), (0x4300, some 0xC), (0x4300, some 0xD), (0x4301, none), (0x4302, none), (0x4402, none)]

/-- What writing words of the memory tier may change and count. -/
def Footprint.wordWrite : Footprint := .of [.due, .events, .bytes] [(0x4000, some 0x5), (0x4000, some 0x6), (0x4300, some
  0xA), (0x4310, some 0x7)]

/-- What reading words that hold poison may draw and count. -/
def Footprint.poisonRead : Footprint := .of [.free, .due, .events] [(0x4000, some 0x4), (0x4001, none), (0x4300, some
  0xB)]

/-- What losing a link settles. -/
def Footprint.linkLost : Footprint := .of [.panels, .links, .ld, .shims, .cfg, .errLog, .ideKeys, .sal, .out, .due,
  .events, .channels, .hostReads, .pool, .queues, .vectors, .movers] [(0x3000, some 0x6), (0x3000, some 0x8), (0x5120,
  some 0x3)]

/-- What the assertion of the orderly-stop signal begins. -/
def Footprint.stopBegun : Footprint := .of [.panels, .links, .lanes, .testLanes, .ld, .st, .stop, .nv, .out, .free, .mode,
  .stopSignal, .due, .events, .copier, .bytes, .banks, .repairs] [(0x1010, some 0x4), (0x3000, some 0x6), (0x3000, some
  0x8), (0x500B, none), (0x500C, none), (0x500D, none)]

/-- What a reset of T0 sets to its reset values. -/
def Footprint.coldClear : Footprint := .of [.panels, .arrivals, .links, .throttle, .clkLost, .dir, .lanes, .testLanes,
  .bootFn, .ld, .st, .shims, .cfg, .errLog, .ideKeys, .bsKeys, .stop, .nv, .pwr, .pins, .sal, .out, .stopSignal, .due,
  .events, .resets, .sources, .waiting, .pool, .queues, .pages, .panelQueues, .vectors, .movers, .ddrLines, .ddrChans,
  .fuses, .fuseWrite, .latched, .window, .firmware, .sessions, .core, .registers] []

/-- What each command may change, by the rule of its row: every other part and register is left alone. -/
def touches : Instr → Footprint
  | .stateCommandEnable .. => .plus (.of [.panels, .links, .dir, .shims, .mode, .bytes, .channels, .hostReads, .ddrChans]
      [(0x3202, none), (0x4000, some 0x5), (0x4300, some 0xA), (0x5200, some 0x8), (0x5200, some 0x9), (0x5200, some 0xA),
      (0x5200, some 0xE), (0x7802, some 0x3)]) [.answered, .wordRead, .poisonRead]
  | .stateCommandStop .. => .plus (.of [] [(0x500A, none)]) [.answered, .stopBegun]
  | .stateCommandClear .. => .plus (.of [.throttle, .th, .pwr, .ddrChans] [(0x500A, none), (0x511A, none)]) [.answered,
      .stopBegun]
  | .stopMoversIdle => .of [.stop] []
  | .ddrSelfRefreshDone => .of [.panels, .arrivals, .links, .throttle, .clkLost, .dir, .lanes, .testLanes, .bootFn, .ld, .st,
      .shims, .cfg, .hdm, .ras, .block, .errLog, .ideKeys, .bsKeys, .stop, .nv, .pwr, .pins, .sal, .out, .stopSignal, .due,
      .events, .resets, .sources, .waiting, .repairs, .pool, .queues, .pages, .panelQueues, .vectors, .movers, .ddrChans,
      .fuses, .fuseWrite, .latched, .window, .firmware, .sessions, .core, .registers] []
  | .stopNvIdle => .plus (.of [.throttle, .dir, .lanes, .hdm, .ras, .block, .stalled, .th, .stop, .nv, .mode, .stopSignal,
      .sources, .copier, .ports, .pages, .panelQueues, .ddrChans] [(0x1010, some 0x4), (0x3202, none), (0x500A, none),
      (0x500B, none), (0x500C, none), (0x500D, none), (0x511A, none), (0x6000, some 0x8), (0x6000, some 0xA), (0x7802, some
      0x3)]) [.wordRead, .wordWrite, .poisonRead, .linkLost]
  | .stopStep3Forced => .plus (.of [.links, .stop, .out, .free, .channels, .hostReads, .pool, .queues, .vectors, .movers]
      [(0x4300, some 0xB), (0x7802, some 0x3)]) [.wordRead, .wordWrite]
  | .stopWindowExpired => .plus (.of [.throttle, .dir, .lanes, .hdm, .ras, .block, .stalled, .th, .stop, .nv, .mode,
      .stopSignal, .sources, .copier, .ports, .pages, .panelQueues, .ddrChans] [(0x1010, some 0x4), (0x3202, none), (0x500A,
      none), (0x500B, none), (0x500C, none), (0x500D, none), (0x511A, none), (0x6000, some 0x8), (0x6000, some 0xA),
      (0x7802, some 0x3)]) [.wordRead, .wordWrite, .poisonRead, .linkLost]
  | .thermtrip => .plus (.of [.throttle, .dir, .lanes, .hdm, .ras, .block, .stalled, .th, .stop, .nv, .free, .mode,
      .stopSignal] [(0x1010, some 0x4), (0x4300, some 0xB), (0x500A, none), (0x500B, none), (0x500C, none), (0x500D, none),
      (0x511A, none), (0x7802, some 0x3)]) [.wordRead, .wordWrite, .linkLost]
  | .vccBaseLoss => .plus (.of [.arrivals, .clkLost, .memKept, .lifecycle, .warmRuns, .dir, .lanes, .testLanes, .bootFn, .st,
      .hdm, .ras, .block, .stalled, .bsKeys, .stop, .nv, .pwr, .pins, .mode, .stopSignal, .resets, .sources, .waiting,
      .ports, .pregs, .pages, .panelQueues, .ddrLines, .ddrChans, .fuses, .fuseWrite, .latched, .window, .firmware,
      .sessions, .core, .registers] []) [.wordRead, .wordWrite, .poisonRead, .linkLost]
  | .porAssert => .plus (.of [.memKept, .lifecycle, .warmRuns, .hdm, .ras, .block, .stalled, .th, .wear, .pub, .time, .log,
      .reserve, .ports, .pregs] []) [.answered, .wordRead, .wordWrite, .poisonRead, .linkLost, .stopBegun, .coldClear]
  | .porRelease .. => .of [.wear, .mode, .due, .events, .ring, .reserve] [(0x1100, some 0x1), (0x2020, some 0x2), (0x2300,
      none), (0x2306, some 0x3), (0x3000, some 0xC)]
  | .bootEntry => .of [.warmRuns, .th, .nv, .pwr, .out, .mode, .events, .resets, .sources, .copier] []
  | .bootRomDone .. => .plus (.of [.throttle, .dir, .lanes, .bootFn, .hdm, .ras, .block, .stalled, .stop, .nv, .wear, .free,
      .mode, .stopSignal, .copier, .latched] [(0x1010, some 0x4), (0x2303, none), (0x2304, none), (0x2305, none), (0x2306,
      some 0x3), (0x4300, some 0xB), (0x500A, none), (0x500B, none), (0x500C, none), (0x500D, none), (0x511A, none),
      (0x7000, none), (0x7802, some 0x3)]) [.wordRead, .wordWrite, .linkLost]
  | .eventRecordAccept .. => .of [.sal, .due, .log, .events, .vectors] [(0x1112, some 0x1)]
  | .timeMark => .of [.time, .events] []
  | .eventRecordRead .. => .of [.sal, .out, .due] [(0x1012, some 0x2), (0x1101, none)]
  | .digestPublication => .of [.pub, .due] []
  | .tileMemClear .. => .plus (.of [.panels] []) [.answered]
  | .tileMemClearDone .. => .of [.panels, .links, .shims, .out, .due, .events] [(0x3202, none)]
  | .panelClockSelWrite .. => .plus (.of [] [(0x3200, none)]) [.answered]
  | .userEvent .. => .of [.due, .events] [(0x3204, none)]
  | .panelResetEnd .. => .of [.panels] []
  | .shuttleSwitch _ _ _ _ [] => .plus (.of [.panels] []) [.answered]
  | .shuttleSwitch .. => .plus (.of [.panels, .arrivals, .events, .sources] [(0x3107, none), (0x3109, none)]) [.answered]
  | .shuttleStage _ _ _ [] => .plus (.of [.panels] []) [.answered]
  | .shuttleStage .. => .plus (.of [.panels, .arrivals, .events, .sources] [(0x3107, none), (0x3109, none)]) [.answered]
  | .shuttleUnstage _ _ _ [] => .plus (.of [.panels] []) [.answered]
  | .shuttleUnstage .. => .plus (.of [.panels, .arrivals, .events, .sources] [(0x3107, none), (0x3109, none)]) [.answered]
  | .shuttleSelect _ _ _ [] => .plus (.of [.panels] []) [.answered]
  | .shuttleSelect .. => .plus (.of [.panels, .arrivals, .events, .sources] [(0x3107, none), (0x3109, none)]) [.answered]
  | .shuttleRelease _ _ _ [] => .plus (.of [.panels, .links, .shims, .events] [(0x3202, none)]) [.answered]
  | .shuttleRelease .. => .plus (.of [.panels, .arrivals, .links, .shims, .events, .sources] [(0x3107, none), (0x3109, none),
      (0x3202, none)]) [.answered]
  | .shuttleHold _ _ [] => .plus (.of [.panels, .links, .sources, .ports, .channels, .hostReads, .pool, .queues, .pages,
      .panelQueues] [(0x3202, none), (0x6000, some 0x8), (0x6000, some 0xA), (0x7802, some 0x3)]) [.answered, .wordRead,
      .wordWrite, .poisonRead]
  | .shuttleHold .. => .plus (.of [.panels, .arrivals, .links, .sources, .ports, .channels, .hostReads, .pool, .queues,
      .pages, .panelQueues] [(0x3107, none), (0x3109, none), (0x3202, none), (0x6000, some 0x8), (0x6000, some 0xA),
      (0x7802, some 0x3)]) [.answered, .wordRead, .wordWrite, .poisonRead]
  | .shuttleInvalidate _ _ _ [] => .plus (.of [.panels, .events] []) [.answered]
  | .shuttleInvalidate .. => .plus (.of [.panels, .arrivals, .events, .sources] [(0x3107, none), (0x3109, none)]) [.answered]
  | .fabricShuttleReq _ _ _ [] => .of [.panels, .arrivals, .due, .events, .sources] [(0x3107, none), (0x3109, none)]
  | .fabricShuttleReq .. => .plus (.of [.panels, .arrivals, .events, .sources] [(0x3107, none), (0x3109, none)]) [.answered]
  | .queueArrivalRequest _ [] => .of [.panels, .arrivals, .due, .events, .sources] [(0x3107, none), (0x3109, none)]
  | .queueArrivalRequest .. => .plus (.of [.panels, .arrivals, .events, .sources] [(0x3107, none), (0x3109, none)])
      [.answered]
  | .tsliceControlWrite .. => .plus (.of [.panels] [(0x3105, none)]) [.answered]
  | .tsliceRequest _ [] => .of [.panels, .arrivals, .due, .events, .sources] [(0x3107, none), (0x3109, none)]
  | .tsliceRequest .. => .plus (.of [.panels, .arrivals, .events, .sources] [(0x3107, none), (0x3109, none)]) [.answered]
  | .tsliceEntryAdvance .. => .of [.panels, .due] [(0x3105, none)]
  | .stagingComplete .. => .of [.panels, .links, .shims, .out, .due, .events] [(0x3202, none)]
  | .stageCrcError .. => .of [.panels, .due, .events] []
  | .switchCycle .. => .of [.panels, .out, .free, .due, .events, .ports] [(0x3106, none), (0x3202, none)]
  | .readbackFrame .. => .of [.panels, .due, .events] [(0x310A, none)]
  | .pressRead .. => .of [.ports] []
  | .pressWrite .. => .of [.ports] []
  | .pressBudgetGrant => .of [.due, .ports, .channels] [(0x4000, some 0x8)]
  | .bankAdmit .. => .plus (.of [.links, .out, .ports, .channels, .hostReads, .pool] [(0x4000, some 0x7)]) [.wordRead,
      .wordWrite, .poisonRead]
  | .pressCompletion .. => .of [.out, .due, .ports, .pregs] [(0x3108, none)]
  | .pressRegWrite .. => .of [.out, .due, .ports, .pregs] [(0x3108, none), (0x4000, some 0x9)]
  | .wordRead .. => .of [.ports] []
  | .wordWrite .. => .of [.ports] []
  | .wordCompletion .. => .of [.out, .due, .ports, .pregs] [(0x3108, none)]
  | .baseChannelGrant .. => .of [.links, .out, .free, .due, .events, .channels, .hostReads, .repairs] [(0x4000, some 0x5)]
  | .bankOwnerWrite .. => .plus (.of [.banks] []) [.answered]
  | .handoverDrainDone .. => .of [.due, .events, .bytes, .banks, .repairs] []
  | .initEngineRow .. => .of [.events, .bytes, .banks] []
  | .repairWriteback .. => .of [.due, .bytes, .repairs] [(0x4300, some 0xA), (0x4300, some 0xB)]
  | .darnMigration .. => .plus (.of [.free, .bytes] [(0x7802, some 0x3)]) [.wordRead]
  | .darnInstall .. => .plus (.of [.banks] []) [.answered]
  | .rinseTick => .of [.due, .events, .banks] [(0x4300, some 0xE), (0x4303, none)]
  | .rinseRow .. => .plus (.of [.bytes, .pool] [(0x4300, some 0xE), (0x4300, some 0x10), (0x4303, none)]) [.wordRead,
      .poisonRead]
  | .splitBankWrite .. => .plus (.of [] [(0x4310, some 0x1)]) [.answered]
  | .splitEnableWrite .. => .plus (.of [] [(0x4310, some 0x2)]) [.answered]
  | .splitData .. => .plus (.of [.stalled, .bytes] []) [.answered]
  | .splitCheck .. => .plus (.of [.stalled, .bytes] []) [.answered]
  | .splitRead .. => .plus (.of [.stalled, .sal, .out, .free] [(0x1101, none), (0x4000, some 0x4), (0x4000, some 0x5),
      (0x4001, none)]) [.wordRead]
  | .splitFoldOverride .. => .plus (.of [] [(0x4310, some 0x7)]) [.answered]
  | .baseSramRead .. => .of [.free, .due, .events, .repairs, .core] [(0x4320, none), (0x4321, none)]
  | .qmEnableWrite .. => .plus (.of [.links, .stalled, .sources, .channels, .hostReads, .pool, .queues, .pages, .panelQueues]
      [(0x6000, some 0x1), (0x6000, some 0x8), (0x7802, some 0x3)]) [.answered, .wordRead, .wordWrite, .poisonRead]
  | .qmRebuildDone => .plus (.of [.links, .out, .free, .channels, .hostReads, .pool, .queues, .vectors] [(0x4300, some 0xB),
      (0x7802, some 0x3)]) [.wordRead, .wordWrite]
  | .poolAdd .. => .plus (.of [.links, .stalled, .free, .channels, .hostReads, .pool] [(0x4300, some 0xB), (0x7802, some
      0x3)]) [.answered, .wordRead, .wordWrite]
  | .poolRemove .. => .plus (.of [.links, .stalled, .free, .channels, .hostReads, .pool] [(0x4300, some 0xB), (0x7802, some
      0x3)]) [.answered, .wordRead, .wordWrite]
  | .queueSetupWrite .. => .plus (.of [.links, .stalled, .free, .channels, .hostReads, .queues] [(0x4300, some 0xB), (0x7802,
      some 0x3)]) [.answered, .wordRead, .wordWrite]
  | .queueEnable .. => .plus (.of [.links, .stalled, .free, .channels, .hostReads, .queues] [(0x4300, some 0xB), (0x7802, some
      0x3)]) [.answered, .wordRead, .wordWrite]
  | .queueDisable .. => .plus (.of [.links, .stalled, .free, .channels, .hostReads, .queues] [(0x4300, some 0xB), (0x7802,
      some 0x3)]) [.answered, .wordRead, .wordWrite]
  | .queueFlush .. => .plus (.of [.links, .stalled, .sources, .channels, .hostReads, .pool, .queues, .pages, .panelQueues]
      [(0x6000, some 0x8), (0x6000, some 0xC), (0x7802, some 0x3)]) [.answered, .wordRead, .wordWrite, .poisonRead]
  | .queueClearFlags .. => .plus (.of [.links, .stalled, .free, .channels, .hostReads, .queues] [(0x4300, some 0xB), (0x7802,
      some 0x3)]) [.answered, .wordRead, .wordWrite]
  | .queueSetupApply .. => .plus (.of [.links, .stalled, .out, .sources, .channels, .hostReads, .pool, .queues, .pages,
      .panelQueues] [(0x5116, none), (0x6000, some 0x8), (0x6000, some 0xC), (0x7802, some 0x3)]) [.wordRead, .wordWrite,
      .poisonRead]
  | .enqValue .. => .plus (.of [.links, .stalled, .out, .free, .sources, .channels, .hostReads, .pool, .queues, .pages,
      .panelQueues] [(0x4300, some 0xB), (0x5116, none), (0x6000, some 0x8), (0x7802, some 0x3)]) [.wordRead, .wordWrite]
  | .enqBuffer .. => .plus (.of [.links, .stalled, .out, .sources, .channels, .hostReads, .pool, .queues, .pages,
      .panelQueues] [(0x5116, none), (0x6000, some 0x8), (0x7802, some 0x3)]) [.wordRead, .wordWrite, .poisonRead]
  | .panelEnqueueCell .. => .plus (.of [.links, .out, .free, .sources, .channels, .hostReads, .pool, .queues, .panelQueues]
      [(0x4300, some 0xB), (0x6000, some 0x8), (0x7802, some 0x3)]) [.wordRead, .wordWrite]
  | .mgmtEnqueue .. => .plus (.of [.links, .stalled, .out, .free, .sources, .channels, .hostReads, .pool, .queues,
      .panelQueues] [(0x4300, some 0xB), (0x6000, some 0x8), (0x7802, some 0x3)]) [.wordRead, .wordWrite]
  | .enqueueCommit .. => .plus (.of [.arrivals, .links, .out, .sources, .channels, .hostReads, .pool, .queues, .pages,
      .panelQueues, .vectors, .movers] [(0x6000, some 0x8), (0x7802, some 0x3)]) [.wordRead, .wordWrite, .poisonRead]
  | .deqValue .. => .plus (.of [.links, .stalled, .out, .sources, .channels, .hostReads, .queues, .pages] [(0x5116, none),
      (0x6000, some 0x8), (0x7802, some 0x3)]) [.wordRead, .wordWrite, .poisonRead]
  | .deqBuffer .. => .plus (.of [.links, .stalled, .out, .sources, .channels, .hostReads, .queues, .pages] [(0x5116, none),
      (0x6000, some 0x8), (0x7802, some 0x3)]) [.wordRead, .wordWrite, .poisonRead]
  | .panelDequeueRequest .. => .plus (.of [.links, .out, .sources, .channels, .hostReads, .queues, .pages, .panelQueues]
      [(0x6000, some 0x8), (0x7802, some 0x3)]) [.wordRead, .wordWrite, .poisonRead]
  | .panelDequeueCell .. => .plus (.of [.links, .out, .channels, .hostReads, .queues, .panelQueues] [(0x7802, some 0x3)])
      [.wordRead, .wordWrite, .poisonRead]
  | .dequeueCommit .. => .plus (.of [.links, .out, .sources, .channels, .hostReads, .pool, .queues, .pages, .panelQueues]
      [(0x6000, some 0x8), (0x6000, some 0x9), (0x7802, some 0x3)]) [.wordRead, .wordWrite, .poisonRead]
  | .queueIdleTimeout .. => .plus (.of [.links, .out, .free, .channels, .hostReads, .queues, .vectors] [(0x4300, some 0xB),
      (0x7802, some 0x3)]) [.wordRead, .wordWrite]
  | .moverEnable .. => .plus (.of [.links, .out, .free, .channels, .hostReads, .pool, .queues, .vectors, .movers] [(0x4300,
      some 0xB), (0x5116, none), (0x7802, some 0x3)]) [.wordRead, .wordWrite]
  | .moverTailWrite .. => .of [.due, .movers] [(0x5116, none)]
  | .moverRetry .. => .of [.due, .movers] [(0x5116, none)]
  | .moverSkip .. => .plus (.of [.links, .stalled, .out, .channels, .hostReads, .pool, .queues, .movers] [(0x5116, none),
      (0x6000, some 0x9), (0x7802, some 0x3)]) [.wordRead, .wordWrite, .poisonRead]
  | .moverReset .. => .of [.due, .movers] [(0x5116, none)]
  | .moverUnit .. => .plus (.of [.links, .out, .sources, .channels, .hostReads, .pool, .queues, .pages, .panelQueues,
      .vectors, .movers] [(0x6000, some 0x8), (0x7802, some 0x3)]) [.wordRead, .wordWrite, .poisonRead]
  | .vectorTableWrite .. => .of [.due, .vectors] [(0x5116, none)]
  | .vectorDelivery .. => .of [.links, .out, .due, .events, .repairs, .vectors] [(0x6100, some 0x2)]
  | .cxlMemRequest .. => .of [.dir, .errLog, .out, .free, .due, .events, .repairs, .ddrChans] [(0x5113, none), (0x5114, none),
      (0x5117, none), (0x5200, some 0xA), (0x5200, some 0x10)]
  | .localDirRequest .. => .of [.dir, .due, .movers, .ddrChans] [(0x5200, some 0xA)]
  | .dirSetReadReturn .. => .plus (.of [.links, .dir, .out, .sources, .channels, .hostReads, .pool, .queues, .pages,
      .panelQueues, .vectors, .movers, .ddrChans] [(0x5200, some 0x8), (0x5200, some 0x9), (0x5200, some 0xA), (0x5200, some
      0xB), (0x5200, some 0xE), (0x5200, some 0x11), (0x6000, some 0x8), (0x7802, some 0x3)]) [.wordRead, .wordWrite,
      .poisonRead]
  | .dirEntryWriteAdmit .. => .plus (.of [.links, .dir, .out, .sources, .channels, .hostReads, .pool, .queues, .pages,
      .panelQueues, .vectors, .movers, .ddrChans] [(0x5200, some 0x8), (0x5200, some 0x9), (0x5200, some 0xA), (0x5200, some
      0xE), (0x5200, some 0xF), (0x6000, some 0x8), (0x7802, some 0x3)]) [.wordRead, .wordWrite, .poisonRead]
  | .dirSnoopIssue .. => .of [.dir, .out, .due, .repairs] [(0x5200, some 0xC)]
  | .dirBiResponse .. => .of [.dir, .errLog, .due, .events, .ddrChans] [(0x5113, none), (0x5114, none)]
  | .dirSnoopTimeout .. => .of [.dir, .out, .free, .due, .events, .repairs, .ddrChans] [(0x5200, some 0xC), (0x5200, some
      0xD)]
  | .biconflict .. => .of [.out, .due, .repairs] [(0x5114, none)]
  | .dirEnableWrite .. => .plus (.of [.links, .dir, .stalled, .bytes, .channels, .hostReads, .ddrChans] [(0x4000, some 0x5),
      (0x4300, some 0xA), (0x5200, some 0x1), (0x5200, some 0x8), (0x5200, some 0x9), (0x5200, some 0xA), (0x5200, some
      0xE), (0x7802, some 0x3)]) [.answered, .wordRead, .poisonRead]
  | .dirSweepDone => .plus (.of [.links, .dir, .out, .bytes, .channels, .hostReads, .ddrChans] [(0x4000, some 0x5), (0x4300,
      some 0xA), (0x5200, some 0x8), (0x5200, some 0x9), (0x5200, some 0xA), (0x5200, some 0xE), (0x7802, some 0x3)])
      [.wordRead, .poisonRead]
  | .dirFlush .. => .plus (.of [.links, .dir, .stalled, .bytes, .channels, .hostReads, .ddrChans] [(0x4000, some 0x5),
      (0x4300, some 0xA), (0x5200, some 0x8), (0x5200, some 0x9), (0x5200, some 0xA), (0x5200, some 0xE), (0x7802, some
      0x3)]) [.answered, .wordRead, .poisonRead]
  | .dirPurgePartner .. => .plus (.of [.links, .dir, .stalled, .bytes, .channels, .hostReads, .ddrChans] [(0x4000, some 0x5),
      (0x4300, some 0xA), (0x5200, some 0x8), (0x5200, some 0x9), (0x5200, some 0xA), (0x5200, some 0xE), (0x7802, some
      0x3)]) [.answered, .wordRead, .poisonRead]
  | .hostMapWrite .. => .plus (.of [.links, .dir, .stalled, .bytes, .channels, .hostReads, .ddrChans] [(0x4000, some 0x5),
      (0x4300, some 0xA), (0x5200, some 0x8), (0x5200, some 0x9), (0x5200, some 0xA), (0x5200, some 0xE), (0x5202, none),
      (0x7802, some 0x3)]) [.answered, .wordRead, .poisonRead]
  | .dirBankSlotWrite .. => .plus (.of [] [(0x5201, none)]) [.answered]
  | .trainFull .. => .plus (.of [.events, .ddrLines, .ddrChans] [(0x5300, some 0x1), (0x5300, some 0x4)]) [.answered]
  | .trainResume .. => .plus (.of [.ddrChans] []) [.answered]
  | .ddrTrainingDone .. => .of [.due, .events, .ddrChans] [(0x5300, some 0x1), (0x5300, some 0x2)]
  | .ddrReadComplete .. => .plus (.of [.links, .dir, .out, .free, .channels, .hostReads, .pool, .queues, .vectors, .movers,
      .ddrLines, .ddrChans] [(0x4300, some 0xB), (0x5300, some 0xA), (0x5300, some 0xB), (0x5300, some 0xC), (0x5300, some
      0xF), (0x7802, some 0x3)]) [.wordRead, .wordWrite]
  | .ddrRequest .. => .plus (.of [.links, .dir, .out, .free, .channels, .hostReads, .pool, .queues, .vectors, .movers,
      .ddrLines, .ddrChans] [(0x4300, some 0xB), (0x5300, none), (0x7802, some 0x3)]) [.wordRead, .wordWrite]
  | .scrubLine .. => .of [.free, .due, .events, .ddrLines, .ddrChans] [(0x5300, some 0xA), (0x5300, some 0xB), (0x5300, some
      0xC), (0x5300, some 0xF), (0x5300, some 0x10)]
  | .ddrCapWindow .. => .of [.ddrChans] []
  | .spdTempPoll .. => .of [.events, .ddrChans] []
  | .receiverDetect .. => .of [.lanes, .free] []
  | .laneTrainDone .. => .of [.links, .lanes] []
  | .laneTrainTimeout .. => .of [.links, .lanes, .free, .due, .events] [(0x5008, none)]
  | .laceLinkFormation .. => .plus (.of [.dir, .lanes, .hdm, .ras, .block, .stalled, .free] [(0x4300, some 0xB), (0x5008,
      none), (0x7802, some 0x3)]) [.wordRead, .wordWrite, .linkLost]
  | .laneLockTimeout .. => .plus (.of [.dir, .lanes, .hdm, .ras, .block, .stalled, .free] [(0x4300, some 0xB), (0x5008, none),
      (0x7802, some 0x3)]) [.wordRead, .wordWrite, .linkLost]
  | .exchangeTimeout .. => .plus (.of [.dir, .lanes, .hdm, .ras, .block, .stalled, .free] [(0x4300, some 0xB), (0x7802, some
      0x3)]) [.wordRead, .wordWrite, .linkLost]
  | .laneRetry .. => .plus (.of [.links, .lanes, .free] [(0x5001, none)]) [.answered]
  | .laneDisable .. => .plus (.of [.links, .lanes, .free] [(0x5001, none)]) [.answered]
  | .eqRequestReceived .. => .of [.lanes, .due] [(0x5009, none)]
  | .eqAnswerReceived .. => .of [.lanes] []
  | .eqAnswerTimeout .. => .of [.lanes, .due] [(0x5009, none)]
  | .eqEvaluationDone .. => .of [.lanes] []
  | .markerReceived .. => .of [.links, .lanes, .due, .events] [(0x5005, none), (0x5006, none), (0x5007, none), (0x5136, none)]
  | .pcieLtssmTransition .. => .plus (.of [.dir, .lanes, .hdm, .ras, .block, .stalled, .free] [(0x4300, some 0xB), (0x5006,
      none), (0x7802, some 0x3)]) [.wordRead, .wordWrite, .linkLost]
  | .loopbackStart .. => .plus (.of [.links, .lanes, .free, .events] [(0x500A, none), (0x500B, none), (0x500C, none), (0x500D,
      none)]) [.answered]
  | .loopbackStop .. => .plus (.of [.links, .lanes, .free, .events] [(0x500A, none), (0x500B, none), (0x500C, none), (0x500D,
      none)]) [.answered]
  | .loopbackDurationEnd .. => .of [.links, .lanes, .free, .due, .events] [(0x500A, none), (0x500B, none), (0x500C, none),
      (0x500D, none)]
  | .loopbackNoLock .. => .of [.links, .lanes, .free, .due, .events] [(0x500A, none), (0x500B, none), (0x500C, none), (0x500D,
      none)]
  | .eyeCommand .. => .plus (.of [] [(0x5004, none)]) [.answered]
  | .eyeMeasurementDone .. => .of [.due] [(0x5004, none)]
  | .laneMarginingCommand .. => .of [.lanes, .due] [(0x5004, none)]
  | .portConfigWrite .. => .plus (.of [.dir, .lanes, .testLanes, .bootFn, .st, .hdm, .ras, .block, .stalled, .free] [(0x4300,
      some 0xB), (0x5004, none), (0x500A, none), (0x500B, none), (0x500C, none), (0x500D, none), (0x5100, none), (0x7802,
      some 0x3)]) [.answered, .wordRead, .wordWrite, .linkLost]
  | .portReset .. => .plus (.of [.dir, .lanes, .testLanes, .st, .hdm, .ras, .block, .stalled, .free] [(0x4300, some 0xB),
      (0x5004, none), (0x500A, none), (0x500B, none), (0x500C, none), (0x500D, none), (0x7802, some 0x3)]) [.answered,
      .wordRead, .wordWrite, .linkLost]
  | .perstAssert .. => .plus (.of [.dir, .lanes, .testLanes, .st, .hdm, .ras, .block, .stalled, .free] [(0x4300, some 0xB),
      (0x5004, none), (0x500A, none), (0x500B, none), (0x500C, none), (0x500D, none), (0x7802, some 0x3)]) [.wordRead,
      .wordWrite, .linkLost]
  | .linkLoss .. => .plus (.of [.dir, .lanes, .hdm, .ras, .block, .stalled, .free] [(0x4300, some 0xB), (0x7802, some 0x3)])
      [.wordRead, .wordWrite, .linkLost]
  | .linkUp .. => .of [.links, .lanes, .out, .due, .events, .repairs, .vectors] [(0x511A, none)]
  | .rootCfgRead .. => .of [.links, .stalled, .sal, .out, .due] [(0x1101, none)]
  | .rootCfgWrite .. => .plus (.of [.links, .stalled] [(0x5120, some 0x2)]) [.answered]
  | .rootCfgCompletion .. => .of [.links, .sal, .out, .free, .due, .repairs] [(0x5114, none), (0x5120, some 0x3)]
  | .barRequest .. => .plus (.of [.links, .hdm, .ras, .block, .errLog, .stalled, .out, .sources, .channels, .hostReads, .pool,
      .queues, .pages, .panelQueues, .vectors, .movers, .window, .firmware] [(0x1300, some 0x6), (0x5114, none), (0x5116,
      none), (0x6000, some 0x8), (0x6000, some 0x9), (0x6000, some 0xC), (0x6101, none), (0x6102, none), (0x6103, none),
      (0x6104, none), (0x6105, none), (0x6106, none), (0x6107, none), (0x6108, none), (0x6109, none), (0x610A, none),
      (0x610B, none), (0x610C, none), (0x610D, none), (0x610E, none), (0x610F, none), (0x6110, none), (0x6111, none),
      (0x7802, some 0x3)]) [.wordRead, .wordWrite, .poisonRead]
  | .atomicopRequest .. => .of [.links, .out, .free, .due, .events, .channels, .hostReads, .repairs] [(0x4000, some 0x6),
      (0x5114, none), (0x5116, none)]
  | .pcieConfigRequest .. => .of [.links, .cfg, .errLog, .out, .free, .due, .repairs] [(0x5114, none)]
  | .deviceCompletionReceive .. => .plus (.of [.panels, .links, .ld, .shims, .sal, .out, .free, .channels, .hostReads, .pool,
      .queues, .vectors, .movers] [(0x3000, some 0x6), (0x3000, some 0x8), (0x4300, some 0xB), (0x5114, none), (0x5120, some
      0x3), (0x7802, some 0x3)]) [.wordRead, .wordWrite]
  | .completionTimeout .. => .plus (.of [.panels, .links, .ld, .shims, .sal, .out, .free, .channels, .hostReads, .pool,
      .queues, .vectors, .movers] [(0x3000, some 0x6), (0x3000, some 0x8), (0x4300, some 0xB), (0x5120, some 0x3), (0x7802,
      some 0x3)]) [.wordRead, .wordWrite]
  | .ideIntegrityFailure .. => .of [.links, .due, .events] [(0x5115, none)]
  | .ideKmKeyProgram .. => .of [.links, .ideKeys, .repairs] []
  | .shimTxPacket .. => .of [.links, .shims, .out, .due, .repairs] [(0x5119, none)]
  | .shimHoldTimeout .. => .of [.links, .shims, .out, .due, .events, .repairs] [(0x5118, none)]
  | .l0pResponse .. => .of [.links, .lanes, .due, .events] [(0x511A, none)]
  | .mctpVdmReceive .. => .of [.links, .sal, .out, .free, .due, .events, .repairs, .sessions] [(0x1100, some 0x3), (0x1102,
      none), (0x2306, some 0x3), (0x5114, none)]
  | .trainingFrameReceive .. => .of [.links, .lanes, .free, .due] [(0x5009, none)]
  | .laceRateChange .. => .of [.lanes] []
  | .capFlitReceive .. => .of [.links, .lanes, .out, .due, .events, .repairs, .vectors] [(0x5131, none), (0x5134, none),
      (0x5136, none)]
  | .laceWrite .. => .plus (.of [.links, .lanes, .hdm, .ras, .block, .errLog, .out, .sources, .channels, .hostReads, .pool,
      .queues, .pages, .panelQueues, .vectors, .movers] [(0x5113, none), (0x5114, none), (0x5116, none), (0x5133, none),
      (0x5134, none), (0x5136, none), (0x6000, some 0x8), (0x6000, some 0x9), (0x6000, some 0xC), (0x6101, none), (0x6102,
      none), (0x6103, none), (0x6104, none), (0x6105, none), (0x6106, none), (0x6107, none), (0x6108, none), (0x6109, none),
      (0x610A, none), (0x610B, none), (0x610C, none), (0x610D, none), (0x610E, none), (0x610F, none), (0x6110, none),
      (0x6111, none), (0x7802, some 0x3)]) [.wordRead, .wordWrite, .poisonRead]
  | .laceRead .. => .plus (.of [.links, .lanes, .out, .sources, .channels, .hostReads, .queues, .pages] [(0x5113, none),
      (0x5114, none), (0x5116, none), (0x5133, none), (0x5134, none), (0x5136, none), (0x6000, some 0x8), (0x7802, some
      0x3)]) [.wordRead, .wordWrite, .poisonRead]
  | .laceAtomic .. => .of [.links, .lanes, .out, .free, .due, .events, .channels, .hostReads, .repairs] [(0x4000, some 0x6),
      (0x5113, none), (0x5114, none), (0x5116, none), (0x5133, none), (0x5134, none), (0x5136, none)]
  | .laceFlush .. => .of [.links, .lanes, .out, .due, .events, .repairs] [(0x5113, none), (0x5114, none), (0x5116, none),
      (0x5133, none), (0x5134, none), (0x5136, none)]
  | .laceFlushDone .. => .of [.links, .out, .repairs] []
  | .laceMctp .. => .plus (.of [.panels, .links, .lanes, .ld, .shims, .hdm, .ras, .block, .errLog, .sal, .out, .sources,
      .channels, .hostReads, .pool, .queues, .pages, .panelQueues, .vectors, .movers, .sessions] [(0x1100, some 0x3),
      (0x1102, none), (0x2306, some 0x3), (0x3000, some 0x6), (0x3000, some 0x8), (0x5113, none), (0x5114, none), (0x5116,
      none), (0x5120, some 0x3), (0x5133, none), (0x5134, none), (0x5136, none), (0x5137, none), (0x6000, some 0x8),
      (0x6000, some 0x9), (0x6000, some 0xC), (0x6101, none), (0x6102, none), (0x6103, none), (0x6104, none), (0x6105,
      none), (0x6106, none), (0x6107, none), (0x6108, none), (0x6109, none), (0x610A, none), (0x610B, none), (0x610C, none),
      (0x610D, none), (0x610E, none), (0x610F, none), (0x6110, none), (0x6111, none), (0x7802, some 0x3)]) [.wordRead,
      .wordWrite, .poisonRead]
  | .laceCompletion .. => .plus (.of [.panels, .links, .lanes, .ld, .shims, .sal, .out, .free, .channels, .hostReads, .pool,
      .queues, .vectors, .movers] [(0x3000, some 0x6), (0x3000, some 0x8), (0x4300, some 0xB), (0x5113, none), (0x5114,
      none), (0x5120, some 0x3), (0x5133, none), (0x5134, none), (0x5136, none), (0x7802, some 0x3)]) [.wordRead,
      .wordWrite]
  | .laceUserFlit .. => .of [.links, .lanes, .shims, .out, .due, .events, .repairs] [(0x5113, none), (0x5114, none), (0x5133,
      none), (0x5134, none), (0x5136, none), (0x5137, none)]
  | .laceShimTxFlit .. => .of [.links, .shims, .out, .due, .repairs] [(0x5119, none)]
  | .laceNullFlit .. => .of [.links, .lanes, .out, .due, .events, .repairs] [(0x5113, none), (0x5133, none), (0x5134, none),
      (0x5136, none)]
  | .laceBadFlit .. => .plus (.of [.panels, .links, .lanes, .ld, .shims, .hdm, .ras, .block, .errLog, .sal, .out, .sources,
      .channels, .hostReads, .pool, .queues, .pages, .panelQueues, .vectors, .movers] [(0x3000, some 0x6), (0x3000, some
      0x8), (0x5113, none), (0x5114, none), (0x5116, none), (0x5120, some 0x3), (0x5133, none), (0x5134, none), (0x5135,
      none), (0x5136, none), (0x5137, none), (0x6000, some 0x8), (0x6000, some 0x9), (0x6000, some 0xC), (0x6101, none),
      (0x6102, none), (0x6103, none), (0x6104, none), (0x6105, none), (0x6106, none), (0x6107, none), (0x6108, none),
      (0x6109, none), (0x610A, none), (0x610B, none), (0x610C, none), (0x610D, none), (0x610E, none), (0x610F, none),
      (0x6110, none), (0x6111, none), (0x7802, some 0x3)]) [.wordRead, .wordWrite, .poisonRead]
  | .laceNakResend .. => .of [.links, .out] []
  | .laceNakReceive .. => .plus (.of [.panels, .links, .lanes, .ld, .shims, .hdm, .ras, .block, .errLog, .sal, .out, .sources,
      .channels, .hostReads, .pool, .queues, .pages, .panelQueues, .vectors, .movers] [(0x3000, some 0x6), (0x3000, some
      0x8), (0x5113, none), (0x5114, none), (0x5116, none), (0x5120, some 0x3), (0x5133, none), (0x5134, none), (0x5136,
      none), (0x5137, none), (0x6000, some 0x8), (0x6000, some 0x9), (0x6000, some 0xC), (0x6101, none), (0x6102, none),
      (0x6103, none), (0x6104, none), (0x6105, none), (0x6106, none), (0x6107, none), (0x6108, none), (0x6109, none),
      (0x610A, none), (0x610B, none), (0x610C, none), (0x610D, none), (0x610E, none), (0x610F, none), (0x6110, none),
      (0x6111, none), (0x7802, some 0x3)]) [.wordRead, .wordWrite, .poisonRead]
  | .laceReplayTimeout .. => .of [.links, .out, .due, .events, .repairs] [(0x5133, none), (0x5136, none)]
  | .laceCreditNull .. => .of [.links, .out] []
  | .laceRetrainCommand .. => .plus (.of [.links, .events] [(0x5136, none)]) [.answered]
  | .lacePartnerIdle .. => .of [.links, .due, .events] [(0x5136, none)]
  | .laceRetrainIdleEnd .. => .of [.links, .lanes] []
  | .laceDozeIdleTimer .. => .of [.links, .out, .repairs] []
  | .laceOffIdleTimer .. => .of [.links, .lanes, .out, .repairs] []
  | .laceSleepAcked .. => .of [.links, .lanes, .out] []
  | .laceDozeFlit .. => .of [.links, .lanes, .out, .due, .events, .repairs] [(0x5113, none), (0x5114, none), (0x5133, none),
      (0x5134, none), (0x5136, none)]
  | .laceOffFlit .. => .of [.links, .lanes, .out, .due, .events, .repairs] [(0x5113, none), (0x5114, none), (0x5133, none),
      (0x5134, none), (0x5136, none)]
  | .laceDozeMax .. => .of [.links, .lanes, .out] []
  | .laceWake .. => .of [.links, .lanes, .out] []
  | .laceRxReady .. => .of [.links, .lanes, .out, .due, .events, .repairs] [(0x5113, none), (0x5114, none), (0x5133, none),
      (0x5134, none), (0x5136, none)]
  | .laceWidthFlit .. => .of [.links, .lanes, .out, .due, .events, .repairs] [(0x5113, none), (0x5114, none), (0x5133, none),
      (0x5134, none), (0x5136, none)]
  | .laceNarrowTimeout .. => .of [.links, .due, .events] [(0x511A, none)]
  | .laceRequestTimeout .. => .plus (.of [.panels, .links, .ld, .sal, .out, .free, .channels, .hostReads, .pool, .queues,
      .vectors, .movers] [(0x3000, some 0x6), (0x3000, some 0x8), (0x4300, some 0xB), (0x5120, some 0x3), (0x7802, some
      0x3)]) [.wordRead, .wordWrite]
  | .loaderLoad .. => .plus (.of [.panels, .links, .ld, .events, .repairs] [(0x3000, some 0x6), (0x3000, some 0x8)])
      [.answered]
  | .loaderAbort .. => .plus (.of [.panels, .ld, .events] [(0x3000, some 0x6), (0x3000, some 0x8)]) [.answered]
  | .loaderBootLoad .. => .plus (.of [.panels, .links, .ld, .events, .repairs] [(0x3000, some 0x6), (0x3000, some 0x8)])
      [.answered]
  | .loaderChainSend .. => .plus (.of [.ld] []) [.answered]
  | .flashPreambleDone .. => .of [.panels, .ld, .out, .due, .events] [(0x3000, some 0x6), (0x3000, some 0x8), (0x3000, some
      0xA), (0x3000, some 0xB)]
  | .loadHeader .. => .of [.panels, .links, .ld, .out, .due, .events, .sources, .repairs] [(0x3000, some 0x3), (0x3000, some
      0x6), (0x3000, some 0x8)]
  | .loadFrameRecord .. => .of [.panels, .ld, .out, .due, .events, .repairs] [(0x3000, some 0x5), (0x3000, some 0x6), (0x3000,
      some 0x8)]
  | .loadEndRecord .. => .of [.panels, .ld, .out, .due, .events, .repairs] [(0x3000, some 0x5), (0x3000, some 0x6), (0x3000,
      some 0x8)]
  | .loadSignatureRecord .. => .of [.panels, .ld, .out, .due, .events, .repairs] [(0x3000, some 0x5), (0x3000, some 0x6),
      (0x3000, some 0x8)]
  | .loadVerifyDone .. => .of [.panels, .ld, .out, .due, .events, .repairs] [(0x3000, some 0x6), (0x3000, some 0x7), (0x3000,
      some 0x8), (0x3000, some 0x9)]
  | .loadTimeout => .of [.panels, .ld, .out, .due, .events] [(0x3000, some 0x6), (0x3000, some 0x8)]
  | .chainEnvelope .. => .of [.panels, .ld, .out, .due, .events] [(0x3000, some 0x6), (0x3000, some 0x8), (0x3000, some 0xD)]
  | .salynMessageArrival .. => .of [.links, .sal, .out, .free, .due, .events, .repairs, .sessions] [(0x1100, some 0x3),
      (0x1102, none), (0x2306, some 0x3)]
  | .salynRead .. => .plus (.of [.links, .stalled, .sal, .out, .free] [(0x1012, some 0x2), (0x1101, none), (0x1104, some 0x2),
      (0x1105, some 0x2), (0x2306, some 0x3), (0x4000, some 0x4), (0x4000, some 0x5), (0x4001, none)]) [.wordRead]
  | .salynWrite .. => .plus (.of [.arrivals, .throttle, .clkLost, .dir, .bootFn, .hdm, .ras, .block, .stalled, .bsKeys, .th,
      .pwr, .pins, .resets, .sources, .ports, .pages, .panelQueues, .ddrLines, .ddrChans, .fuseWrite, .window, .firmware,
      .registers] []) [.answered, .wordRead, .wordWrite, .poisonRead, .linkLost, .stopBegun]
  | .salynDescribe .. => .of [.links, .sal, .out, .free, .due, .repairs] [(0x1101, none)]
  | .salynEnumerate .. => .of [.links, .sal, .out, .free, .due, .repairs] [(0x1101, none)]
  | .notifyResponse .. => .of [.sal, .due] [(0x1102, none)]
  | .firmwareReply i _ _ => .plus (.of [.arrivals, .throttle, .clkLost, .dir, .bootFn, .hdm, .ras, .block, .stalled, .bsKeys,
      .th, .pwr, .pins, .resets, .sources, .ports, .pages, .panelQueues, .ddrLines, .ddrChans, .window, .firmware] [(0x1012,
      some 0x2), (0x1104, some 0x2), (0x1105, some 0x2), (0x1300, none), (0x2002, some 0x1), (0x2004, some 0x1), (0x2010,
      none), (0x2100, none), (0x2200, none), (0x2203, none), (0x2306, some 0x3), (0x3105, none), (0x3107, none), (0x3200,
      none), (0x3202, none), (0x4310, some 0x1), (0x4310, some 0x2), (0x5001, none), (0x5004, none), (0x500A, none),
      (0x5100, none), (0x5103, none), (0x511A, none), (0x5120, some 0x2), (0x5136, none), (0x5200, some 0x1), (0x5200, some
      0x8), (0x5200, some 0x9), (0x5200, some 0xA), (0x5200, some 0xE), (0x5201, none), (0x5202, none), (0x5300, some 0x1),
      (0x5300, some 0x4), (0x6000, some 0x1), (0x6000, some 0x2), (0x6000, some 0x8), (0x6000, some 0xA), (0x6000, some
      0xC), (0x7000, none), (0x7004, none), (0x7100, none), (0x7802, none), (0x7803, none), (0x7804, none), (0x7805, some
      0x1), (i, none)]) [.answered, .wordRead, .wordWrite, .poisonRead, .linkLost, .stopBegun]
  | .firmwareTimeout .. => .of [.links, .sal, .out, .free, .events, .ring, .repairs] []
  | .dictionaryWrite _ i _ _ _ _ => .plus (.of [.arrivals, .throttle, .clkLost, .dir, .bootFn, .hdm, .ras, .block, .stalled,
      .bsKeys, .th, .pwr, .pins, .resets, .sources, .ports, .pages, .panelQueues, .ddrLines, .ddrChans, .fuseWrite, .window,
      .firmware] [(0x1300, none), (0x2002, some 0x1), (0x2004, some 0x1), (0x2010, none), (0x2100, none), (0x2200, none),
      (0x2203, none), (0x3105, none), (0x3107, none), (0x3109, none), (0x3200, none), (0x3202, none), (0x4310, some 0x1),
      (0x4310, some 0x2), (0x5001, none), (0x5004, none), (0x500A, none), (0x5100, none), (0x5103, none), (0x511A, none),
      (0x5120, some 0x2), (0x5136, none), (0x5200, some 0x1), (0x5200, some 0x8), (0x5200, some 0x9), (0x5200, some 0xA),
      (0x5200, some 0xE), (0x5201, none), (0x5202, none), (0x5300, some 0x1), (0x5300, some 0x4), (0x6000, some 0x1),
      (0x6000, some 0x2), (0x6000, some 0x8), (0x6000, some 0xA), (0x6000, some 0xC), (0x7000, none), (0x7004, none),
      (0x7100, none), (0x7802, none), (0x7803, none), (0x7804, none), (0x7805, some 0x1), (i, none)]) [.answered, .wordRead,
      .wordWrite, .poisonRead, .linkLost, .stopBegun]
  | .transportSettingApply => .of [.sal, .due] [(0x1100, none)]
  | .journalEntryAccept .. => .of [.ring, .sources] []
  | .journalEntryRead .. => .of [.sal, .out, .free, .due] [(0x1101, none), (0x1104, some 0x2)]
  | .nvJournalEntryRead .. => .of [.sal, .out, .free, .due, .events] [(0x1101, none), (0x1105, some 0x2), (0x2306, some 0x3)]
  | .journalNvCopy => .of [.nv, .copier] []
  | .seqReserveCommit => .of [.nv, .copier] []
  | .notifySend .. => .of [.sal, .out] []
  | .notifyResend .. => .of [.sal, .out, .due, .events] [(0x1112, some 0x3)]
  | .alertAckWrite .. => .plus (.of [] [(0x1112, some 0x2)]) [.answered]
  | .udpReassemblyTimeout => .of [.sal, .due] [(0x1102, none)]
  | .arpRequest .. => .of [.out] []
  | .icmpEcho .. => .of [.out] []
  | .mctpControlCommand .. => .of [.links, .sal, .out, .due, .repairs] [(0x1100, some 0x3), (0x1102, none)]
  | .dynamicAddressAssign .. => .of [.sal, .due] [(0x1100, some 0x2)]
  | .lifecycleAdvance .. => .plus (.of [.repairs, .fuseWrite] []) [.answered]
  | .returnToken .. => .plus (.of [.repairs, .fuseWrite] []) [.answered]
  | .keyHashWrite .. => .plus (.of [.repairs, .fuseWrite] []) [.answered]
  | .keyRevoke .. => .plus (.of [.repairs, .fuseWrite] []) [.answered]
  | .fwSvnAdvance .. => .plus (.of [.repairs, .fuseWrite] []) [.answered]
  | .secPinMaskWrite .. => .plus (.of [.repairs, .fuseWrite] []) [.answered]
  | .fuseWriteDone .. => .of [.links, .sal, .out, .free, .events, .ring, .repairs, .fuses, .fuseWrite] []
  | .bsKeyWrite .. => .plus (.of [.bsKeys, .repairs] []) [.answered]
  | .fwVerifyAndStart .. => .plus (.of [.firmware] []) [.answered]
  | .fwClearWindow .. => .plus (.of [.window] []) [.answered]
  | .fwVerifyDone .. => .plus (.of [.throttle, .firmware, .core] [(0x1300, some 0x7), (0x500A, none), (0x511A, none)])
      [.stopBegun]
  | .fwWindowData .. => .plus (.of [.window] [(0x1300, some 0x4)]) [.answered]
  | .bootBarWindowWrite .. => .of [.window] []
  | .spdmRequest .. => .of [.out, .free, .due, .events, .repairs, .sessions] [(0x2306, some 0x3)]
  | .tamper .. => .of [.links, .ideKeys, .bsKeys, .due, .events] [(0x1200, some 0x32)]
  | .watchdogExpiry => .plus (.of [.throttle, .dir, .hdm, .ras, .block, .stalled, .core] [(0x4300, some 0xB), (0x500A, none),
      (0x511A, none), (0x7802, some 0x3)]) [.wordRead, .wordWrite, .linkLost, .stopBegun]
  | .coreTrapTimeout => .plus (.of [.throttle, .dir, .hdm, .ras, .block, .stalled, .core] [(0x4300, some 0xB), (0x500A, none),
      (0x511A, none), (0x7802, some 0x3)]) [.wordRead, .wordWrite, .linkLost, .stopBegun]
  | .thermalSample .. => .of [.panels, .links, .throttle, .lanes, .th, .out, .due, .events, .repairs] [(0x2201, none),
      (0x2202, none), (0x2204, none), (0x2206, none), (0x511A, none)]
  | .thermistorRecover .. => .of [.th] []
  | .levelRiseConfirm .. => .plus (.of [.throttle, .th] [(0x500A, none), (0x511A, none)]) [.stopBegun]
  | .levelReleaseConfirm .. => .of [.panels, .links, .throttle, .lanes, .th, .out, .due, .events, .repairs] [(0x511A, none)]
  | .sensorDisagreeLatch .. => .of [.th, .due, .events] [(0x2203, none)]
  | .disagreeMapWrite .. => .plus (.of [] [(0x2203, none)]) [.answered]
  | .coolantLossConfirm => .plus (.of [.throttle, .th] [(0x500A, none), (0x511A, none)]) [.stopBegun]
  | .coolantRestoreConfirm => .of [.panels, .links, .throttle, .lanes, .th, .out, .due, .events, .repairs] [(0x511A, none)]
  | .inletHighConfirm => .of [.th, .events] []
  | .inletHighClear => .of [.th] []
  | .levelPointWrite .. => .plus (.of [] [(0x2200, none)]) [.answered]
  | .fraySample => .of [.wear, .due, .events] [(0x2300, none)]
  | .frayPeriodicSave => .of [.nv, .copier] []
  | .nvGroupCommitDone => .of [.links, .nv, .sal, .out, .free, .due, .ring, .reserve, .waiting, .copier, .repairs] [(0x2306,
      some 0x2)]
  | .firmwareNvWrite .. => .of [.nv, .out, .copier] []
  | .railOutOfRange .. => .plus (.of [.pwr, .pregs, .ddrLines, .ddrChans] [(0x500A, none)]) [.stopBegun]
  | .railInRange .. => .of [.nv, .pwr, .pins, .events, .copier] []
  | .supplyRemoval .. => .plus (.of [.memKept, .lifecycle, .warmRuns, .hdm, .ras, .block, .stalled, .th, .wear, .pub, .time,
      .log, .reserve, .ports, .pregs] []) [.answered, .wordRead, .wordWrite, .poisonRead, .linkLost, .stopBegun, .coldClear]
  | .resetNAssert => .plus (.of [.arrivals, .clkLost, .memKept, .lifecycle, .warmRuns, .dir, .lanes, .testLanes, .bootFn, .st,
      .hdm, .ras, .block, .stalled, .bsKeys, .stop, .nv, .pwr, .pins, .stopSignal, .resets, .sources, .waiting, .ports,
      .pregs, .pages, .panelQueues, .ddrLines, .ddrChans, .fuses, .fuseWrite, .latched, .window, .firmware, .sessions,
      .core, .registers] []) [.wordRead, .wordWrite, .poisonRead, .linkLost]
  | .coldResetRelease => .of [.warmRuns, .th, .nv, .pwr, .out, .mode, .events, .resets, .sources, .copier] []
  | .warmNAssert => .plus (.of [.arrivals, .throttle, .clkLost, .memKept, .warmRuns, .dir, .lanes, .testLanes, .bootFn, .st,
      .hdm, .ras, .block, .stalled, .bsKeys, .stop, .nv, .pwr, .pins, .stopSignal, .resets, .sources, .waiting, .ports,
      .pages, .panelQueues, .ddrChans, .fuses, .fuseWrite, .latched, .window, .firmware, .sessions, .core, .registers] [])
      [.wordRead, .wordWrite, .poisonRead, .linkLost]
  | .resetCommandCold .. => .plus (.of [.resets] []) [.answered]
  | .resetCommandBaseWarm .. => .plus (.of [.resets] []) [.answered]
  | .resetCommandPanel .. => .plus (.of [.panels, .links, .sources, .channels, .hostReads, .pool, .queues, .pages,
      .panelQueues] [(0x6000, some 0x8), (0x6000, some 0xA), (0x7802, some 0x3)]) [.answered, .wordRead, .wordWrite,
      .poisonRead]
  | .resetCommandFabric .. => .plus (.of [.panels, .links, .sources, .channels, .hostReads, .pool, .queues, .pages,
      .panelQueues] [(0x6000, some 0x8), (0x6000, some 0xA), (0x7802, some 0x3)]) [.answered, .wordRead, .wordWrite,
      .poisonRead]
  | .resetTakeHold => .plus (.of [.memKept, .lifecycle, .warmRuns, .hdm, .ras, .block, .stalled, .ports, .pregs] [])
      [.wordRead, .wordWrite, .poisonRead, .linkLost, .coldClear]
  | .baseWarmRelease => .of [.warmRuns, .th, .nv, .pwr, .out, .mode, .events, .resets, .sources, .copier] []
  | .pmbusPoll .. => .of [.pwr, .due, .events] [(0x2004, some 0x1)]
  | .pmbAlert .. => .of [.pwr, .events] []
  | .vcoreSetpointWrite .. => .plus (.of [] [(0x2002, some 0x1)]) [.answered]
  | .vcoreSetpointStep => .of [.pwr, .out] []
  | .powerEstimate .. => .of [.pwr, .free, .due] [(0x2003, none)]
  | .powerCalibration => .of [.due] [(0x2004, some 0x3)]
  | .powerHighConfirm => .of [.pwr, .events] []
  | .processMonitorRead .. => .of [.pwr, .free, .due, .events] [(0x2005, none)]
  | .clockDomainStart .. => .of [.pwr] []
  | .pllUnlock .. => .of [.clkLost, .events] []
  | .pllRelock .. => .of [.clkLost] []
  | .refLoss => .of [.pwr, .due, .events] [(0x2102, some 0x2)]
  | .refRestored => .of [.pwr, .events] []
  | .fclkFreqWrite .. => .plus (.of [.clkLost, .pwr] [(0x2100, none)]) [.answered]
  | .fclkRelockDone .. => .of [.clkLost, .pwr] []
  | .aonRetrim => .of [.pwr] []
  | .pllRecalibration .. => .of [.pwr, .due] [(0x2102, some 0x1)]
  | .selftestStartMemory .. => .plus (.of [.st, .events, .bytes, .banks, .repairs] [(0x7802, none)]) [.answered]
  | .selftestStartLogic .. => .plus (.of [.panels, .st] [(0x7803, none)]) [.answered]
  | .selftestStartLane .. => .plus (.of [.lanes, .testLanes, .st] [(0x500B, none), (0x500C, none), (0x500D, none), (0x7804,
      none)]) [.answered]
  | .selftestStartFuse .. => .plus (.of [.st] [(0x7805, some 0x1)]) [.answered]
  | .selftestAbort .. => .plus (.of [.panels, .links, .lanes, .testLanes, .st, .free, .events, .bytes, .banks, .repairs]
      [(0x500B, none), (0x500C, none), (0x500D, none)]) [.answered]
  | .memorySliceStart .. => .of [.st, .due, .events, .bytes, .banks, .repairs] [(0x7802, some 0x4), (0x7802, some 0x5)]
  | .memorySliceEnd .. => .of [.st, .free, .due, .events, .bytes, .banks, .repairs] [(0x4300, some 0xD), (0x4402, none),
      (0x7802, some 0x1), (0x7802, some 0x2), (0x7802, some 0x5)]
  | .logicTestEnd .. => .of [.panels, .st, .due, .events] [(0x7803, none)]
  | .laneTestEnd .. => .of [.links, .lanes, .testLanes, .st, .free, .due, .events] [(0x500B, none), (0x500C, none), (0x500D,
      none), (0x7804, none)]
  | .fuseTestEnd .. => .of [.st, .due, .events] [(0x7805, some 0x1)]
  | .pinConfigWrite .. => .plus (.of [.pins, .free] [(0x7000, none)]) [.answered]
  | .pinHoldWindowEnd .. => .of [.pins, .free] []
  | .gpioOutWrite .. => .plus (.of [.pins, .free] [(0x7001, none)]) [.answered]
  | .gpioOeWrite .. => .plus (.of [.pins, .free] [(0x7002, none)]) [.answered]
  | .gpioEdge .. => .of [.pins, .due, .events] [(0x7004, none)]
  | .syncCapture .. => .of [.pins, .due, .events] [(0x7005, some 0x1), (0x7005, some 0x2)]
  | .edgePendingWrite .. => .plus (.of [] [(0x7004, none)]) [.answered]
  | .eyeletSelectWrite .. => .plus (.of [.pins] [(0x7100, none)]) [.answered]
  | .eyeletTrigger .. => .of [.pins, .free, .due, .events] [(0x7101, some 0x1)]
  | .jtagInstructionUpdate .. => .of [.pins, .due, .events] [(0x7101, some 0x2)]
  | .jtagFuseRead .. => .of [.out] []
  | .jtagFuseProgram .. => .of [.out, .fuseWrite] []
  | .jtagProbeScan => .of [.out, .free] []
  | .coreDebugAccess .. => .of [.pins, .out, .free, .window] []
  | .trst => .of [.pins] []
  | .watchdogRestart => .of [.core] []
  | .mgmtBaseChannelAccess .. => .plus (.of [.links, .stalled, .out, .channels, .hostReads, .core] [(0x7802, some 0x3)])
      [.wordRead, .wordWrite, .poisonRead]
  | .shimRxPacket .. => .plus (.of [.dir, .lanes, .hdm, .ras, .block, .stalled, .free] [(0x4300, some 0xB), (0x5113, none),
      (0x5114, none), (0x5116, none), (0x7802, some 0x3)]) [.wordRead, .wordWrite, .linkLost]
  | .wakeLockTimeout .. => .of [.links, .due, .events] [(0x5136, none)]
  | .ethLinkChange .. => .of [.due] [(0x1100, some 0xA)]

/-- The file of spec/ that a command's row cites. -/
def chapter : Instr → Nat
  | .stateCommandEnable .. => 1
  | .stateCommandStop .. => 1
  | .stateCommandClear .. => 1
  | .stopMoversIdle => 1
  | .ddrSelfRefreshDone => 1
  | .stopNvIdle => 1
  | .stopStep3Forced => 1
  | .stopWindowExpired => 1
  | .thermtrip => 1
  | .vccBaseLoss => 1
  | .porAssert => 1
  | .porRelease .. => 1
  | .bootEntry => 1
  | .bootRomDone .. => 1
  | .eventRecordAccept .. => 1
  | .timeMark => 1
  | .eventRecordRead .. => 1
  | .digestPublication => 1
  | .tileMemClear .. => 2
  | .tileMemClearDone .. => 2
  | .panelClockSelWrite .. => 2
  | .userEvent .. => 2
  | .panelResetEnd .. => 2
  | .shuttleSwitch .. => 3
  | .shuttleStage .. => 3
  | .shuttleUnstage .. => 3
  | .shuttleSelect .. => 3
  | .shuttleRelease .. => 3
  | .shuttleHold .. => 3
  | .shuttleInvalidate .. => 3
  | .fabricShuttleReq .. => 3
  | .queueArrivalRequest .. => 3
  | .tsliceControlWrite .. => 3
  | .tsliceRequest .. => 3
  | .tsliceEntryAdvance .. => 3
  | .stagingComplete .. => 3
  | .stageCrcError .. => 3
  | .switchCycle .. => 3
  | .readbackFrame .. => 3
  | .pressRead .. => 4
  | .pressWrite .. => 4
  | .pressBudgetGrant => 4
  | .bankAdmit .. => 4
  | .pressCompletion .. => 4
  | .pressRegWrite .. => 4
  | .wordRead .. => 4
  | .wordWrite .. => 4
  | .wordCompletion .. => 4
  | .baseChannelGrant .. => 4
  | .bankOwnerWrite .. => 4
  | .handoverDrainDone .. => 4
  | .initEngineRow .. => 4
  | .repairWriteback .. => 5
  | .darnMigration .. => 5
  | .darnInstall .. => 5
  | .rinseTick => 5
  | .rinseRow .. => 5
  | .splitBankWrite .. => 5
  | .splitEnableWrite .. => 5
  | .splitData .. => 5
  | .splitCheck .. => 5
  | .splitRead .. => 5
  | .splitFoldOverride .. => 5
  | .baseSramRead .. => 5
  | .qmEnableWrite .. => 6
  | .qmRebuildDone => 6
  | .poolAdd .. => 6
  | .poolRemove .. => 6
  | .queueSetupWrite .. => 6
  | .queueEnable .. => 6
  | .queueDisable .. => 6
  | .queueFlush .. => 6
  | .queueClearFlags .. => 6
  | .queueSetupApply .. => 6
  | .enqValue .. => 6
  | .enqBuffer .. => 6
  | .panelEnqueueCell .. => 6
  | .mgmtEnqueue .. => 6
  | .enqueueCommit .. => 6
  | .deqValue .. => 6
  | .deqBuffer .. => 6
  | .panelDequeueRequest .. => 6
  | .panelDequeueCell .. => 6
  | .dequeueCommit .. => 6
  | .queueIdleTimeout .. => 6
  | .moverEnable .. => 6
  | .moverTailWrite .. => 6
  | .moverRetry .. => 6
  | .moverSkip .. => 6
  | .moverReset .. => 6
  | .moverUnit .. => 6
  | .vectorTableWrite .. => 6
  | .vectorDelivery .. => 6
  | .cxlMemRequest .. => 7
  | .localDirRequest .. => 7
  | .dirSetReadReturn .. => 7
  | .dirEntryWriteAdmit .. => 7
  | .dirSnoopIssue .. => 7
  | .dirBiResponse .. => 7
  | .dirSnoopTimeout .. => 7
  | .biconflict .. => 7
  | .dirEnableWrite .. => 7
  | .dirSweepDone => 7
  | .dirFlush .. => 7
  | .dirPurgePartner .. => 7
  | .hostMapWrite .. => 7
  | .dirBankSlotWrite .. => 7
  | .trainFull .. => 8
  | .trainResume .. => 8
  | .ddrTrainingDone .. => 8
  | .ddrReadComplete .. => 8
  | .ddrRequest .. => 8
  | .scrubLine .. => 8
  | .ddrCapWindow .. => 8
  | .spdTempPoll .. => 8
  | .receiverDetect .. => 9
  | .laneTrainDone .. => 9
  | .laneTrainTimeout .. => 9
  | .laceLinkFormation .. => 9
  | .laneLockTimeout .. => 9
  | .exchangeTimeout .. => 9
  | .laneRetry .. => 9
  | .laneDisable .. => 9
  | .eqRequestReceived .. => 9
  | .eqAnswerReceived .. => 9
  | .eqAnswerTimeout .. => 9
  | .eqEvaluationDone .. => 9
  | .markerReceived .. => 9
  | .pcieLtssmTransition .. => 9
  | .loopbackStart .. => 9
  | .loopbackStop .. => 9
  | .loopbackDurationEnd .. => 9
  | .loopbackNoLock .. => 9
  | .eyeCommand .. => 9
  | .eyeMeasurementDone .. => 9
  | .laneMarginingCommand .. => 9
  | .portConfigWrite .. => 10
  | .portReset .. => 10
  | .perstAssert .. => 10
  | .linkLoss .. => 10
  | .linkUp .. => 10
  | .rootCfgRead .. => 10
  | .rootCfgWrite .. => 10
  | .rootCfgCompletion .. => 10
  | .barRequest .. => 10
  | .atomicopRequest .. => 10
  | .pcieConfigRequest .. => 10
  | .deviceCompletionReceive .. => 10
  | .completionTimeout .. => 10
  | .ideIntegrityFailure .. => 10
  | .ideKmKeyProgram .. => 10
  | .shimTxPacket .. => 10
  | .shimHoldTimeout .. => 10
  | .l0pResponse .. => 10
  | .mctpVdmReceive .. => 10
  | .trainingFrameReceive .. => 11
  | .laceRateChange .. => 11
  | .capFlitReceive .. => 11
  | .laceWrite .. => 11
  | .laceRead .. => 11
  | .laceAtomic .. => 11
  | .laceFlush .. => 11
  | .laceFlushDone .. => 11
  | .laceMctp .. => 11
  | .laceCompletion .. => 11
  | .laceUserFlit .. => 11
  | .laceShimTxFlit .. => 11
  | .laceNullFlit .. => 11
  | .laceBadFlit .. => 11
  | .laceNakResend .. => 11
  | .laceNakReceive .. => 11
  | .laceReplayTimeout .. => 11
  | .laceCreditNull .. => 11
  | .laceRetrainCommand .. => 11
  | .lacePartnerIdle .. => 11
  | .laceRetrainIdleEnd .. => 11
  | .laceDozeIdleTimer .. => 11
  | .laceOffIdleTimer .. => 11
  | .laceSleepAcked .. => 11
  | .laceDozeFlit .. => 11
  | .laceOffFlit .. => 11
  | .laceDozeMax .. => 11
  | .laceWake .. => 11
  | .laceRxReady .. => 11
  | .laceWidthFlit .. => 11
  | .laceNarrowTimeout .. => 11
  | .laceRequestTimeout .. => 11
  | .loaderLoad .. => 12
  | .loaderAbort .. => 12
  | .loaderBootLoad .. => 12
  | .loaderChainSend .. => 12
  | .flashPreambleDone .. => 12
  | .loadHeader .. => 12
  | .loadFrameRecord .. => 12
  | .loadEndRecord .. => 12
  | .loadSignatureRecord .. => 12
  | .loadVerifyDone .. => 12
  | .loadTimeout => 12
  | .chainEnvelope .. => 12
  | .salynMessageArrival .. => 13
  | .salynRead .. => 13
  | .salynWrite .. => 13
  | .salynDescribe .. => 13
  | .salynEnumerate .. => 13
  | .notifyResponse .. => 13
  | .firmwareReply .. => 13
  | .firmwareTimeout .. => 13
  | .dictionaryWrite .. => 13
  | .transportSettingApply => 13
  | .journalEntryAccept .. => 13
  | .journalEntryRead .. => 13
  | .nvJournalEntryRead .. => 13
  | .journalNvCopy => 13
  | .seqReserveCommit => 13
  | .notifySend .. => 13
  | .notifyResend .. => 13
  | .alertAckWrite .. => 13
  | .udpReassemblyTimeout => 13
  | .arpRequest .. => 13
  | .icmpEcho .. => 13
  | .mctpControlCommand .. => 13
  | .dynamicAddressAssign .. => 13
  | .lifecycleAdvance .. => 14
  | .returnToken .. => 14
  | .keyHashWrite .. => 14
  | .keyRevoke .. => 14
  | .fwSvnAdvance .. => 14
  | .secPinMaskWrite .. => 14
  | .fuseWriteDone .. => 14
  | .bsKeyWrite .. => 14
  | .fwVerifyAndStart .. => 14
  | .fwClearWindow .. => 14
  | .fwVerifyDone .. => 14
  | .fwWindowData .. => 14
  | .bootBarWindowWrite .. => 14
  | .spdmRequest .. => 14
  | .tamper .. => 14
  | .watchdogExpiry => 14
  | .coreTrapTimeout => 14
  | .thermalSample .. => 15
  | .thermistorRecover .. => 15
  | .levelRiseConfirm .. => 15
  | .levelReleaseConfirm .. => 15
  | .sensorDisagreeLatch .. => 15
  | .disagreeMapWrite .. => 15
  | .coolantLossConfirm => 15
  | .coolantRestoreConfirm => 15
  | .inletHighConfirm => 15
  | .inletHighClear => 15
  | .levelPointWrite .. => 15
  | .fraySample => 16
  | .frayPeriodicSave => 16
  | .nvGroupCommitDone => 16
  | .firmwareNvWrite .. => 16
  | .railOutOfRange .. => 17
  | .railInRange .. => 17
  | .supplyRemoval .. => 17
  | .resetNAssert => 17
  | .coldResetRelease => 17
  | .warmNAssert => 17
  | .resetCommandCold .. => 17
  | .resetCommandBaseWarm .. => 17
  | .resetCommandPanel .. => 17
  | .resetCommandFabric .. => 17
  | .resetTakeHold => 17
  | .baseWarmRelease => 17
  | .pmbusPoll .. => 17
  | .pmbAlert .. => 17
  | .vcoreSetpointWrite .. => 17
  | .vcoreSetpointStep => 17
  | .powerEstimate .. => 17
  | .powerCalibration => 17
  | .powerHighConfirm => 17
  | .processMonitorRead .. => 17
  | .clockDomainStart .. => 17
  | .pllUnlock .. => 17
  | .pllRelock .. => 17
  | .refLoss => 17
  | .refRestored => 17
  | .fclkFreqWrite .. => 17
  | .fclkRelockDone .. => 17
  | .aonRetrim => 17
  | .pllRecalibration .. => 17
  | .selftestStartMemory .. => 18
  | .selftestStartLogic .. => 18
  | .selftestStartLane .. => 18
  | .selftestStartFuse .. => 18
  | .selftestAbort .. => 18
  | .memorySliceStart .. => 18
  | .memorySliceEnd .. => 18
  | .logicTestEnd .. => 18
  | .laneTestEnd .. => 18
  | .fuseTestEnd .. => 18
  | .pinConfigWrite .. => 19
  | .pinHoldWindowEnd .. => 19
  | .gpioOutWrite .. => 19
  | .gpioOeWrite .. => 19
  | .gpioEdge .. => 19
  | .syncCapture .. => 19
  | .edgePendingWrite .. => 19
  | .eyeletSelectWrite .. => 19
  | .eyeletTrigger .. => 19
  | .jtagInstructionUpdate .. => 19
  | .jtagFuseRead .. => 19
  | .jtagFuseProgram .. => 19
  | .jtagProbeScan => 19
  | .coreDebugAccess .. => 19
  | .trst => 19
  | .watchdogRestart => 19
  | .mgmtBaseChannelAccess .. => 19
  | .shimRxPacket .. => 19
  | .wakeLockTimeout .. => 19
  | .ethLinkChange .. => 19

end Sys2Proof.Machine
end

