-- ==== Sys2Proof/Certificates/Slice0/Obligations.lean ====
section
/-! DEFINITION. The statements for the provers: what the device does on each command, what every command leaves alone, and
what every step keeps. -/

open Sys2Proof Sys2Proof.Machine

/-- STATE_COMMAND and RESET_COMMAND (spec/01 R34, R35; spec/17 R446, R447): an accepted command has its effect. -/
def Obligations.DeviceCommandsTakeEffect : Prop :=
  (∀ (src : Source) (s : State), s.admits src 0x1010 3 2 (leBytes 1 1) true true → s.mayEnable →
    ∃ t, exec (.stateCommandEnable src) s = .next t ∧ t.dev.state = .operational ∧ t.saidOk src) ∧
  (∀ (src : Source) (s : State), s.admits src 0x1010 3 2 (leBytes 1 2) true true →
    (s.dev.state = .managed ∨ s.dev.state = .operational) →
    ∃ t, exec (.stateCommandStop src) s = .next t ∧ t.dev.state = .quiescing ∧ t.dev.stopAsserted = true ∧
      t.stop.step = 3 ∧ t.stop.cause = 4 ∧ t.rd 0x1010 4 = 4 ∧ t.saidOk src) ∧
  (∀ (src : Source) (s : State), s.admits src 0x1010 3 2 (leBytes 1 3) true true → s.mayClear →
    ∃ t, exec (.stateCommandClear src) s = .next t ∧ t.dev.state = .managed ∧ t.th.pwrOff = false ∧ t.saidOk src) ∧
  (∀ (src : Source) (s : State), s.admits src 0x2020 1 3 (leBytes 2 0x1000) true true →
    ∃ t, exec (.resetCommandCold src) s = .next t ∧ t.dev.resetDue = s.dev.resetDue ++ [1] ∧ t.saidOk src) ∧
  (∀ (src : Source) (s : State), s.admits src 0x2020 1 3 (leBytes 2 0x2000) true true →
    ∃ t, exec (.resetCommandBaseWarm src) s = .next t ∧ t.dev.resetDue = s.dev.resetDue ++ [2] ∧ t.saidOk src) ∧
  (∀ (src : Source) (p : Nat) (s : State), p < 32 →
    s.admits src 0x2020 1 3 (leBytes 2 (0x3000 + p)) true true →
    (s.panel p).pstate ≠ .test → s.dev.state ≠ .quiescing →
    ∃ t, exec (.resetCommandPanel src p) s = .next t ∧ (t.panel p).reset.isSome = true ∧ (t.panel p).live = (s.panel p).initLive ∧
      t.saidOk src) ∧
  (∀ (src : Source) (s : State), s.admits src 0x2020 1 3 (leBytes 2 0x4000) true true →
    (∀ p, p < 32 → (s.panel p).pstate ≠ .test) → s.dev.state ≠ .quiescing →
    ∃ t, exec (.resetCommandFabric src) s = .next t ∧ (∀ p, p < 32 → (t.panel p).reset.isSome = true ∧ (t.panel p).live = (s.panel p).initLive) ∧
      t.saidOk src)

/-- The steps of R403 and R404, the watchdog of R384 and THERMTRIP of R407. -/
def Obligations.OrderlyStopRunsItsSteps : Prop :=
  (∀ s : State, s.stop.step = 3 → s.moversIdle → s.dirSettled →
    exec .stopMoversIdle s = .next { s with stop := ⟨4, s.stop.cause, s.stop.began⟩ }) ∧
  (∀ s : State, (s.warmRuns && s.anyReady) = false → s.stop.step = 4 → s.ddrDrained →
    ∃ t, exec .ddrSelfRefreshDone s = .next t ∧ t.stop.step = 5 ∧ t.stop.cause = s.stop.cause ∧ t.dev = s.dev) ∧
  (∀ s : State, (s.warmRuns && s.anyReady) = true → s.ddrDrained →
    ∃ t, exec .ddrSelfRefreshDone s = .next t ∧ t.dev.held = true ∧ t.dev.stopAsserted = false ∧ t.warmRuns = true) ∧
  (∀ s : State, s.stop.step = 5 → s.sinceStop 60 → s.nvIdle →
    ∃ t, exec .stopNvIdle s = .next t ∧ t.dev.state = (if s.stop.cause = 0x11 then .fault else .safeStop) ∧
      t.th.pwrOff = true ∧ t.dev.stopAsserted = false ∧ t.stop.step = 0) ∧
  (∀ s : State, s.stop.step = 3 → s.sinceStop (s.stopWindow - 100) → ∃ t, exec .stopStep3Forced s = .next t ∧ t.stop.step = 4) ∧
  (∀ s : State, s.stop.step ≠ 0 → s.sinceStop s.stopWindow →
    ∃ t, exec .stopWindowExpired s = .next t ∧ t.dev.state = (if s.stop.cause = 0x11 then .fault else .safeStop) ∧
      t.th.pwrOff = true ∧ t.dev.stopAsserted = false ∧ t.stop.step = 0) ∧
  (∀ s : State, s.fwRuns → s.sec.dead = false → s.pins.halted = false →
    (s.dev.state = .managed ∨ s.dev.state = .operational) →
    ∃ t, exec .watchdogExpiry s = .next t ∧ t.sec.dead = true ∧ t.dev.state = .quiescing ∧ t.stop.cause = 0x11) ∧
  (∀ s : State, s.fwRuns → s.sec.trap → s.sec.dead = false → (s.dev.state = .managed ∨ s.dev.state = .operational) →
    ∃ t, exec .coreTrapTimeout s = .next t ∧ t.sec.dead = true ∧ t.sec.trap = false ∧ t.dev.state = .quiescing ∧
      t.stop.cause = 0x11) ∧
  (∀ s : State, s.fwRuns → s.sec.dead = false → ∃ t, exec .watchdogRestart s = .next t ∧ t.sec.trap = false) ∧
  (∀ s : State, s.dev.state ≠ .off → s.dev.state ≠ .aon → s.dev.state ≠ .fault →
    ∃ t, exec .thermtrip s = .next t ∧ t.th.tripped = true ∧ t.dev.state = .fault ∧ t.rd 0x1010 4 = 0x10) ∧
  (∀ s : State, (s.dev.state = .aon ∨ s.dev.state = .fault) →
    ∃ t, exec .thermtrip s = .next t ∧ t.th.tripped = true ∧ t.dev.state = s.dev.state)

/-- Supply loss and removal, POR, the way to AWAIT_FW and the reset classes (R34, R379, R434–R436, R446–R448). -/
def Obligations.PowerAndResetMoveTheDevice : Prop :=
  (∀ s : State, s.powered →
    ∃ t, exec .vccBaseLoss s = .next t ∧ t.dev.state = .aon ∧ t.dev.held = false ∧ t.rd 0x1010 4 = 0x13 ∧
      t.pwr.inRange = s.pwr.inRange) ∧
  (∀ s : State, ∃ t, exec .porAssert s = .next t ∧ t.dev.state = .off ∧ t.dev.aonTime = 0 ∧ t.reg = [] ∧
    t.mem = Mem.init ∧ t.panels = [] ∧ t.pending = s.pending) ∧
  (∀ (straps : Nat) (s : State), s.dev.state = .off →
    ∃ t, exec (.porRelease straps) s = .next t ∧ t.dev.state = .aon ∧ t.rd 0x2020 2 = 1 ∧
      t.rd 0x1100 1 = 0x30 + bits straps 9 8) ∧
  (∀ s : State, s.dev.state = .aon → s.dev.resetLow = false → (∀ r ∈ [1, 2, 3, 4], r ∈ s.pwr.inRange) →
    ∃ t, exec .bootEntry s = .next t ∧ t.dev.state = .boot ∧ t.dev.held = false ∧ t.th.pwrOff = false) ∧
  (∀ (r : RomResult) (s : State), s.dev.state = .boot → s.dev.held = false → r.selfCheckOk → r.fusesOk →
    s.sec.fuses.lifeGood → (s.latchFuses.bondTest r.failingBonds s.fullTest).1 = false →
    ∃ t, exec (.bootRomDone r) s = .next t ∧ t.dev.state = .awaitFw ∧ t.bootFn = true ∧ t.sec.keys = s.sec.fuses.keys) ∧
  (∀ (r : RomResult) (s : State), s.dev.state = .boot → s.dev.held = false →
    (r.selfCheckOk && r.fusesOk && s.sec.fuses.lifeGood) = false →
    ∃ t, exec (.bootRomDone r) s = .next t ∧ t.dev.state = .fault ∧ t.rd 0x1010 4 = 0x12) ∧
  (∀ (rail : Nat) (s : State), s.mayRemove → 4 ≤ rail → rail < 12 →
    ∃ t, exec (.supplyRemoval rail) s = .next t ∧ rail ∈ t.pwr.removed ∧ rail ∉ t.pwr.inRange) ∧
  (∀ s : State, s.powered → ∃ t, exec .resetNAssert s = .next t ∧ t.dev.resetLow = true ∧ t.dev.held = true ∧
    t.rd 0x2020 2 = 2 ∧ t.mem = Mem.init) ∧
  (∀ s : State, s.powered → s.dev.held → s.warmRuns = false →
    ∃ t, exec .coldResetRelease s = .next t ∧ t.dev.state = .boot ∧ t.dev.held = false ∧ t.dev.resetLow = false) ∧
  (∀ s : State, s.powered → s.dev.held = false →
    ∃ t, exec .warmNAssert s = .next t ∧ t.dev.held = true ∧ t.memKept = true ∧ t.rd 0x2020 2 = 4) ∧
  (∀ (l : List Nat) (s : State), s.dev.resetDue = 1 :: l → s.powered → s.sal.resetsOpen ≤ l.length →
    ∃ t, exec .resetTakeHold s = .next t ∧ t.dev.resetDue = l ∧ t.dev.held = true ∧ t.rd 0x2020 2 = 3) ∧
  (∀ (l : List Nat) (s : State), s.dev.resetDue = 2 :: l → s.powered → s.sal.resetsOpen ≤ l.length →
    (s.dev.held = false → ∃ t, exec .resetTakeHold s = .next t ∧ t.dev.resetDue = l ∧ t.dev.held = true ∧ t.rd 0x2020 2 = 5) ∧
    (s.dev.held = true → exec .resetTakeHold s = .next s)) ∧
  (∀ s : State, s.powered → s.dev.held → s.warmRuns → s.anyReady = false →
    ∃ t, exec .baseWarmRelease s = .next t ∧ t.dev.state = .boot ∧ t.dev.held = false ∧ t.warmRuns = false)

/-- Rails (R433), PMBus (R437, R438), power estimates (R439, rounding of log 41) and process monitors (R440). -/
def Obligations.RailsAndRegulatorsAreFollowed : Prop :=
  (∀ (m : Nat) (s : State), m < 24 → monitorRail m ∈ s.pwr.inRange → s.dev.state ≠ .off →
    ∃ t, exec (.railOutOfRange m) s = .next t ∧ monitorRail m ∉ t.pwr.inRange) ∧
  (∀ (m : Nat) (s : State), m < 24 → monitorRail m ∉ s.pwr.inRange → s.dev.state ≠ .off →
    ∃ t, exec (.railInRange m) s = .next t ∧ monitorRail m ∈ t.pwr.inRange ∧
      (s.railReports (monitorRail m) → t.hold 0x13 = (s.hold 0x13).post 0x13 0x02 m)) ∧
  (∀ (e vout iout temp status : Nat) (modeOk : Bool) (s : State), s.mgmtRuns → e ∈ s.regEntries →
    ∃ t, exec (.pmbusPoll e true modeOk vout iout temp status) s = .next t ∧
      t.pwr.reading e = ⟨vout, iout, temp, status⟩) ∧
  (∀ (e vout iout temp status : Nat) (modeOk : Bool) (s : State), s.mgmtRuns → e ∈ s.regEntries →
    ∃ t, exec (.pmbusPoll e false modeOk vout iout temp status) s = .next t ∧
      t.hold 0x13 = (s.hold 0x13).post 0x13 0x03 (4096 * (e - 1) + 0xFFFF % 4096)) ∧
  (∀ (l : List (Nat × Option Nat)) (e w : Nat) (s : State), s.mgmtRuns → e ∈ s.regEntries →
    l.find? (fun x => x.1 = e) = some (e, some w) →
    ∃ t, exec (.pmbAlert l) s = .next t ∧ (t.pwr.reading e).status = w) ∧
  (∀ (src : Source) (mv : Nat) (s : State), s.admits src 0x2002 1 3 (leBytes 2 mv) true true → s.setpointMoves = false →
    ∃ t, exec (.vcoreSetpointWrite src mv) s = .next t ∧ t.rd 0x2002 1 = mv % 2 ^ 16 ∧ t.saidOk src) ∧
  (∀ s : State, s.mgmtRuns → s.setpointMoves →
    ∃ t, exec .vcoreSetpointStep s = .next t ∧ t.pwr.setNow = stepToward s.pwr.setNow (s.rd 0x2002 1) ∧
      t.pwr.setNow ≤ s.pwr.setNow + 5 ∧ s.pwr.setNow ≤ t.pwr.setNow + 5) ∧
  (∀ (mv2 mv4 : Nat) (toggles : List (Nat × Nat)) (s : State), s.mgmtRuns →
    ∃ t, exec (.powerEstimate mv2 mv4 toggles) s = .next t ∧
      ∀ p x, p < 32 → s.panelTemp p = some x →
        t.rd 0x2003 p = min maxU32 (s.rawPower p (if p < 16 then mv2 else mv4)
          (min 65536 (Tab.look (fun _ => 0) toggles p)) x * s.rd 0x2004 3 / 1024)) ∧
  (∀ s : State, s.mgmtRuns → ∃ t, exec .powerCalibration s = .next t ∧ t.rd 0x2004 3 = s.ratio) ∧
  (∀ s : State, s.mgmtRuns → s.pwr.highNoted = false → 1000 * s.rd 0x2004 2 < s.rd 0x2004 1 →
    ∃ t, exec .powerHighConfirm s = .next t ∧ t.pwr.highNoted = true ∧
      t.hold 0x13 = (s.hold 0x13).post 0x13 0x04 (s.rd 0x2004 1 / 1000)) ∧
  (∀ (mv2 mv4 n khz : Nat) (l : List (Nat × Nat)) (s : State), s.mgmtRuns → n < 64 →
    ∃ t, exec (.processMonitorRead mv2 mv4 (l ++ [(n, khz)])) s = .next t ∧ t.rd 0x2005 n = khz % 2 ^ 32)

/-- Clocks (R441–R445), the management core's base channel (R137, R140) and its Ethernet link (R373). -/
def Obligations.ClocksStartLoseAndTakeLock : Prop :=
  (∀ (n : Nat) (s : State), ∃ t, exec (.clockDomainStart n) s = .next t ∧ (n ∈ t.pwr.clkUp ↔ s.clockNeeded n)) ∧
  (∀ (n : Nat) (s : State), 3 ≤ n → s.clockNeeded n → n ∈ s.pwr.clkUp → n ∉ s.clkLost → s.pwr.refLost = false →
    ∃ t, exec (.pllUnlock n) s = .next t ∧ n ∈ t.clkLost ∧ t.hold 0x14 = (s.hold 0x14).post 0x14 0x03 n) ∧
  (∀ (n : Nat) (s : State), n ∈ s.clkLost → ¬(7 ≤ n ∧ n - 7 ∈ s.pwr.relock) →
    ∃ t, exec (.pllRelock n) s = .next t ∧ n ∉ t.clkLost) ∧
  (∀ s : State, s.mgmtRuns → s.pwr.refLost = false →
    ∃ t, exec .refLoss s = .next t ∧ t.pwr.refLost = true ∧ t.rd 0x2102 2 = satAdd maxU32 (s.rd 0x2102 2) 1 ∧
      t.hold 0x14 = (s.hold 0x14).post 0x14 0x01 0) ∧
  (∀ s : State, s.mgmtRuns → s.pwr.refLost →
    ∃ t, exec .refRestored s = .next t ∧ t.pwr.refLost = false ∧ t.hold 0x14 = (s.hold 0x14).post 0x14 0x02 0) ∧
  (∀ (src : Source) (n khz : Nat) (s : State), n < 8 →
    s.admits src 0x2100 n 4 (leBytes 4 khz) true (khz % 2 ^ 32 ≤ Config.maxFclkKhz) →
    s.selects n .test = false → s.selects n .running = false →
    ∃ t, exec (.fclkFreqWrite src n khz) s = .next t ∧ t.rd 0x2100 n = khz % 2 ^ 32 ∧ t.saidOk src) ∧
  (∀ (n : Nat) (s : State), n ∈ s.pwr.relock →
    ∃ t, exec (.fclkRelockDone n) s = .next t ∧ n ∉ t.pwr.relock ∧ 7 + n ∉ t.clkLost) ∧
  (∀ s : State, s.dev.state ≠ .off → (List.range 16).filterMap s.sensor ≠ [] →
    ∃ t, exec .aonRetrim s = .next t ∧ t.pwr.aonTrim = trimWord (((List.range 16).filterMap s.sensor).sum /
      (((List.range 16).filterMap s.sensor).length : Int)) ∧ t.dev.aonTime = s.dev.aonTime) ∧
  (∀ (n : Nat) (s : State), 3 ≤ n → s.clockNeeded n → n ∈ s.pwr.clkUp → s.pllMoved n →
    ∃ t, exec (.pllRecalibration n) s = .next t ∧ t.rd 0x2102 1 = satAdd maxU32 (s.rd 0x2102 1) 1 ∧ t.pllMoved n = false) ∧
  (∀ (up : Bool) (speed : Nat) (s : State), s.clockNeeded 25 → speed < 3 →
    ∃ t, exec (.ethLinkChange up speed) s = .next t ∧ t.rd 0x1100 0x0A = flag up + 2 * speed) ∧
  (∀ (addr be data : Nat) (s : State), s.fwRuns → s.sec.dead = false → s.pins.halted = false →
    s.goes (s.bankOpen 0x43 (bankOf addr)) 0x43 →
    (∃ t, exec (.mgmtBaseChannelAccess 2 addr be data) s = .next t ∧
      t.out.getLast? = some (.coreData (s.tierWrite 0x43 addr be data).1 0)) ∧
    (∃ t, exec (.mgmtBaseChannelAccess 3 addr be data) s = .next t ∧
      t.out.getLast? = some (.coreData (s.tierWriteRow 0x43 (bankOf addr) (rowOf addr) data).1 0)) ∧
    ((s.tierRead 0x43 addr 1).status < 3 →
      ∃ t, exec (.mgmtBaseChannelAccess 0 addr be data) s = .next t ∧
        t.out.getLast? = some (.coreData (s.tierRead 0x43 addr 1).status (s.tierRead 0x43 addr 1).data)) ∧
    (3 ≤ (s.tierRead 0x43 addr 1).status →
      ∃ t, exec (.mgmtBaseChannelAccess 0 addr be data) s = .next t ∧ t.sec.trap = true) ∧
    ((s.tierRead 0x43 (addr / 8 * 8) 8).status < 3 →
      ∃ t, exec (.mgmtBaseChannelAccess 1 addr be data) s = .next t ∧
        t.out.getLast? = some (.coreData (s.tierRead 0x43 (addr / 8 * 8) 8).status (s.tierRead 0x43 (addr / 8 * 8) 8).data))) ∧
  (∀ (kind addr be data : Nat) (s : State), s.fwRuns → s.sec.dead = false → s.pins.halted = false →
    s.goes (s.bankOpen 0x43 (bankOf addr)) 0x43 = false →
    exec (.mgmtBaseChannelAccess kind addr be data) s =
      .next { s with stalled := s.stalled ++ [(0x43, .mgmtBaseChannelAccess kind addr be data)] })

/-- GPIO (R474–R482). -/
def Obligations.PinsFollowTheirRegisters : Prop :=
  (∀ (src : Source) (n v : Nat) (s : State), n < 64 →
    s.admits src 0x7000 n 4 (leBytes 4 v) (bits v 31 30 ≠ 3 || s.eyeletsOpen) (pinFits (v % 2 ^ 32)) →
    s.sec.fuses.secPins.testBit n = false → bits (v % 2 ^ 32) 31 30 ≠ 1 →
    ∃ t, exec (.pinConfigWrite src n v) s = .next t ∧ t.rd 0x7000 n = v % 2 ^ 32 ∧ t.saidOk src) ∧
  (∀ (n : Nat) (board level : Bool) (s : State), n < 64 → (s.pin n).hold → s.padLive n →
    ∃ t, exec (.pinHoldWindowEnd n board level) s = .next t ∧ (t.pin n).hold = false ∧
      (t.pin n).seen = (if (t.pin n).drive then (t.pin n).level
        else if !board && (s.pinConfig n).testBit 7 then (if (s.pin n).drive then (s.pin n).level else (s.pin n).seen)
        else level)) ∧
  (∀ (src : Source) (g v : Nat) (s : State), g < 4 → s.admits src 0x7001 g 4 (leBytes 4 v) true true →
    ∃ t, exec (.gpioOutWrite src g v) s = .next t ∧ t.saidOk src ∧ ∀ i, i < 16 → (t.rd 0x7001 g).testBit i =
      (if v.testBit (16 + i) && s.isGpio (16 * g + i) then v.testBit i else (s.rd 0x7001 g).testBit i)) ∧
  (∀ (src : Source) (g v : Nat) (s : State), g < 4 → s.admits src 0x7002 g 4 (leBytes 4 v) true true →
    ∃ t, exec (.gpioOeWrite src g v) s = .next t ∧ t.saidOk src ∧ ∀ i, i < 16 → (t.rd 0x7002 g).testBit i =
      (if v.testBit (16 + i) && s.isGpio (16 * g + i) then v.testBit i else (s.rd 0x7002 g).testBit i)) ∧
  (∀ (n : Nat) (level : Bool) (s : State), s.levelTurns n level → s.pinRole n ≠ (0, 3) →
    ∃ t, exec (.gpioEdge n level) s = .next t ∧ (t.pin n).seen = level ∧
      (s.isGpio n → s.edgeOn n level → (t.rd 0x7004 (n / 16)).testBit (n % 16) = true ∧
        t.hold 0x16 = (s.hold 0x16).post 0x16 0x01 (256 * flag level + n))) ∧
  (∀ (n : Nat) (level : Bool) (s : State), s.levelTurns n level → s.pinRole n = (0, 3) → s.edgeOn n level →
    (∀ at0, s.pins.syncAt = some at0 → at0 + 2 ≤ s.dev.aonTime) →
    ∃ t, exec (.syncCapture n level) s = .next t ∧ t.rd 0x7005 1 = s.dev.aonTime % 2 ^ 64 ∧
      t.rd 0x7005 2 = satAdd maxU32 (s.rd 0x7005 2) 1 ∧ t.hold 0x16 = (s.hold 0x16).post 0x16 0x02 n) ∧
  (∀ (src : Source) (g v : Nat) (s : State), g < 4 → s.admits src 0x7004 g 4 (leBytes 4 v) true true →
    ∃ t, exec (.edgePendingWrite src g v) s = .next t ∧ t.saidOk src ∧ ∀ i, i < 16 →
      (t.rd 0x7004 g).testBit i = ((s.rd 0x7004 g).testBit i && !v.testBit i))

/-- Eyelets (R485–R488) and JTAG (R489–R491). -/
def Obligations.EyeletsAndJtagAnswer : Prop :=
  (∀ (src : Source) (k v : Nat) (s : State), k < 8 →
    s.admits src 0x7100 k 4 (leBytes 4 v) s.eyeletsOpen (eyeletFits (v % 2 ^ 32)) →
    ∃ t, exec (.eyeletSelectWrite src k v) s = .next t ∧ t.rd 0x7100 k = v % 2 ^ 32 ∧ k ∉ t.pins.frozen.map (·.1) ∧ t.saidOk src) ∧
  (∀ (g : Nat) (s : State), g < 2 → s.eyeletsOpen → s.mgmtRuns →
    ∃ t, exec (.eyeletTrigger g) s = .next t ∧ t.hold 0x17 = (s.hold 0x17).post 0x17 0x01 g ∧
      ∀ k, k < 8 → (k ∈ t.pins.frozen.map (·.1) ↔ k ∈ s.pins.frozen.map (·.1) ∨ s.freezes g k) ∧
        ∀ b, s.freezes g k → s.eyeletLevel k = some b → (k, b) ∈ t.pins.frozen) ∧
  (∀ (c : Nat) (s : State), s.dev.state ≠ .off → c ∈ jtagCodes → s.jtagLife c → s.jtagState c →
    ∃ t, exec (.jtagInstructionUpdate c) s = .next t ∧ t.pins.ir = c) ∧
  (∀ (c : Nat) (s : State), s.dev.state ≠ .off → c ∉ jtagCodes →
    ∃ t, exec (.jtagInstructionUpdate c) s = .next t ∧ t.pins.ir = 0xFF ∧ t.rd 0x7101 2 = s.rd 0x7101 2) ∧
  (∀ (c : Nat) (s : State), s.dev.state ≠ .off → c ∈ jtagCodes → (s.jtagLife c && s.jtagState c) = false →
    ∃ t, exec (.jtagInstructionUpdate c) s = .next t ∧ t.pins.ir = 0xFF ∧
      t.rd 0x7101 2 = satAdd maxU32 (s.rd 0x7101 2) 1 ∧
      t.hold 0x17 = (s.hold 0x17).post 0x17 0x02 ((if s.jtagLife c then 0x200 else 0x100) + c)) ∧
  (∀ (a : Nat) (s : State), s.jtagRuns 0x40 →
    ∃ t, exec (.jtagFuseRead a) s = .next t ∧
      t.out = s.out ++ [.capture (2 ^ 256 * (a % 65536) + s.sec.fuses.word (a % 65536))]) ∧
  (∀ (a d : Nat) (s : State), s.jtagRuns 0x41 → s.fuseFree (s.sec.fuses.word (a % 65536) = 0) →
    ∃ t, exec (.jtagFuseProgram a d) s = .next t ∧
      t.sec.op = some ⟨jtagFuseKind (a % 65536), a % 65536, d % 2 ^ 256, none⟩ ∧
      t.out = s.out ++ [.capture s.sec.jtagFuse]) ∧
  (∀ (a d : Nat) (s : State), s.jtagRuns 0x41 → s.fuseFree (s.sec.fuses.word (a % 65536) = 0) = false →
    ∃ t, exec (.jtagFuseProgram a d) s = .next t ∧ t.sec.jtagFuse = 2 ∧ t.sec.op = s.sec.op) ∧
  (∀ s : State, s.jtagRuns 0x43 → ∃ t, exec .jtagProbeScan s = .next t ∧ t.out = s.out ++ [.capture s.probes]) ∧
  (∀ (a d : Nat) (s : State), s.jtagRuns 0x42 → s.dev.held = false →
    (∃ t, exec (.coreDebugAccess 0 a d) s = .next t ∧ t.pins.halted = true) ∧
    (∃ t, exec (.coreDebugAccess 1 a d) s = .next t ∧ t.pins.halted = false) ∧
    (∃ t, exec (.coreDebugAccess 2 a d) s = .next t ∧ t.pins = s.pins) ∧
    (∃ t, exec (.coreDebugAccess 3 a d) s = .next t ∧ t.out.length = s.out.length + 1) ∧
    (∃ t, exec (.coreDebugAccess 4 a d) s = .next t ∧ t.pins = s.pins) ∧
    (∃ t, exec (.coreDebugAccess 5 a d) s = .next t ∧ t.out = s.out ++ [.capture (s.sec.byte (a % 524288)).toNat]) ∧
    (∃ t, exec (.coreDebugAccess 6 a d) s = .next t ∧ t.sec.byte (a % 524288) = BitVec.ofNat 8 d)) ∧
  (∀ s : State, ∃ t, exec .trst s = .next t ∧ t.pins.ir = 1)

/-- The fabric commands (R46, R56, R59, R61). -/
def Obligations.FabricCommandsTakeEffect : Prop :=
  (∀ (src : Source) (p v : Nat) (s : State), s.admits src 0x3205 p 2 (leBytes 1 v) true true →
    ((s.panel p).pstate = .empty ∨ (s.panel p).pstate = .held) → (s.panel p).tileBusy = false →
    ∃ t, exec (.tileMemClear src p v) s = .next t ∧ (t.panel p).tileBusy = true ∧ t.saidOk src) ∧
  (∀ (p : Nat) (s : State), (s.panel p).tileBusy → s.shutRuns → (s.panel p).restaging = false →
    ∃ t, exec (.tileMemClearDone p) s = .next t ∧ (t.panel p).tileBusy = false ∧ (t.panel p).tileMem = [] ∧
      ((s.panel p).releaseWait.isSome → (s.panel p).pstate = .held → s.dev.state = .operational →
        (t.panel p).pstate = .running)) ∧
  (∀ (src : Source) (p v : Nat) (s : State), s.admits src 0x3200 p 2 (leBytes 1 v) true true →
    (s.panel p).pstate ≠ .test → (s.panel p).pstate ≠ .running →
    ∃ t, exec (.panelClockSelWrite src p v) s = .next t ∧ t.rd 0x3200 p = v ∧ t.saidOk src) ∧
  (∀ (p c : Nat) (s : State), s.panelTicks p → s.rd 0x3203 p = 1 →
    ∃ t, exec (.userEvent p c) s = .next t ∧
      t.hold (userPort p) = (s.hold (userPort p)).post (fabricCode p) 0x10 (256 * p + c % 256)) ∧
  (∀ (p c : Nat) (s : State), s.panelTicks p → s.rd 0x3203 p ≠ 1 →
    ∃ t, exec (.userEvent p c) s = .next t ∧ t.rd 0x3204 p = satAdd maxU32 (s.rd 0x3204 p) 1 ∧
      t.dev.evtHolds = s.dev.evtHolds) ∧
  (∀ (p : Nat) (s : State), s.resetPasses p →
    ∃ t, exec (.panelResetEnd p) s = .next t ∧ (t.panel p).reset = none ∧
      (((s.panel p).reset = some .parked ∨ (s.panel p).reset = some .clocked) → (t.panel p).live = (s.panel p).initLive) ∧
      ((s.panel p).reset = some .parked → (t.panel p).parked = false)) ∧
  (∀ (p : Nat) (s : State), s.resetPasses p = false → exec (.panelResetEnd p) s = .next s)

/-- SHUTTLE_REQUEST (R75, R80). -/
def Obligations.ShuttleRequestsTakeEffect : Prop :=
  (∀ (src : Source) (p k : Nat) (fresh : Bool) (rivals : List Rival) (s : State),
    s.admits src 0x3100 p 3 (leBytes 2 (switchValue k fresh)) true (shuttleFits (switchValue k fresh)) →
    s.switchStatus p k = .ok → s.switchStarts p k →
    ∃ t, exec (.shuttleSwitch src p k fresh rivals) s = .next t ∧
      (t.panel p).switch.map (fun w => (w.slot, w.fresh)) = some (k, fresh) ∧ (dictionaryAlone rivals → t.saidOk src)) ∧
  (∀ (src : Source) (p k q j : Nat) (fresh other : Bool) (s : State),
    s.admits src 0x3100 p 3 (leBytes 2 (switchValue k fresh)) true (shuttleFits (switchValue k fresh)) →
    s.switchStatus p k = .ok → reqSource p (s.rd 0x3104 p) = some q → s.raises q p j other → s.shutRuns →
    ∃ t, exec (.shuttleSwitch src p k fresh [⟨2, q, j, other⟩]) s = .next t ∧
      t.rd 0x3107 p = satAdd maxU32 (s.rd 0x3107 p) 1 ∧ t.saidOk src) ∧
  (∀ (src : Source) (p k : Nat) (rivals : List Rival) (s : State), s.admits src 0x3100 p 3 (leBytes 2 (0x20 + k)) true (shuttleFits (0x20 + k)) →
    s.frozen = false → ((s.panel p).pstate = .held ∨ (s.panel p).pstate = .running) → (s.panel p).switch = none →
    (s.panel p).slot k = .valid →
    ∃ t, exec (.shuttleStage src p k rivals) s = .next t ∧ (t.panel p).staging = some (k, .plain) ∧ (dictionaryAlone rivals → t.saidOk src)) ∧
  (∀ (src : Source) (p k : Nat) (rivals : List Rival) (s : State), s.admits src 0x3100 p 3 (leBytes 2 (0x30 + k)) true (shuttleFits (0x30 + k)) →
    s.frozen = false → (s.panel p).pstate ≠ .test → (s.panel p).switch = none → (s.panel p).slot k = .staged →
    ∃ t, exec (.shuttleUnstage src p k rivals) s = .next t ∧ (t.panel p).slot k = .valid ∧ (dictionaryAlone rivals → t.saidOk src)) ∧
  (∀ (src : Source) (p k : Nat) (rivals : List Rival) (s : State), s.admits src 0x3100 p 3 (leBytes 2 (0x40 + k)) true (shuttleFits (0x40 + k)) →
    s.frozen = false → (s.panel p).pstate = .held → (s.panel p).slot k = .staged →
    ∃ t, exec (.shuttleSelect src p k rivals) s = .next t ∧ (t.panel p).slot k = .active ∧ (dictionaryAlone rivals → t.saidOk src)) ∧
  (∀ (src : Source) (p k : Nat) (rivals : List Rival) (s : State), s.admits src 0x3100 p 3 (leBytes 2 (0x40 + k)) true (shuttleFits (0x40 + k)) →
    s.frozen = false → (s.panel p).pstate = .empty → (s.panel p).slot k = .valid →
    ∃ t, exec (.shuttleSelect src p k rivals) s = .next t ∧ (t.panel p).staging = some (k, .activation) ∧ (dictionaryAlone rivals → t.saidOk src)) ∧
  (∀ (src : Source) (p : Nat) (fresh : Bool) (rivals : List Rival) (s : State),
    s.admits src 0x3100 p 3 (leBytes 2 (0x50 + 8 * flag fresh)) true true →
    s.frozen = false → (s.panel p).pstate = .held → s.dev.state = .operational → (s.panel p).tileBusy = false → (s.panel p).restaging = false →
    ∃ t, exec (.shuttleRelease src p fresh rivals) s = .next t ∧ (t.panel p).pstate = .running ∧ (t.panel p).parked = false ∧
      (fresh → (t.panel p).live = (s.panel p).initLive) ∧ (dictionaryAlone rivals → t.saidOk src)) ∧
  (∀ (src : Source) (p : Nat) (rivals : List Rival) (s : State), s.admits src 0x3100 p 3 (leBytes 2 0x60) true true →
    s.frozen = false → (s.panel p).pstate = .running → (s.panel p).switch = none →
    ∃ t, exec (.shuttleHold src p rivals) s = .next t ∧ (t.panel p).pstate = .held ∧ (t.panel p).parked = true ∧ (dictionaryAlone rivals → t.saidOk src)) ∧
  (∀ (src : Source) (p k : Nat) (rivals : List Rival) (s : State), s.admits src 0x3100 p 3 (leBytes 2 (0x70 + k)) true (shuttleFits (0x70 + k)) →
    s.frozen = false → (s.panel p).pstate ≠ .test → (s.panel p).slot k = .valid →
    ∃ t, exec (.shuttleInvalidate src p k rivals) s = .next t ∧ (t.panel p).slot k = .invalid ∧ t.dev.publishDue = true ∧
      (dictionaryAlone rivals → t.saidOk src)) ∧
  (∀ (src : Source) (p k : Nat) (rivals : List Rival) (s : State), s.admits src 0x3100 p 3 (leBytes 2 (0x70 + k)) true (shuttleFits (0x70 + k)) →
    s.frozen = false → (s.panel p).pstate = .held → (s.panel p).slot k = .active → (s.panel p).slotsIn .valid = [] →
    (s.panel p).slotsIn .staged = [] →
    ∃ t, exec (.shuttleInvalidate src p k rivals) s = .next t ∧ (t.panel p).slot k = .invalid ∧ (t.panel p).pstate = .empty ∧
      (dictionaryAlone rivals → t.saidOk src))

/-- Requests without a reply path, tables, staging, the switch cycle and readback (R70–R76, R82–R88). -/
def Obligations.ShuttleWorksWithoutADictionaryWrite : Prop :=
  (∀ (p k q : Nat) (fresh : Bool) (rivals : List Rival) (s : State), reqSource p (s.rd 0x3104 p) = some q → s.shutRuns →
    s.raises q p k fresh → dictionaryAlone rivals → s.switchStatus p k = .ok → s.switchStarts p k →
    ∃ t, exec (.fabricShuttleReq p k fresh rivals) s = .next t ∧
      (t.panel p).switch.map (fun w => (w.slot, w.fresh)) = some (k, fresh)) ∧
  (∀ (p k q a j : Nat) (fresh other : Bool) (s : State), reqSource p (s.rd 0x3104 p) = some q → s.shutRuns →
    s.raises q p k fresh → s.switchStatus p k = .ok → (a, p, j, other) ∈ s.arrivals →
    ∃ t, exec (.fabricShuttleReq p k fresh [⟨3, a, j, other⟩]) s = .next t ∧
      t.arrivals = s.arrivals.erase (a, p, j, other) ∧ t.rd 0x3107 p = satAdd maxU32 (s.rd 0x3107 p) 1) ∧
  (∀ (p k q : Nat) (fresh : Bool) (s : State), reqSource p (s.rd 0x3104 p) = some q → s.shutRuns → s.raises q p k fresh →
    s.switchStatus p k ≠ .ok →
    ∃ t, exec (.fabricShuttleReq p k fresh []) s = .next t ∧ t.rd 0x3107 p = satAdd maxU32 (s.rd 0x3107 p) 1 ∧
      (t.panel p).switch = (s.panel p).switch) ∧
  (∀ (p q k : Nat) (fresh : Bool) (rivals : List Rival) (s : State),
    s.arrivals.find? (fun a => a.2.1 = p) = some (q, p, k, fresh) → s.shutRuns → (∀ r ∈ rivals, 3 ≤ r.kind) →
    s.switchStatus p k = .ok → s.switchStarts p k →
    ∃ t, exec (.queueArrivalRequest p rivals) s = .next t ∧
      ((∀ r ∈ rivals, r.kind = 4) → t.arrivals = s.arrivals.erase (q, p, k, fresh)) ∧
      (t.panel p).switch.map (fun w => (w.slot, w.fresh)) = some (k, fresh)) ∧
  (∀ (src : Source) (p v : Nat) (s : State), s.admits src 0x3105 p 3 (leBytes 2 v) true (sliceFits v) →
    (s.sliceEnable p && s.sliceCount p ≠ v % 32) = false →
    ∃ t, exec (.tsliceControlWrite src p v) s = .next t ∧ t.rd 0x3105 p = v ∧
      (v.testBit 15 = false → (t.panel p).slice = .stopped) ∧ t.saidOk src) ∧
  (∀ (p : Nat) (rivals : List Rival) (s : State), (s.panel p).slice = .first → s.panelTicks p → s.shutRuns →
    (∀ r ∈ rivals, 4 ≤ r.kind) → s.switchStatus p (s.sliceSlot p 0) = .ok → s.switchStarts p (s.sliceSlot p 0) →
    ∃ t, exec (.tsliceRequest p rivals) s = .next t ∧ (t.panel p).slice = .starting ∧
      (t.panel p).switch.map (fun w => (w.slot, w.table)) = some (s.sliceSlot p 0, true)) ∧
  (∀ (p e : Nat) (rivals : List Rival) (s : State), (s.panel p).slice = .counting → s.panelTicks p → s.shutRuns →
    s.sliceAfter p (s.panel p).sliceEntry = some e → (∀ r ∈ rivals, 4 ≤ r.kind) →
    s.switchStatus p (s.sliceSlot p e) = .ok → s.switchStarts p (s.sliceSlot p e) →
    ∃ t, exec (.tsliceRequest p rivals) s = .next t ∧ (t.panel p).slice = .switching ∧ (t.panel p).sliceNext = e ∧
      (t.panel p).switch.map (fun w => (w.slot, w.table)) = some (s.sliceSlot p e, true)) ∧
  (∀ (p : Nat) (s : State), (s.panel p).slice = .noSwitch → s.panelTicks p →
    ∃ t, exec (.tsliceEntryAdvance p) s = .next t ∧ (t.panel p).slice = .counting ∧
      (t.panel p).sliceEntry = (s.panel p).sliceNext) ∧
  (∀ (p : Nat) (s : State), (s.panel p).slice = .counting → s.panelTicks p →
    s.sliceAfter p (s.panel p).sliceEntry = none →
    ∃ t, exec (.tsliceEntryAdvance p) s = .next t ∧ (t.panel p).slice = .stopped ∧ t.sliceEnable p = false) ∧
  (∀ (p k : Nat) (s : State), (s.panel p).staging = some (k, .plain) → (s.panel p).pstate ≠ .test →
    s.shutRuns → (s.panel p).sliceStageDue = false →
    ∃ t, exec (.stagingComplete p) s = .next t ∧ (t.panel p).slot k = .staged ∧ (t.panel p).staging = none) ∧
  (∀ (p k : Nat) (s : State), (s.panel p).staging = some (k, .activation) → (s.panel p).pstate ≠ .test →
    s.shutRuns →
    ∃ t, exec (.stagingComplete p) s = .next t ∧ (t.panel p).slot k = .active ∧ (t.panel p).pstate = .held) ∧
  (∀ (p k tile frame flip : Nat) (why : StageFor) (s : State), (s.panel p).staging = some (k, why) →
    s.shutRuns → (s.panel p).frameBad k tile frame flip →
    ∃ t, exec (.stageCrcError p tile frame flip) s = .next t ∧ (t.panel p).slot k = .invalid) ∧
  (∀ (p : Nat) (w : Switch) (s : State), (s.panel p).switch = some w → w.scheduled → s.panelTicks p →
    ∃ t, exec (.switchCycle p) s = .next t ∧ (t.panel p).slot w.slot = .active ∧ (t.panel p).switch = none ∧
      t.rd 0x3106 p = satAdd (2 ^ 64 - 1) (s.rd 0x3106 p) 1 ∧ (t.panel p).switchedIn = true ∧
      (t.panel p).freshIn = w.fresh ∧ .switchWarn p ∈ t.out ∧ .switchedIn p w.slot w.fresh ∈ t.out) ∧
  (∀ (p pos flip : Nat) (s : State), s.rd 0x310B 1 = 1 → (s.panel p).readable → s.shutRuns → (s.panel p).readNext = some pos →
    (s.panel p).frameBad (pos / 4000) (pos % 4000 / 50) (pos % 50) flip = false →
    ∃ t, exec (.readbackFrame p flip) s = .next t ∧ (t.panel p).readPos = (pos + 1) % 32000 ∧
      (t.panel p).slot (pos / 4000) = (s.panel p).slot (pos / 4000)) ∧
  (∀ (p pos flip : Nat) (s : State), s.rd 0x310B 1 = 1 → (s.panel p).readable → s.shutRuns → (s.panel p).readNext = some pos →
    (s.panel p).frameBad (pos / 4000) (pos % 4000 / 50) (pos % 50) flip →
    ∃ t, exec (.readbackFrame p flip) s = .next t ∧ (t.panel p).slot (pos / 4000) = .invalid ∧
      t.rd 0x310A p = satAdd maxU32 (s.rd 0x310A p) 1)

/-- User logic (R39–R42, R44, R48, R50, R51, R55); what the spec leaves open there is the model's (log 128, log 135, log 136). -/
def Obligations.UserLogicFollowsItsFrames : Prop :=
  (∀ (p tile j : Nat) (s : State), tile < 80 → j < 2560 → (s.panel p).pstate = .running → (s.panel p).reset = none →
    let x := s.panel p
    let m := x.activeMode tile j
    let sum := s.net fabricDepth p (.sum tile j)
    let byp := s.pinValue p (.bypass tile j)
    let rst := s.pinValue p (.reset tile (j / 16))
    let en := s.pinValue p (.enable tile (j / 16))
    (s.edged p).flop tile j false = ffNext (bits m 3 2) rst en (m.testBit 6) (x.flop tile j false)
      (ffInput (bits m 3 2) (s.net fabricDepth p (.o6 tile j)) sum byp) ∧
    (s.edged p).flop tile j true = ffNext (bits m 5 4) rst en (m.testBit 7) (x.flop tile j true)
      (ffInput (bits m 5 4) (s.net fabricDepth p (.o5 tile j)) sum byp)) ∧
  (∀ (p tile j : Nat) (s : State), tile < 80 → j < 2560 → ((s.panel p).reset.isSome ∨ (s.panel p).pstate ≠ .running) →
    (s.edged p).flop tile j false = ((s.panel p).activeMode tile j).testBit 6 ∧
    (s.edged p).flop tile j true = ((s.panel p).activeMode tile j).testBit 7) ∧
  (∀ t j u k : Nat, carryFrom t j = some (u, k) → u = t ∨ u + 10 = t) ∧
  (∀ (m : ArithMode) (acc : Nat) (d : Int), acc < 2 ^ 64 → accumulate m acc d < 2 ^ 64) ∧
  (∀ a b c : Nat, a < 2 ^ 16 → b < 2 ^ 16 → c < 2 ^ 32 → fma16 a b c < 2 ^ 32) ∧
  (∀ (q : MemPort) (t : Tab Nat) (base n i : Nat), i < n →
    tileByte (q.store t base n) (base + i) =
      if q.write && (n = 1 || q.be.testBit i) then q.data / 256 ^ i % 256 else tileByte t (base + i)) ∧
  (∀ (q : MemPort) (t : Tab Nat) (base n k : Nat), k < base ∨ base + n ≤ k → tileByte (q.store t base n) k = tileByte t k) ∧
  (∀ p tile side q u : Nat, p < 32 → tile < 80 → side < 4 → facing p tile side = some (q, u) →
    q / 16 = p / 16 ∧ facing q u (farSide side) = some (p, tile)) ∧
  (∀ (f p tile i : Nat) (s : State), p < 32 →
    stitchClash (s.stitchOn p tile i) (s.stitchOn (pairOf p) tile i) (s.stitchHeld p tile i) ∨
      s.stitchOn p tile i = false ∧ s.stitchOn (pairOf p) tile i = false →
    s.net (f + 1) p (.stitch tile i) = false ∧ s.net (f + 1) (pairOf p) (.stitch tile i) = false) ∧
  (∀ (f p tile side k : Nat) (s : State), (∀ q u, facing p tile side = some (q, u) → (s.panel q).drives = false) →
    let mode := Config.boundaryMode ((s.panel p).activeFrame tile 48) side k
    let regs := Tab.look (fun _ => 0) (s.panel p).boundary (4 * tile + side)
    s.net (f + 1) p (.edge tile side k) =
      if mode = 0 then false else if mode = 1 then regs.testBit k else regs.testBit (128 + k))

/-- The press interface and the word ports (R97–R105). -/
def Obligations.PortsAcceptAndDeliver : Prop :=
  (∀ (tile row : Nat) (persist : Bool) (s : State), s.tileRuns 0 tile → (s.mem.port 0 tile).length < 16 →
    ∃ t, exec (.pressRead tile row persist) s = .next t ∧
      t.mem.port 0 tile = s.mem.port 0 tile ++ [⟨row % 4096, 0, false, persist, 0, 0, s.mem.cycle, 0, false, 0⟩]) ∧
  (∀ (tile row : Nat) (persist : Bool) (s : State), s.tileRuns 0 tile → (s.mem.port 0 tile).length < 16 →
    ∃ t, exec (.pressWrite tile row persist) s = .next t ∧
      t.mem.port 0 tile = s.mem.port 0 tile ++ [⟨row % 4096, 0, true, persist, 0, s.preg tile, s.mem.cycle, 0, false, 0⟩]) ∧
  (∀ (tile tier row word : Nat) (persist : Bool) (s : State), s.wordPortOn (wordPort tier) tile →
    (s.mem.port (wordPort tier) tile).length < 16 →
    ∃ t, exec (.wordRead tile tier row word persist) s = .next t ∧
      t.mem.port (wordPort tier) tile = s.mem.port (wordPort tier) tile ++
        [⟨row % 4096, word % 8, false, persist, 0, 0, s.mem.cycle, 1, false, 0⟩]) ∧
  (∀ (tile tier row word be data : Nat) (persist : Bool) (s : State), s.wordPortOn (wordPort tier) tile →
    (s.mem.port (wordPort tier) tile).length < 16 →
    ∃ t, exec (.wordWrite tile tier row word be data persist) s = .next t ∧
      t.mem.port (wordPort tier) tile = s.mem.port (wordPort tier) tile ++
        [⟨row % 4096, word % 8, true, persist, be % 2 ^ 32, data % 2 ^ 256, s.mem.cycle,
          if be % 2 ^ 32 = 0 then 2 else 1, false, 0⟩]) ∧
  (∀ s : State, s.memRuns →
    ∃ t, exec .pressBudgetGrant s = .next t ∧ t.mem.rotation = (s.mem.rotation + 1) % 16 ∧
      t.rd 0x4000 8 = (if s.pressBudget <
          (((List.range 16).map (fun k => (s.mem.rotation + k) % 16)).flatMap s.budgetTiles).length
        then satAdd (2 ^ 64 - 1) (s.rd 0x4000 8) 1 else s.rd 0x4000 8)) ∧
  (∀ (tile : Nat) (r : PortReq) (l : List PortReq) (s : State), s.tileRuns 0 tile → s.mem.port 0 tile = r :: l →
    r.phase = 2 → (r.crossed && !r.persist) = false →
    ∃ t, exec (.pressCompletion tile) s = .next t ∧ t.mem.port 0 tile = l ∧
      t.out = s.out ++ [.tileDone 0 tile r.status (if r.write then 0 else r.data)] ∧
      t.preg tile = (if r.write then s.preg tile else r.data % 2 ^ 2048)) ∧
  (∀ (tile we data : Nat) (same : Bool) (s : State), s.tileRuns 0 tile → (same && s.loadsPreg tile) = false →
    ∃ t, exec (.pressRegWrite tile we data same) s = .next t ∧
      t.preg tile = mergeWords we (s.preg tile) data 8 % 2 ^ 2048) ∧
  (∀ (tile we data : Nat) (s : State), s.tileRuns 0 tile → s.loadsPreg tile →
    ∃ t, exec (.pressRegWrite tile we data true) s = .next t ∧
      t.rd 0x4000 9 = satAdd maxU32 (s.rd 0x4000 9) 1) ∧
  (∀ (tile tier : Nat) (r : PortReq) (l : List PortReq) (s : State), s.tileRuns (wordPort tier) tile →
    s.mem.port (wordPort tier) tile = r :: l → r.phase = 2 → (r.crossed && !r.persist) = false →
    ∃ t, exec (.wordCompletion tile tier) s = .next t ∧ t.mem.port (wordPort tier) tile = l ∧
      t.out = s.out ++ [.tileDone (wordPort tier) tile r.status (if r.write then 0 else r.data)])

/-- BANK_ADMIT (R107, R114, R115, R126, R130): the store of a press write computed with the meaning's own `State.place`. -/
def Obligations.PressWriteStoresItsRowAndNothingElse : Prop :=
  (∀ (b : Nat) (upsets : List Nat) (r : PortReq) (s s1 : State), s.memRuns → s.sliceOn b = false → b < 1280 →
    s1 = (((s.answerForeign 0 b).answerForeign 2 b).answerForeign 4 b).refuseAtBank b (s.atBank b) → s1.serviceWaits b = false →
    s1.ownHead 0 b = some r → r.write → r.row < 4096 → Tab.wf (fun _ => darnFree) (s.bank b).darn →
    ∃ t, exec (.bankAdmit b upsets) s = .next t ∧
      (∀ w, w < 8 → t.mem.data (s.place (wordAddr b r.row w)) = r.data / 2 ^ (256 * w) % 2 ^ 256) ∧
      t.isWritten b r.row = true ∧
      t.mem.port 0 b = completeFirst 0 0 (s1.mem.port 0 b) ∧
      (∀ pl, (∀ w, w < 8 → pl ≠ s.place (wordAddr b r.row w)) → t.mem.data pl = s.mem.data pl)) ∧
  (∀ (b : Nat) (r : PortReq) (s s1 : State), s.memRuns → s.sliceOn b = false →
    s1 = (((s.answerForeign 0 b).answerForeign 2 b).answerForeign 4 b).refuseAtBank b (s.atBank b) → s1.serviceWaits b = false →
    s1.ownHead 0 b = some r → r.write = false → s.isWritten b r.row = false →
    ∃ t, exec (.bankAdmit b []) s = .next t ∧ t.mem.port 0 b = completeFirst 2 0 (s1.mem.port 0 b) ∧
      t.mem.bytes = s.mem.bytes)

/-- The bank services (R109–R112, R117, R128, R131, R132, R134–R136). -/
def Obligations.BankServicesDoTheirWork : Prop :=
  (∀ (g : Nat) (r : BaseReq) (s : State), s.memRuns → s.channelPick g = some r → bankOf (r.addr / 32) < 1280 →
    s.owns r.code (bankOf (r.addr / 32)) →
    ∃ t, exec (.baseChannelGrant g) s = .next t ∧
      t.atBank (bankOf (r.addr / 32)) = s.atBank (bankOf (r.addr / 32)) ++ [r] ∧ t.channel g = (s.channel g).erase r) ∧
  (∀ (src : Source) (b v : Nat) (s : State), b < 1280 →
    s.admits src (0x4100 + b / 256) (b % 256) 4 (leBytes 4 v) true (bankOwnerFits b v) →
    (s.bank b).handover = false → s.splitOn b = false → (s.ownerUses b || s.testHolds b) = false →
    v % 256 ≠ (s.bank b).owner → ¬((v % 256 = 0x40 ∨ v % 256 = 0x41) ∧ 256 ≤ s.banksOf (v % 256)) →
    ∃ t, exec (.bankOwnerWrite src b v) s = .next t ∧ (t.bank b).handover = true ∧ (t.bank b).newOwner = v % 256 ∧
      (t.bank b).wipe = v.testBit 8 ∧ t.saidOk src) ∧
  (∀ (b : Nat) (s : State), (s.bank b).handover → s.memRuns → s.sliceOn b = false →
    ∃ t, exec (.handoverDrainDone b) s = .next t ∧ (t.bank b).owner = (s.bank b).newOwner ∧
      (t.bank b).handover = false ∧ ((s.bank b).wipe → (t.bank b).wipePending = true ∧ (t.bank b).initRow = 0) ∧
      t.hold 0x07 = (s.hold 0x07).post 0x07 0x01 b) ∧
  (∀ (b : Nat) (s : State), s.memRuns → (s.bank b).wipePending → b < 1280 → s.serviceWaits b = false →
    s.ownerWaits b = false → s.sliceOn b = false →
    ∃ t, exec (.initEngineRow b) s = .next t ∧
      (s.initNext b < 4096 → ∀ w, w < 8 → t.mem.data (s.place (wordAddr b (s.initNext b) w)) = 0) ∧
      (if s.skipWritten b (4095 - s.initNext b) (s.initNext b + 1) < 4096 then (t.bank b).initRow = s.initNext b + 1
        else (t.bank b).wipePending = false ∧ t.hold 0x06 = (s.hold 0x06).post 0x06 0x02 b)) ∧
  (∀ (g : Nat) (r : Repair) (l : List Repair) (s : State), Tab.look (fun _ => []) s.mem.repairs g = r :: l →
    s.memRuns → s.sliceOn r.bank = false → r.stale = false → s.isWritten r.bank r.row → s.splitOn r.bank = false →
    ∃ t, exec (.repairWriteback g) s = .next t ∧ Tab.look (fun _ => []) t.mem.repairs g = l ∧
      t.rd 0x4300 0x0A = satAdd (2 ^ 64 - 1) (s.rd 0x4300 0x0A) 1 ∧
      (∀ w, r.words = [w] → t.mem.data (s.place w.1) = w.2 % 2 ^ 256)) ∧
  (∀ (src : Source) (v e : Nat) (s : State), s.admits src 0x4400 2 4 (leBytes 4 v) true (darnInstallFits v) →
    (s.bank (bankOf v)).spareOf v = none → (s.bank (bankOf v)).darn.any (fun d => d.2.migrating) = false →
    (s.bank (bankOf v)).freeEntry = some e →
    ∃ t, exec (.darnInstall src v) s = .next t ∧
      Tab.look (fun _ => darnFree) (t.bank (bankOf v)).darn e = ⟨false, true, 2, 0, rowOf v, v % 8⟩ ∧ t.saidOk src) ∧
  (∀ (b e : Nat) (d : DarnEntry) (s : State), (s.bank b).darn.find? (fun x => x.2.migrating) = some (e, d) →
    s.memRuns → s.splitOn b = false → s.sliceOn b = false →
    (s.isWritten b d.row = false ∨ tierDecode (wordAddr b d.row d.word) (s.mem.data (wordAddr b d.row d.word))
      (s.mem.chk (wordAddr b d.row d.word)) = .clean) →
    ∃ t, exec (.darnMigration b) s = .next t ∧
      Tab.look (fun _ => darnFree) (t.bank b).darn e = { d with valid := true, migrating := false } ∧
      t.hold 0x08 = (s.hold 0x08).post 0x08 0x03 b ∧
      (s.isWritten b d.row → t.mem.data (spareAt b e) = s.mem.data (wordAddr b d.row d.word))) ∧
  (∀ s : State, s.memRuns → s.rd 0x4300 4 = 1 →
    ∃ t, exec .rinseTick s = .next t ∧ ∀ b, b < 1280 → s.splitOn b = false →
      (if (s.bank b).rinseLag = 4095 then (t.bank b).rinsePtr = ((s.bank b).rinsePtr + 1) % 4096
        else (t.bank b).rinseLag = (s.bank b).rinseLag + 1)) ∧
  (∀ (b : Nat) (upsets : List Nat) (s : State), s.memRuns → s.rd 0x4300 4 = 1 → 0 < (s.bank b).rinseLag → b < 1280 →
    s.splitOn b = false → s.serviceWaits b = false → s.ownerWaits b = false → (s.bank b).wipePending = false →
    s.sliceOn b = false →
    ∃ t, exec (.rinseRow b upsets) s = .next t ∧ (t.bank b).rinsePtr = ((s.bank b).rinsePtr + 1) % 4096 ∧
      (t.bank b).rinseLag = (s.bank b).rinseLag - 1 ∧
      t.rd 0x4300 0x10 = satAdd (2 ^ 64 - 1) (s.rd 0x4300 0x10) 1)

/-- The split-write mode (R139, R140) and base SRAM (R141). -/
def Obligations.SplitWriteActsOnItsWord : Prop :=
  (∀ (src : Source) (b : Nat) (s : State), s.admits src 0x4310 1 3 (leBytes 2 b) s.splitLife true → s.rd 0x4310 2 ≠ 1 →
    ∃ t, exec (.splitBankWrite src b) s = .next t ∧ t.rd 0x4310 1 = b ∧ t.saidOk src) ∧
  (∀ (src : Source) (s : State), s.admits src 0x4310 2 1 (leBytes 1 1) s.splitLife true →
    (s.bank (s.rd 0x4310 1)).handover = false → (s.bank (s.rd 0x4310 1)).owner = 0x43 →
    ∃ t, exec (.splitEnableWrite src true) s = .next t ∧ t.rd 0x4310 2 = 1 ∧ t.saidOk src) ∧
  (∀ (src : Source) (s : State), s.admits src 0x4310 2 1 (leBytes 1 0) s.splitLife true →
    ∃ t, exec (.splitEnableWrite src false) s = .next t ∧ t.rd 0x4310 2 = 0 ∧ t.saidOk src) ∧
  (∀ (src : Source) (l : List Byte) (s : State), s.admits src 0x4310 4 10 l s.splitLife true → s.splitReady →
    s.goes (s.splitOpen true) 0x43 →
    ∃ t, exec (.splitData src l) s = .next t ∧ t.mem.data (s.place s.splitWord) = leValue l % 2 ^ 256 ∧
      t.mem.chk (s.place s.splitWord) = s.mem.chk (s.place s.splitWord) ∧ t.saidOk src) ∧
  (∀ (src : Source) (c : Nat) (s : State), s.admits src 0x4310 5 4 (leBytes 4 c) s.splitLife true → s.splitReady →
    s.goes (s.splitOpen true) 0x43 →
    ∃ t, exec (.splitCheck src c) s = .next t ∧ t.mem.chk (s.place s.splitWord) = c % 2 ^ 32 ∧
      t.mem.data (s.place s.splitWord) = s.mem.data (s.place s.splitWord) ∧ t.saidOk src) ∧
  (∀ (src : Source) (s : State), s.reads src 0x4310 6 → s.goes (s.splitOpen false) 0x43 → s.owns 0x43 (s.rd 0x4310 1) →
    ∃ t, exec (.splitRead src) s = .next t ∧ t.out.getLast? = some (.value src
      (if s.isWritten (s.rd 0x4310 1) (rowOf s.splitWord) then
        splitBytes (s.mem.data (s.place s.splitWord)) (s.mem.chk (s.place s.splitWord)) (s.decodeAt s.splitWord)
      else List.replicate 32 0 ++ leBytes 4 (s.mem.chk (s.place s.splitWord)) ++ [2, 0, 0, 0]))) ∧
  (∀ (src : Source) (s : State), s.goes (s.splitOpen false) 0x43 = false →
    exec (.splitRead src) s = .next { s with stalled := s.stalled ++ [(0x43, .splitRead src)] }) ∧
  (∀ (src : Source) (v : Nat) (s : State), s.admits src 0x4310 7 4 (leBytes 4 v) s.splitLife (bits v 30 26 = 0) →
    s.splitReady →
    ∃ t, exec (.splitFoldOverride src v) s = .next t ∧ t.rd 0x4310 7 = v ∧ t.saidOk src) ∧
  (∀ (n a flips : Nat) (s : State), n < 6 →
    (∀ d c k, baseDecode flips = .correctable d c k →
      ∃ t, exec (.baseSramRead n a flips) s = .next t ∧ t.rd 0x4320 n = satAdd maxU32 (s.rd 0x4320 n) 1) ∧
    (baseDecode flips = .uncorrectable →
      ∃ t, exec (.baseSramRead n a flips) s = .next t ∧ t.rd 0x4321 n = satAdd maxU32 (s.rd 0x4321 n) 1 ∧
        t.hold 0x08 = (s.hold 0x08).post 0x08 0x09 n ∧ (if n = 0 then t.sec.trap = true else t.sramMarked n = true)) ∧
    (baseDecode flips = .address →
      ∃ t, exec (.baseSramRead n a flips) s = .next t ∧ t.rd 0x4321 n = satAdd maxU32 (s.rd 0x4321 n) 1 ∧
        t.hold 0x08 = (s.hold 0x08).post 0x08 0x0A n ∧ (if n = 0 then t.sec.trap = true else t.sramMarked n = true)))

/-- The queue manager (R148–R154). -/
def Obligations.QueueManagementTakesEffect : Prop :=
  (∀ (src : Source) (s : State), s.admits src 0x6000 1 1 (leBytes 1 0) true true →
    s.goes s.qmOpen 0x40 → s.qm.queues.any (fun x => x.2.enabled) = false →
    ∃ t, exec (.qmEnableWrite src false) s = .next t ∧ t.rd 0x6000 1 = 0 ∧ t.qm.rebuilding = false ∧ t.saidOk src) ∧
  (∀ (src : Source) (s : State), s.admits src 0x6000 1 1 (leBytes 1 0) true true → s.goes s.qmOpen 0x40 →
    s.qm.queues.any (fun x => x.2.enabled) →
    ∃ t, exec (.qmEnableWrite src false) s = .next t ∧ t.rd 0x6000 1 = s.rd 0x6000 1 ∧ t.said src .stateConflict) ∧
  (∀ (src : Source) (s : State), s.admits src 0x6000 1 1 (leBytes 1 1) true true → s.goes s.qmOpen 0x40 →
    s.rd 0x6000 1 ≠ 1 →
    s.owns 0x40 s.controlBank → s.isWritten s.controlBank 1024 = false →
    ∃ t, exec (.qmEnableWrite src true) s = .next t ∧ t.rd 0x6000 1 = 1 ∧ t.qm.rebuilding = true ∧ t.saidOk src) ∧
  (∀ s : State, s.qm.rebuilding → s.tierOpen 0x40 →
    ∃ t, exec .qmRebuildDone s = .next t ∧ t.qm.rebuilding = false ∧
      t.hold 0x0D = ((s.rebuilt).hold 0x0D).post 0x0D 0x07
        (satAdd 65535 0 (s.qm.queues.filter (fun x => x.2.msgs ≠ 0)).length)) ∧
  (∀ (src : Source) (b : Nat) (s : State), s.goes s.qmOpen 0x40 = false →
    exec (.poolAdd src b) s = .next { s with stalled := s.stalled ++ [(0x40, .poolAdd src b)] }) ∧
  (∀ (src : Source) (b k : Nat) (s : State), s.admits src 0x6000 4 3 (leBytes 2 b) true true → s.goes s.qmOpen 0x40 →
    s.owns 0x40 b → s.qmRuns →
    s.slotOf b = none → ((List.range 255).map (· + 1)).find? (fun k => !(s.slot k).valid) = some k →
    ∃ t, exec (.poolAdd src b) s = .next t ∧ t.slot k = ⟨true, false, b⟩ ∧ t.saidOk src) ∧
  (∀ (src : Source) (b k : Nat) (s : State), s.admits src 0x6000 5 3 (leBytes 2 b) true true → s.goes s.qmOpen 0x40 →
    s.slotOf b = some k →
    k ≠ 0 → s.qmRuns → s.usedIn k ≠ 0 →
    ∃ t, exec (.poolRemove src b) s = .next t ∧ t.slot k = { s.slot k with draining := true } ∧ t.saidOk src) ∧
  (∀ (src : Source) (q : Nat) (l : List Byte) (s : State),
    s.admits src (0x6010 + q / 256) (q % 256) 10 l true (leValue l % 2 ^ 170 = 0 && setupFits (leValue l)) →
    s.goes s.qmOpen 0x40 → (s.queue q).enabled = false → s.qmRuns →
    ∃ t, exec (.queueSetupWrite src q l) s = .next t ∧
      (t.queue q).setup = 2 ^ 170 * (leValue l / 2 ^ 170) % 2 ^ 255 ∧ t.dev.publishDue = true ∧ t.saidOk src) ∧
  (∀ (src : Source) (q : Nat) (s : State), s.admits src 0x6000 0x0B 4 (leBytes 4 (queueValue 1 q)) true (queueFits (queueValue 1 q)) →
    s.goes s.qmOpen 0x40 → s.qmRuns → (s.queue q).halted = false → (s.queue q).limit ≠ 0 →
    ∃ t, exec (.queueEnable src q) s = .next t ∧ (t.queue q).enabled = true ∧ t.saidOk src) ∧
  (∀ (src : Source) (q : Nat) (s : State), s.admits src 0x6000 0x0B 4 (leBytes 4 (queueValue 2 q)) true (queueFits (queueValue 2 q)) →
    s.goes s.qmOpen 0x40 → s.qmRuns →
    ∃ t, exec (.queueDisable src q) s = .next t ∧ (t.queue q).enabled = false ∧ t.saidOk src) ∧
  (∀ (src : Source) (q : Nat) (s : State), s.admits src 0x6000 0x0B 4 (leBytes 4 (queueValue 3 q)) true (queueFits (queueValue 3 q)) →
    s.goes s.qmOpen 0x40 → s.qmRuns → (s.queue q).enabled = false →
    ∃ t, exec (.queueFlush src q) s = .next t ∧ (t.queue q).msgs = 0 ∧ (t.queue q).cells = 0 ∧
      (t.queue q).halted = false ∧ t.saidOk src) ∧
  (∀ (src : Source) (q : Nat) (s : State), s.admits src 0x6000 0x0B 4 (leBytes 4 (queueValue 4 q)) true (queueFits (queueValue 4 q)) →
    s.goes s.qmOpen 0x40 → s.qmRuns →
    ∃ t, exec (.queueClearFlags src q) s = .next t ∧ (t.queue q).underrun = false ∧ (t.queue q).overflow = false ∧
      t.saidOk src) ∧
  (∀ (link q : Nat) (s : State), s.barLink link → s.dev.state = .operational → s.goes s.qmOpen 0x40 →
    setupFits (2 ^ 170 * (s.qm.staging / 2 ^ 170)) → (s.queue q).enabled = false → s.qmRuns →
    ∃ t, exec (.queueSetupApply link q) s = .next t ∧ t.qm.cmdStatus = 0 ∧
      (t.queue q).setup = 2 ^ 170 * (s.qm.staging / 2 ^ 170) % 2 ^ 255)

/-- Enqueue and dequeue (R155–R166). -/
def Obligations.MessagesAreQueuedAndTaken : Prop :=
  (∀ (link q : Nat) (l : List Byte) (s : State), s.barLink link → s.dev.state = .operational →
    s.goes s.qmOpen 0x40 → (l.length = 1 ∨ l.length = 2 ∨ l.length = 4 ∨ l.length = 8) →
    s.enqStatus q 0 l.length = .ok →
    ∃ t, exec (.enqValue link q l) s = .next t ∧
      (t.queue q).enqs = (s.queue q).enqs ++ [⟨0, link, l.length, (s.allocate (cellsFor l.length)).1⟩]) ∧
  (∀ (link q a n : Nat) (s : State), s.barLink link → s.dev.state = .operational → s.goes s.hostOpen 0x40 → n ≠ 0 →
    s.bufferStatus a n = .ok → s.enqStatus q 0 n = .ok →
    ∃ t, exec (.enqBuffer link q a n) s = .next t ∧ (t.queue q).enqs.length = (s.queue q).enqs.length + 1) ∧
  (∀ (p q n : Nat) (l : List Byte) (s : State), s.panelPort p → s.qmOpen → s.panelEnq p = none →
    s.enqStatus q 1 n = .ok →
    (s.allocate (cellsFor n)).1.length = 1 →
    ∃ t, exec (.panelEnqueueCell p q n true true l) s = .next t ∧
      (t.queue q).enqs = (s.queue q).enqs ++ [⟨1, p, n, (s.allocate (cellsFor n)).1⟩] ∧ t.panelEnq p = none) ∧
  (∀ (p q n : Nat) (first : Bool) (l : List Byte) (x : PanelEnq) (s : State), s.panelPort p → s.qmOpen →
    s.panelEnq p = some x → x.discard = false → x.taken + 1 ≠ x.enq.cells.length →
    ∃ t, exec (.panelEnqueueCell p q n first false l) s = .next t ∧
      t.panelEnq p = some { x with taken := x.taken + 1 }) ∧
  (∀ (q : Nat) (l : List Byte) (s : State), s.fwRuns → s.goes s.qmOpen 0x40 → s.enqStatus q 4 l.length = .ok →
    ∃ t, exec (.mgmtEnqueue q l) s = .next t ∧
      (t.queue q).enqs = (s.queue q).enqs ++ [⟨4, 0, l.length, (s.allocate (cellsFor l.length)).1⟩]) ∧
  (∀ (q : Nat) (e : Enq) (l : List Enq) (s : State), (s.queue q).enqs = e :: l → s.qmRuns → s.tierOpen 0x40 →
    ∃ t, exec (.enqueueCommit q) s = .next t ∧ (t.queue q).enqs = l ∧
      (t.queue q).enqTotal = ((s.queue q).enqTotal + 1) % 2 ^ 32 ∧
      (e.cls ≠ 2 ∨ (s.mover e.who).ended = false → (t.queue q).msgs = (s.queue q).msgs + 1 ∧
        (t.queue q).cells = (s.queue q).cells + e.cells.length)) ∧
  (∀ (link tag q : Nat) (s : State), s.barLink link → s.dev.state = .operational → s.goes s.hostOpen 0x40 →
    (s.queue q).consumer = 0 → s.qmRuns → (s.queue q).halted = false → (s.queue q).deq = none → (s.queue q).msgs = 0 →
    ∃ t, exec (.deqValue link tag q 8) s = .next t ∧ (t.queue q).underrun = true ∧ t.page q = ⟨true, 1, 0⟩) ∧
  (∀ (link tag q len : Nat) (cs : List Nat) (s : State), s.barLink link → s.dev.state = .operational →
    s.goes s.hostOpen 0x40 → (s.queue q).consumer = 0 → s.qmRuns → (s.queue q).halted = false → (s.queue q).deq = none → (s.queue q).msgs ≠ 0 →
    s.headMessage q = some (len, cs) → (s.readCells (cs.take 1)).2.2.1 = false →
    ∃ t, exec (.deqValue link tag q 8) s = .next t ∧
      (t.queue q).deq.map (fun d => (d.len, d.delivered, d.complete)) = some (len, cs.length, true)) ∧
  (∀ (link q a n : Nat) (s : State), s.barLink link → s.dev.state = .operational → s.goes s.hostOpen 0x40 → n ≠ 0 →
    n ≤ 65536 → s.bufferStatus a n = .ok → (s.queue q).consumer = 0 → s.qmRuns → (s.queue q).halted = false → (s.queue q).deq = none →
    (s.queue q).msgs = 0 →
    ∃ t, exec (.deqBuffer link q a n) s = .next t ∧ (t.queue q).underrun = true ∧ t.page q = ⟨true, 1, 0⟩) ∧
  (∀ (link q a n len : Nat) (cs : List Nat) (s : State), s.barLink link → s.dev.state = .operational →
    s.goes s.hostOpen 0x40 → n ≠ 0 →
    n ≤ 65536 → s.bufferStatus a n = .ok → (s.queue q).consumer = 0 → s.qmRuns → (s.queue q).halted = false →
    (s.queue q).deq = none → (s.queue q).msgs ≠ 0 → s.headMessage q = some (len, cs) → len ≤ n →
    (s.readCells cs).2.2.1 = false →
    ∃ t, exec (.deqBuffer link q a n) s = .next t ∧
      (t.queue q).deq.map (fun d => (d.len, d.delivered, d.complete)) = some (len, cs.length, true)) ∧
  (∀ (p q len : Nat) (cs : List Nat) (s : State), s.panelPort p → s.qmOpen → s.panelDeq p = none →
    (s.queue q).consumer = 1 →
    (s.queue q).consumerId = p → s.qmRuns → (s.queue q).halted = false → (s.queue q).deq = none →
    (s.queue q).msgs ≠ 0 → s.headMessage q = some (len, cs) →
    ∃ t, exec (.panelDequeueRequest p q) s = .next t ∧ t.panelDeq p = some q ∧
      (t.queue q).deq.map (fun d => (d.who, d.len)) = some (p, len)) ∧
  (∀ (p q len : Nat) (cs : List Nat) (d : Deq) (s : State), s.panelPort p → s.tierOpen 0x40 →
    s.panelDeq p = some q → (s.queue q).deq = some d → s.qmRuns → d.kind = 2 → d.who = p → d.complete = false →
    s.headMessage q = some (len, cs) →
    (s.tierRead 0x40 (wordAddr (s.cellRow (cs.getD d.delivered 0)).1 (s.cellRow (cs.getD d.delivered 0)).2 0) 8).status ≠ 2 →
    ∃ t, exec (.panelDequeueCell p) s = .next t ∧
      (t.queue q).deq.map (fun d => (d.delivered, d.complete)) = some (d.delivered + 1, decide (d.delivered + 1 = cs.length))) ∧
  (∀ (q len : Nat) (cs : List Nat) (d : Deq) (s : State), (s.queue q).deq = some d → d.complete → s.qmRuns →
    s.tierOpen 0x40 → s.headMessage q = some (len, cs) → (s.queue q).waiting = [] →
    ∃ t, exec (.dequeueCommit q) s = .next t ∧ (t.queue q).deq = none ∧ (t.queue q).msgs = (s.queue q).msgs - 1 ∧
      (t.queue q).cells = (s.queue q).cells - cs.length ∧
      (t.queue q).deqTotal = ((s.queue q).deqTotal + 1) % 2 ^ 32) ∧
  (∀ (q : Nat) (s : State), s.qmRuns → s.tierOpen 0x40 → (s.queue q).idleTimeout ≠ 0 → (s.queue q).enabled → (s.queue q).msgs ≠ 0 →
    (s.queue q).idleFired = false →
    (s.queue q).idleTimeout ≤ (2 ^ 32 + s.dev.aonTime % 2 ^ 32 - (s.queue q).lastRead) % 2 ^ 32 →
    ∃ t, exec (.queueIdleTimeout q) s = .next t ∧ (t.queue q).idleFired = true ∧
      t.hold 0x0D = (s.hold 0x0D).post 0x0D 0x03 q)

/-- The movers (R169–R173) and the vectors (R174–R176). -/
def Obligations.MoversAndVectorsTakeEffect : Prop :=
  (∀ (link m base size : Nat) (s : State), s.barLink link → s.dev.state = .operational → m < 16 →
    ∃ t, exec (.moverEnable link m base size) s = .next t ∧ (t.mover m).enable = true ∧
      (t.mover m).base = base % 2 ^ 31 ∧ (t.mover m).size = size ∧
      (t.mover m).halted = ((s.mover m).halted || !(s.mover m).enable && !s.ringFits (base % 2 ^ 31) size)) ∧
  (∀ (link m n : Nat) (s : State), s.barLink link → s.dev.state = .operational → m < 16 → n < (s.mover m).size →
    ∃ t, exec (.moverTailWrite link m n) s = .next t ∧ (t.mover m).tail = n ∧ (t.mover m).head = (s.mover m).head) ∧
  (∀ (link m : Nat) (s : State), s.barLink link → s.dev.state = .operational → (s.mover m).halted →
    ∃ t, exec (.moverRetry link m) s = .next t ∧ (t.mover m).halted = false ∧ (t.mover m).desc = none ∧
      (t.mover m).head = (s.mover m).head) ∧
  (∀ (link m : Nat) (s : State), s.barLink link → s.dev.state = .operational → s.goes s.moverOpen 0x42 →
    (s.mover m).halted → (s.mover m).size ≠ 0 →
    ∃ t, exec (.moverSkip link m) s = .next t ∧ (t.mover m).halted = false ∧
      (t.mover m).head = ((s.mover m).head + 1) % (s.mover m).size) ∧
  (∀ (link m : Nat) (s : State), s.barLink link → s.dev.state = .operational → (s.mover m).halted →
    ∃ t, exec (.moverReset link m) s = .next t ∧ (t.mover m).halted = false ∧ (t.mover m).head = 0 ∧
      (t.mover m).tail = 0) ∧
  (∀ (m d st : Nat) (l : List Byte) (s u : State), s.moverRuns m → s.moverOpen → s.dev.state = .operational →
    s.stagingBad = false → (s.mover m).desc = some d → (s.mover m).enq = none → dSrcType d = 1 → dDstType d = 1 →
    s.tierBytes (dSrc d + (s.mover m).moved) (min 256 (dLen d - (s.mover m).moved)) 3 = (st, l, u) → st < 3 →
    s.dmaOwns (dDst d + (s.mover m).moved) l.length →
    ∃ t, exec (.moverUnit m) s = .next t ∧
      (if (s.mover m).moved + l.length < dLen d then (t.mover m).moved = (s.mover m).moved + l.length
        else (t.mover m).desc = none ∧
          (t.mover m).head = (if (s.mover m).size = 0 then 0 else ((s.mover m).head + 1) % (s.mover m).size))) ∧
  (∀ (link v f x : Nat) (s : State), s.barLink link → s.dev.state = .operational → v < 4160 → f < 4 →
    ∃ t, exec (.vectorTableWrite link v f x) s = .next t ∧
      (f = 0 → (t.vector v).addr % 2 ^ 32 = x % 2 ^ 32) ∧ (f = 1 → (t.vector v).addr / 2 ^ 32 = x % 2 ^ 32) ∧
      (f = 2 → (t.vector v).data = x % 2 ^ 32) ∧ (f = 3 → (t.vector v).control = x % 2)) ∧
  (∀ (v l : Nat) (s : State), (s.vector v).queued || (s.vector v).pending → (s.vector v).control.testBit 0 = false →
    s.routeLink (bits (s.steer v) 14 12) (s.steer v % 4096) = some l → s.fnMasked l = false → s.isLace l = false →
    ∃ t, exec (.vectorDelivery v) s = .next t ∧ (t.vector v).queued = false ∧ (t.vector v).pending = false ∧
      t.out = s.out ++ [.posted l (s.spid l) (s.steer v % 4096) (s.vector v).addr (leBytes 4 (s.vector v).data) (s.sramMarked 1)]) ∧
  (∀ (v : Nat) (s : State), (s.vector v).queued || (s.vector v).pending → (s.vector v).control.testBit 0 →
    ∃ t, exec (.vectorDelivery v) s = .next t ∧ (t.vector v).pending = true ∧ t.out = s.out) ∧
  (∀ (v l : Nat) (s : State), (s.vector v).queued || (s.vector v).pending → (s.vector v).control.testBit 0 = false →
    s.routeLink (bits (s.steer v) 14 12) (s.steer v % 4096) = some l → s.fnMasked l →
    ∃ t, exec (.vectorDelivery v) s = .next t ∧ (t.vector v).pending = true ∧ t.out = s.out) ∧
  (∀ (v : Nat) (s : State), (s.vector v).queued → (s.vector v).pending = false → (s.vector v).control.testBit 0 = false →
    s.routeLink (bits (s.steer v) 14 12) (s.steer v % 4096) = none →
    ∃ t, exec (.vectorDelivery v) s = .next t ∧ (t.vector v).pending = true ∧
      t.rd 0x6100 2 = satAdd maxU32 (s.rd 0x6100 2) 1)

/-- Attached memory (R206–R222). -/
def Obligations.AttachedMemoryTakesEffect : Prop :=
  (∀ (src : Source) (ds : List Dimm) (s : State), s.admits src 0x5300 5 2 (leBytes 1 1) true true →
    s.dev.state = .managed → s.rd 0x5200 1 ≠ 1 →
    (∀ c, c < 8 → (s.chan c).cstate ≠ .training ∧ (s.chan c).cstate ≠ .selfRefresh) →
    (∀ d ∈ ds, d.crcOk) → populationOk ds →
    ∃ t, exec (.trainFull src ds) s = .next t ∧ (∀ d ∈ ds, (t.chan d.chan).cstate = .training) ∧
      t.rd 0x5300 4 = chanMask ds ∧ t.ddr.lines = [] ∧ t.saidOk src) ∧
  (∀ (src : Source) (s : State), s.admits src 0x5300 5 2 (leBytes 1 2) true true →
    s.dev.state = .managed → s.rd 0x5200 1 ≠ 1 → (∀ c, c < 8 → (s.chan c).cstate ≠ .training) → s.populated ≠ [] →
    (∀ c ∈ s.populated, (s.chan c).cstate = .selfRefresh ∧ (s.chan c).saved = true) →
    ∃ t, exec (.trainResume src) s = .next t ∧
      (∀ c ∈ s.populated, (t.chan c).cstate = .training ∧ (t.chan c).resume = true) ∧ t.saidOk src) ∧
  (∀ (c r m : Nat) (s : State), (s.chan c).cstate = .training → s.dclkRuns → trainResult (s.chan c).resume r (m % 2 ^ 32) = 0 →
    ∃ t, exec (.ddrTrainingDone c r m) s = .next t ∧ (t.chan c).cstate = .ready ∧
      t.hold 0x0C = (s.hold 0x0C).post 0x0C 0x01 (256 * c)) ∧
  (∀ (c r m : Nat) (s : State), (s.chan c).cstate = .training → s.dclkRuns → trainResult (s.chan c).resume r (m % 2 ^ 32) ≠ 0 →
    ∃ t, exec (.ddrTrainingDone c r m) s = .next t ∧ (t.chan c).cstate = .failed ∧
      t.hold 0x0C = (s.hold 0x0C).post 0x0C 0x02 (256 * c + trainResult (s.chan c).resume r (m % 2 ^ 32))) ∧
  (∀ (c flips : Nat) (r : DdrReq) (l : List DdrReq) (s : State), (s.chan c).reads = r :: l → s.dclkRuns →
    (s.chan c).admits (s.writesBack r (lineClass (r.stored.2 ^^^ (flips % 2 ^ 640)))) →
    ∃ t, exec (.ddrReadComplete c flips) s = .next t ∧ (t.chan c).reads = l) ∧
  (∀ (line : Nat) (r : DdrReq) (s : State), s.ddr.issued.find? (fun x => x.line = line) = some r → line < s.ddrLines →
    (s.chan (s.chanOf line)).cstate = .ready → (s.chan (s.chanOf line)).admits r.bursts → s.dclkRuns → s.ddrOpen →
    s.firstInCap (s.chanOf line) r →
    ∃ t, exec (.ddrRequest line) s = .next t ∧ t.ddr.issued = s.ddr.issued.erase r ∧
      (r.write → r.be % 2 ^ 64 = 2 ^ 64 - 1 → Tab.look (fun _ => none) t.ddr.lines line =
        some (r.data % 2 ^ 512, if r.poison then poisonPattern else 0)) ∧
      (r.write = false → (t.chan (s.chanOf line)).reads.length = (s.chan (s.chanOf line)).reads.length + 1)) ∧
  (∀ (c flips : Nat) (s : State), (s.chan c).cstate = .ready → s.rd 0x5300 7 = 1 → s.chanBusy c = false →
    (s.chan c).admits 2 → s.dclkRuns →
    ∃ t, exec (.scrubLine c flips) s = .next t ∧
      (t.chan c).scrubPos = (if s.chanLines ≤ (s.chan c).scrubPos + 1 then 0 else (s.chan c).scrubPos + 1)) ∧
  (∀ (c : Nat) (s : State), ∃ t, exec (.ddrCapWindow c) s = .next t ∧ (t.chan c).used = 0 ∧
    (t.chan c).allow = (if s.throttle.ddrCap then some (s.peakBursts * s.rd 0x5300 9 / 8) else none)) ∧
  (∀ (c slot temp : Nat) (s : State), (s.chan c).dimms.testBit slot → slot < 2 →
    ∃ t, exec (.spdTempPoll c slot temp) s = .next t ∧ (slot ∈ (t.chan c).fast ↔ 85 ≤ temp) ∧
      (95 ≤ temp → slot ∉ (s.chan c).hot → slot ∈ (t.chan c).hot ∧
        t.hold 0x0C = (s.hold 0x0C).post 0x0C 0x07 (256 * c + slot)) ∧
      (temp < 90 → slot ∉ (t.chan c).hot))

/-- The directory engine (R180–R203). -/
def Obligations.DirectoryTakesEffect : Prop :=
  (∀ (link partner dpid op field line tag be data cls m l : Nat) (poison : Bool) (s : State), s.memLink link →
    s.portClock link → s.misrouted link dpid = false → s.dpaLine link (line % 2 ^ 46) = some l →
    (op = 5 → s.snoopSent (s.partnerOf link partner) (l % 2 ^ 36) = none) →
    requestClass op field = some (cls, m) → s.serving → s.ddrReady → s.registered (s.partnerOf link partner) →
    s.pipelineLoad (l % 2 ^ 36) < 512 → 17 ∉ s.clkLost →
    ∃ t, exec (.cxlMemRequest link partner dpid op field line tag be data poison) s = .next t ∧
      t.dir.nextId = s.dir.nextId + 1 ∧ ∃ x ∈ t.dir.txns, x.id = s.dir.nextId ∧ x.cls = cls ∧
        x.partner = s.partnerOf link partner ∧ x.line = l % 2 ^ 36 ∧ x.tag = tag) ∧
  (∀ (link partner dpid field line tag be data l : Nat) (poison : Bool) (x : DirTxn) (s : State), s.memLink link →
    s.portClock link → s.misrouted link dpid = false → s.dpaLine link (line % 2 ^ 46) = some l →
    s.snoopSent (s.partnerOf link partner) (l % 2 ^ 36) = some x →
    ∃ t, exec (.cxlMemRequest link partner dpid 5 field line tag be data poison) s = .next t ∧
      t.ddr.issued.length = s.ddr.issued.length + 1 ∧ t.dir.nextId = s.dir.nextId ∧
      t.out = s.out ++ [.cxl link (s.spid link) (s.partnerOf link partner) 0 x.snoopLine tag 0 false]) ∧
  (∀ (link partner dpid op field line tag be data : Nat) (poison : Bool) (s : State), s.memLink link →
    s.portClock link → s.misrouted link dpid →
    ∃ t, exec (.cxlMemRequest link partner dpid op field line tag be data poison) s = .next t ∧ t.dir = s.dir ∧
      t.out = s.out ∧ t.rd 0x5114 link = satAdd maxU32 (s.rd 0x5114 link) 1) ∧
  (∀ (m line : Nat) (s : State), s.servesLocal → s.pipelineLoad line < 512 → 17 ∉ s.clkLost → (s.mover m).wants line →
    ∃ t, exec (.localDirRequest m line false) s = .next t ∧ line ∈ (t.mover m).reading ∧
      ∃ x ∈ t.dir.txns, x.id = s.dir.nextId ∧ x.cls = 8 ∧ x.mover = m ∧ x.line = line) ∧
  (∀ (m line : Nat) (w : LineWrite) (s : State), s.servesLocal → s.pipelineLoad line < 512 → 17 ∉ s.clkLost →
    (s.mover m).writes.find? (fun x => x.line = line) = some w →
    ∃ t, exec (.localDirRequest m line true) s = .next t ∧ (t.mover m).writing = (s.mover m).writing + 1 ∧
      ∃ x ∈ t.dir.txns, x.id = s.dir.nextId ∧ x.cls = 9 ∧ x.line = line ∧ x.wdata = w.data) ∧
  (∀ (n : Nat) (x : DirTxn) (s : State), s.txn n = some x → x.phase = .lookup → s.dirRuns → s.dirOpen →
    n < s.dir.nextId →
    ∃ t, exec (.dirSetReadReturn n) s = .next t ∧ ∀ y ∈ t.dir.txns, y.id = n → y.phase ≠ .lookup) ∧
  (∀ (n : Nat) (x : DirTxn) (s : State), s.txn n = some x → x.phase = .pend → s.dirRuns → s.dirOpen →
    x.snoops ≠ [] →
    ∃ t, exec (.dirEntryWriteAdmit n) s = .next t ∧ ∀ y ∈ t.dir.txns, y.id = n → y.phase = .snooping) ∧
  (∀ (n : Nat) (x : DirTxn) (s : State), s.txn n = some x → x.phase = .final → s.dirRuns → s.dirOpen →
    n < s.dir.nextId →
    ∃ t, exec (.dirEntryWriteAdmit n) s = .next t ∧ ∀ y ∈ t.dir.txns, y.id = n → y.phase = .data) ∧
  (∀ (p line : Nat) (x : DirTxn) (s : State), s.snoopTxn p line = some x →
    x.snoops.any (fun q => q.partner = p && q.issues = 0) → s.snoopsOut < 1024 → 17 ∉ s.clkLost →
    ∃ t, exec (.dirSnoopIssue p line) s = .next t ∧
      t.rd 0x5200 0x0C = satAdd (2 ^ 64 - 1) (s.rd 0x5200 0x0C) 1 ∧
      t.out = (match s.snoopLink p x.snoopLine with
        | some z => s.out ++ [.cxl z.1 (s.spid z.1) p (if x.snoops.any (fun q => q.partner = p && q.data) then 5 else 4) z.2
            0 0 false]
        | none => s.out)) ∧
  (∀ (link spid dpid line : Nat) (x : DirTxn) (q : Snoop) (s : State), s.memLink link → s.portClock link →
    s.misrouted link dpid = false → s.snoopSent (s.partnerOf link spid) line = some x →
    x.snoops.find? (fun y => y.partner = s.partnerOf link spid) = some q →
    ∃ t, exec (.dirBiResponse link spid dpid line 0) s = .next t ∧
      ∀ y ∈ t.dir.txns, y.id = x.id → ∀ r ∈ y.snoops, r.partner ≠ s.partnerOf link spid) ∧
  (∀ (link spid dpid line rsp : Nat) (s : State), s.memLink link → s.portClock link → s.misrouted link dpid = false →
    s.snoopSent (s.partnerOf link spid) line = none →
    ∃ t, exec (.dirBiResponse link spid dpid line rsp) s = .next t ∧ t.rd 0x5113 link = satAdd maxU32 (s.rd 0x5113 link) 1) ∧
  (∀ (p line : Nat) (x : DirTxn) (q : Snoop) (s : State), s.snoopTxn p line = some x →
    x.snoops.find? (fun y => y.partner = p) = some q → q.issues ≠ 0 → q.issuedAt + s.rd 0x5200 7 ≤ s.dev.aonTime →
    ∃ t, exec (.dirSnoopTimeout p line) s = .next t ∧
      (if q.issues = 1 then t.rd 0x5200 0x0C = satAdd (2 ^ 64 - 1) (s.rd 0x5200 0x0C) 1
        else t.rd 0x5200 0x0D = satAdd maxU32 (s.rd 0x5200 0x0D) 1 ∧ t.hold 0x0B = (s.hold 0x0B).post 0x0B 0x02 p)) ∧
  (∀ (link spid dpid line : Nat) (s : State), s.memLink link → s.portClock link → s.misrouted link dpid = false →
    ∃ t, exec (.biconflict link spid dpid line) s = .next t ∧
      t.out = s.out ++ [.cxl link (s.spid link) (s.partnerOf link spid) 6 line 0 0 false]) ∧
  (∀ (src : Source) (k : Nat) (s : State), s.admits src 0x5200 1 1 (leBytes 1 1) true true → s.goes s.sweepOpen 0x41 →
    s.dirShape → (∀ j ∈ s.dirSlots, s.owns 0x41 (s.rd 0x5201 j)) → s.dir.sweep = some k → k ≠ 1 →
    ∃ t, exec (.dirEnableWrite src true) s = .next t ∧ t.rd 0x5200 1 = 1 ∧ t.dir.sweep = some k ∧
      t.dir.resumeDue = true ∧ t.saidOk src) ∧
  (∀ (src : Source) (s : State), s.admits src 0x5200 1 1 (leBytes 1 1) true true → s.goes s.sweepOpen 0x41 → s.dirShape →
    (∀ k ∈ s.dirSlots, s.owns 0x41 (s.rd 0x5201 k)) → s.dir.sweep = none →
    ∃ t, exec (.dirEnableWrite src true) s = .next t ∧ t.rd 0x5200 1 = 1 ∧ t.dir.sweep = some 1 ∧ t.saidOk src) ∧
  (∀ (src : Source) (s : State), s.admits src 0x5200 1 1 (leBytes 1 0) true true → s.goes s.sweepOpen 0x41 →
    s.rd 0x5200 8 = 0 → s.dir.sweep = none →
    ∃ t, exec (.dirEnableWrite src false) s = .next t ∧ t.rd 0x5200 1 = 0 ∧ t.saidOk src) ∧
  (∀ (k : Nat) (s : State), s.dir.sweep = some k → s.sweptAll → (∀ x ∈ s.dir.txns, x.cls ≠ 0xB) →
    s.dir.resumeDue = false →
    ∃ t, exec .dirSweepDone s = .next t ∧ t.dir.sweep = none ∧ t.hold 0x0B = (s.hold 0x0B).post 0x0B 0x05 k) ∧
  (∀ (k : Nat) (s : State), s.dir.sweep = some k → s.sweptAll → (∀ x ∈ s.dir.txns, x.cls ≠ 0xB) → s.dir.resumeDue →
    ∃ t, exec .dirSweepDone s = .next t ∧ t.dir.sweep = some 1 ∧ t.dir.resumeDue = false) ∧
  (∀ (k : Nat) (s : State), s.dir.sweep = some k → s.sweptAll = false → s.dirRuns → s.dirOpen → s.sweepRoom →
    ∃ t, exec .dirSweepDone s = .next t ∧ t.dir.sweep = some k ∧ s.dir.sweepNext < t.dir.sweepNext) ∧
  (∀ (src : Source) (v : Nat) (s : State),
    s.admits src 0x5200 4 4 (leBytes 4 (2 ^ 28 + v % 2 ^ 28)) true (dirCommandFits (2 ^ 28 + v % 2 ^ 28)) →
    s.goes s.sweepOpen 0x41 → s.rd 0x5200 1 = 1 → s.dir.sweep = none →
    ∃ t, exec (.dirFlush src v) s = .next t ∧ t.dir.sweep = some 2 ∧ t.saidOk src) ∧
  (∀ (src : Source) (v : Nat) (s : State),
    s.admits src 0x5200 4 4 (leBytes 4 (2 * 2 ^ 28 + v % 2 ^ 28)) true (dirCommandFits (2 * 2 ^ 28 + v % 2 ^ 28)) →
    s.goes s.sweepOpen 0x41 → s.rd 0x5200 1 = 1 → s.dir.sweep = none →
    ∃ t, exec (.dirPurgePartner src v) s = .next t ∧ t.dir.sweep = some 3 ∧ t.dir.purging = [v % 4096] ∧ t.saidOk src) ∧
  (∀ (src : Source) (i v : Nat) (s : State), s.admits src 0x5202 i 4 (leBytes 4 v) true true → s.goes s.sweepOpen 0x41 →
    s.dir.sweep = none →
    ∃ t, exec (.hostMapWrite src i v) s = .next t ∧ t.rd 0x5202 i = v ∧
      t.dir.sweep = (if (List.range 32).any (fun b => (s.rd 0x5202 i).testBit b && !v.testBit b) then some 3 else none) ∧
      t.saidOk src) ∧
  (∀ (src : Source) (k v : Nat) (s : State), s.admits src 0x5201 k 3 (leBytes 2 v) true (s.bankSlotFits k v) →
    s.rd 0x5200 1 ≠ 1 → s.rd 0x5200 8 = 0 →
    ∃ t, exec (.dirBankSlotWrite src k v) s = .next t ∧ t.rd 0x5201 k = v ∧ t.saidOk src)

/-- Training of a Lace lane (R232, R233, R237–R241, R282–R284). -/
def Obligations.LanesTrainAndEqualize : Prop :=
  (∀ (k : Nat) (s : State), (s.lane k).lstate = .detect → s.isLace k → s.lanesLive k →
    ∃ t, exec (.receiverDetect k) s = .next t ∧ (t.lane k).lstate = .train ∧ (t.lane k).rate = 8 ∧
      (t.lane k).pre2 = 0 ∧ (t.lane k).pre1 = -4 ∧ (t.lane k).post1 = -8) ∧
  (∀ (k f : Nat) (inv : Bool) (v : List Nat) (s : State), (s.lane k).lstate = .train → s.isLace k →
    heardValue frameGood (s.lane k).rate v = some (f, inv) →
    ∃ t, exec (.trainingFrameReceive k v) s = .next t ∧ (t.lane k).good = (s.lane k).good + 1 ∧
      (t.lane k).peerIndex = some (bits f 447 444) ∧ (t.lane k).inverted = inv) ∧
  (∀ (k : Nat) (v : List Nat) (s : State), (s.lane k).lstate = .train → s.isLace k →
    heardValue frameGood (s.lane k).rate v = none →
    ∃ t, exec (.trainingFrameReceive k v) s = .next t ∧ (t.lane k).good = 0 ∧ (t.lane k).peerIndex = (s.lane k).peerIndex) ∧
  (∀ (k : Nat) (s : State), (s.lane k).lstate = .train → 8 < (s.lane k).linkRate → (s.lane k).switchSeen →
    16 ≤ (s.lane k).switches → (s.lane k).equalizing = false →
    ∃ t, exec (.laceRateChange k) s = .next t ∧ (t.lane k).rate = (s.lane k).linkRate ∧ (t.lane k).equalizing = true ∧
      (t.lane k).request = 2 ^ 14 + 2 ^ 11 * bits (s.rd 0x5001 k) 12 10) ∧
  (∀ (k v : Nat) (s : State), (s.lane k).lstate = .train → (s.lane k).equalizing → (s.lane k).serving = 0 → eqAsk v ≠ 0 →
    ∃ t, exec (.eqRequestReceived k v) s = .next t ∧ (t.lane k).serving = eqAsk v ∧
      (v.testBit 14 → (t.lane k).status = 2 ^ 12 ∧ (t.lane k).post1 = (presetTaps (bits v 13 11)).2.2) ∧
      (v.testBit 14 = false → (t.lane k).post1 = (tapStep (s.lane k).post1 (-16) 0 (bits v 9 8)).1 ∧
        (t.lane k).pre1 = (tapStep (s.lane k).pre1 (-16) 0 (bits v 7 6)).1 ∧
        (t.lane k).pre2 = (tapStep (s.lane k).pre2 (-6) 6 (bits v 5 4)).1)) ∧
  (∀ (k v : Nat) (s : State), (s.lane k).lstate = .train → eqAsk (s.lane k).request ≠ 0 →
    2 ^ 12 * bits v 12 12 + bits v 9 4 * 2 ^ 4 ≠ 0 →
    ∃ t, exec (.eqAnswerReceived k v) s = .next t ∧ (t.lane k).settled = true ∧
      (t.lane k).request = 2 ^ 15 * ((s.lane k).request / 2 ^ 15)) ∧
  (∀ (k : Nat) (s : State), (s.lane k).lstate = .train → eqAsk (s.lane k).request ≠ 0 →
    ∃ t, exec (.eqAnswerTimeout k) s = .next t ∧ (t.lane k).request = 2 ^ 15 * ((s.lane k).request / 2 ^ 15) ∧
      t.rd 0x5009 k = satAdd maxU32 (s.rd 0x5009 k) 1) ∧
  (∀ (k v : Nat) (met : Bool) (s : State), (s.lane k).lstate = .train → (s.lane k).equalizing →
    eqDone (s.lane k).request = false → eqAsk (s.lane k).request = 0 → (s.lane k).settled = false →
    ∃ t, exec (.eqEvaluationDone k met v) s = .next t ∧ (t.lane k).request =
      (if met then 2 ^ 15 else if (s.rd 0x5001 k).testBit 9 then (s.lane k).request else
        tapAsk (bits v 9 8) * 2 ^ 8 + tapAsk (bits v 7 6) * 2 ^ 6 + tapAsk (bits v 5 4) * 2 ^ 4)) ∧
  (∀ (k : Nat) (s : State), (s.lane k).lstate = .train → eqDone (s.lane k).request → 3 ≤ (s.lane k).doneSeen →
    16 ≤ (s.lane k).doneSent → (s.link (s.linkOfLane k)).lace.leadKnown →
    ∃ t, exec (.laneTrainDone k) s = .next t ∧ (t.lane k).lstate = .lock ∧
      (t.link (s.linkOfLane k)).lace.scheduled = true) ∧
  (∀ (k : Nat) (s : State), (s.lane k).lstate = .train → s.isLace k →
    ∃ t, exec (.laneTrainTimeout k) s = .next t ∧ ((t.lane k).lstate = .detect ∨ (t.lane k).lstate = .disabled) ∧
      t.rd 0x5008 k = satAdd maxU32 (s.rd 0x5008 k) 1)

/-- Markers, formation, standard lanes and LANE_CONTROL (R232–R235, R242, R254, R281, R287). -/
def Obligations.LinksFormAndMarkersAreFollowed : Prop :=
  (∀ (k m sk c : Nat) (inv : Bool) (v : List Nat) (s : State), s.isLace k → (s.lane k).lstate = .lock →
    heardValue markerGood (s.lane k).rate v = some (m, inv) → (s.lane k).markerLane = some (bits m 55 52) →
    ∃ t, exec (.markerReceived k v sk true c) s = .next t ∧ (t.lane k).locked = true ∧ (t.lane k).inverted = inv ∧
      (t.lane k).skew = sk ∧ t.rd 0x5005 k = min 64000 sk ∧ t.rd 0x5006 k = satAdd (2 ^ 64 - 1) (s.rd 0x5006 k) c) ∧
  (∀ (k sk c : Nat) (v : List Nat) (s : State), s.isLace k → (s.lane k).lstate = .active → (s.lane k).rxPower = 2 →
    (s.lane k).heardMarker v = some (s.lane k).logical → (s.lane k).markerLane = some (s.lane k).logical →
    ∃ t, exec (.markerReceived k v sk true c) s = .next t ∧ (t.lane k).locked = true ∧ (t.lane k).rxPower = 0) ∧
  (∀ (k sk c : Nat) (on : Bool) (v : List Nat) (s : State), s.isLace k → (s.lane k).lstate = .active →
    (s.lane k).rxPower ≠ 2 → ¬((s.lane k).heardMarker v = some (s.lane k).logical ∧ on) →
    ∃ t, exec (.markerReceived k v sk on c) s = .next t ∧ t.rd 0x5007 k = satAdd maxU32 (s.rd 0x5007 k) 1 ∧
      ((s.lane k).markerBad = 2 → (t.lane k).locked = false ∧ t.hold 0x09 = (s.hold 0x09).post 0x09 0x05 k)) ∧
  (∀ (k w : Nat) (s : State), s.isLace (s.linkOfLane k) → (s.linkLanes (s.linkOfLane k)).any (fun i => (s.lane i).lstate = .lock) →
    (s.linkLanes (s.linkOfLane k)).all (fun i => (s.lane i).locked || s.exclusion i = some 4) →
    s.formWidth (s.linkOfLane k) = some w → (s.link (s.linkOfLane k)).lace.retraining = false →
    ∃ t, exec (.laceLinkFormation k) s = .next t ∧ ∀ i ∈ s.linkLanes (s.linkOfLane k), s.exclusion i = none →
      (s.lane i).logical < w → (t.lane i).lstate = .exchange ∧ (t.lane i).inLink = true) ∧
  (∀ (k : Nat) (s : State), s.isLace (s.linkOfLane k) → (s.linkLanes (s.linkOfLane k)).any (fun i => (s.lane i).lstate = .lock) →
    s.formWidth (s.linkOfLane k) = none →
    ∃ t, exec (.laneLockTimeout k) s = .next t ∧ ∀ i ∈ s.linkLanes (s.linkOfLane k), s.laneTested i = false →
      (t.lane i).lstate = .detect ∨ (t.lane i).lstate = .disabled) ∧
  (∀ (k : Nat) (s : State), s.isLace (s.linkOfLane k) →
    (s.linkLanes (s.linkOfLane k)).any (fun i => (s.lane i).lstate = .exchange) →
    ∃ t, exec (.exchangeTimeout k) s = .next t ∧ ∀ i ∈ s.linkLanes (s.linkOfLane k), s.laneTested i = false →
      (t.lane i).lstate = .detect ∨ (t.lane i).lstate = .disabled) ∧
  (∀ (l w r inv err : Nat) (fm f68 rev : Bool) (s : State), (s.portMode (portOf l) = 1 ∨ s.portMode (portOf l) = 2) →
    s.beginsLink l → s.portEnabled (portOf l) → s.lanesLive l → s.rateFits l r → s.ltssmFits l w r fm f68 →
    let k := if rev then l + (s.linkWidth l - 1) else l
    s.laneOff k = false → s.testOwned k = false → s.laneTested k = false →
    ∃ t, exec (.pcieLtssmTransition l 5 w r fm f68 rev inv err) s = .next t ∧ (t.link l).width = w ∧ (t.link l).rate = r ∧
      (t.link l).flitMode = fm ∧ (t.link l).configured = w ∧ (t.lane k).lstate = .active ∧
      (t.lane k).rate = r ∧ (t.lane k).txPower = 0 ∧ (t.lane k).logical = 0 ∧ (t.lane k).inverted = inv.testBit (k - l) ∧
      t.rd 0x5006 k = (if err.testBit (k - l) then satAdd (2 ^ 64 - 1) (s.rd 0x5006 k) 1 else s.rd 0x5006 k)) ∧
  (∀ (l w r inv err : Nat) (fm f68 rev : Bool) (s : State), (s.portMode (portOf l) = 1 ∨ s.portMode (portOf l) = 2) →
    s.beginsLink l → s.portEnabled (portOf l) → s.lanesLive l → (s.link l).active → (s.link l).flitMode → fm = true →
    s.rateFits l r → s.ltssmFits l (s.link l).width r fm f68 → widthLegal w → w ≤ (s.link l).width →
    (s.throttle.narrow → w ≤ (s.link l).presentWidth) →
    ∃ t, exec (.pcieLtssmTransition l 13 w r fm f68 rev inv err) s = .next t ∧ (t.link l).presentWidth = w ∧
      (t.link l).width = (s.link l).width) ∧
  (∀ (l w r inv err : Nat) (fm f68 rev : Bool) (s : State), (s.portMode (portOf l) = 1 ∨ s.portMode (portOf l) = 2) →
    s.beginsLink l → s.portEnabled (portOf l) → s.lanesLive l →
    ∃ t, exec (.pcieLtssmTransition l 0 w r fm f68 rev inv err) s = .next t ∧ ∀ i ∈ s.linkLanes l, s.laneTested i = false →
      (t.lane i).lstate = .detect ∨ (t.lane i).lstate = .disabled) ∧
  (∀ (l w r inv err : Nat) (fm f68 rev : Bool) (s : State), (s.portMode (portOf l) = 1 ∨ s.portMode (portOf l) = 2) →
    s.beginsLink l → s.portEnabled (portOf l) → s.lanesLive l →
    ∃ t, exec (.pcieLtssmTransition l 10 w r fm f68 rev inv err) s = .next t ∧ (t.link l).ltssm = 10 ∧
      ∀ i ∈ s.linkLanes l, s.laneTested i = false → (t.lane i).lstate = .disabled) ∧
  (∀ (src : Source) (k v : Nat) (s : State),
    s.admits src 0x5001 k 3 (leBytes 2 (setBit v 14 true)) true (laneControlFits (setBit v 14 true)) →
    s.testOwned k = false → ((s.lane k).lstate = .disabled ∨ (s.lane k).lstate = .detect) →
    ∃ t, exec (.laneRetry src k v) s = .next t ∧ (t.lane k).givenUp = false ∧ (t.lane k).dropped = false ∧
      (t.lane k).failRun = 0 ∧ t.saidOk src) ∧
  (∀ (src : Source) (k v : Nat) (s : State),
    s.admits src 0x5001 k 3 (leBytes 2 (setBit v 15 true)) true (laneControlFits (setBit v 15 true)) →
    s.testOwned k = false → ((s.lane k).lstate = .disabled ∨ (s.lane k).lstate = .detect) →
    ∃ t, exec (.laneDisable src k v) s = .next t ∧ (t.lane k).lstate = .disabled ∧ t.laneOff k = true ∧ t.saidOk src)

/-- Loopback (R246, R247) and the eye (R249). -/
def Obligations.LoopbackAndEyeMeasure : Prop :=
  (∀ (src : Source) (k v : Nat) (s : State),
    s.admits src 0x500A k 4 (leBytes 4 (setBit v 31 true)) true (loopbackFits (setBit v 31 true)) →
    s.testOwned k = false → (s.rd 0x500A k).testBit 31 = false →
    ((s.lane k).lstate = .disabled ∨ (s.lane k).lstate = .detect) →
    ∃ t, exec (.loopbackStart src k v) s = .next t ∧ (t.lane k).lstate = .loopback ∧
      (t.lane k).rate = bits (setBit v 31 true) 27 24 ∧ t.rd 0x500A k = setBit v 31 true ∧ t.rd 0x500B k = 2 ^ 30 ∧
      t.rd 0x500C k = 0 ∧ t.rd 0x500D k = 0 ∧ t.saidOk src) ∧
  (∀ (src : Source) (k n e : Nat) (s : State),
    s.admits src 0x500A k 4 (leBytes 4 (setBit (s.rd 0x500A k) 31 false)) true
      (loopbackFits (setBit (s.rd 0x500A k) 31 false)) →
    s.testOwned k = false → (s.rd 0x500A k).testBit 31 = true → s.rd 0x500A k < 2 ^ 32 →
    ∃ t, exec (.loopbackStop src k n e) s = .next t ∧ ((t.lane k).lstate = .detect ∨ (t.lane k).lstate = .disabled) ∧
      t.rd 0x500B k / 2 ^ 30 = 2 ∧ t.rd 0x500C k = (if bits (s.rd 0x500A k) 19 18 = 1 then 0 else n % 2 ^ 64) ∧
      t.rd 0x500D k = (if bits (s.rd 0x500A k) 19 18 = 1 then 0 else e % 2 ^ 64) ∧ t.saidOk src) ∧
  (∀ (k n e : Nat) (s : State), s.loopbackRuns k → s.rd 0x500A k % 2 ^ 16 ≠ 0 →
    ∃ t, exec (.loopbackDurationEnd k n e) s = .next t ∧ ((t.lane k).lstate = .detect ∨ (t.lane k).lstate = .disabled) ∧
      t.rd 0x500B k / 2 ^ 30 = 2 ∧ t.rd 0x500C k = (if bits (s.rd 0x500A k) 19 18 = 1 then 0 else n % 2 ^ 64) ∧
      t.rd 0x500D k = (if bits (s.rd 0x500A k) 19 18 = 1 then 0 else e % 2 ^ 64)) ∧
  (∀ (k : Nat) (s : State), s.loopbackRuns k → (bits (s.rd 0x500A k) 19 18 = 1 ∨ bits (s.rd 0x500A k) 19 18 = 2) →
    ∃ t, exec (.loopbackNoLock k) s = .next t ∧ ((t.lane k).lstate = .detect ∨ (t.lane k).lstate = .disabled) ∧
      t.rd 0x500B k = 3 * 2 ^ 30 + 3 ∧ t.rd 0x500C k = 0 ∧ t.rd 0x500D k = 0) ∧
  (∀ (src : Source) (k v : Nat) (s : State), s.admits src 0x5003 k 2 (leBytes 1 v) true true →
    ((s.lane k).lstate = .active ∨ (s.lane k).lstate = .loopback) → bits (s.rd 0x5004 k) 31 30 ≠ 3 →
    (s.lane k).margining = false →
    ∃ t, exec (.eyeCommand src k v) s = .next t ∧ t.rd 0x5004 k = 3 * 2 ^ 30 ∧ t.saidOk src) ∧
  (∀ (k h w : Nat) (s : State), bits (s.rd 0x5004 k) 31 30 = 3 →
    ∃ t, exec (.eyeMeasurementDone k h w) s = .next t ∧ t.rd 0x5004 k = 2 ^ 30 + 2 ^ 16 * min 1023 h + min 64 w) ∧
  (∀ (k : Nat) (busy : Bool) (s : State), (s.lane k).lstate = .active → s.isLace k = false →
    ∃ t, exec (.laneMarginingCommand k busy) s = .next t ∧ (t.lane k).margining = busy ∧
      (bits (s.rd 0x5004 k) 31 30 = 3 → t.rd 0x5004 k = 2 * 2 ^ 30))

/-- Self-test (R456–R470). -/
def Obligations.SelfTestsRun : Prop :=
  (∀ (src : Source) (v : Nat) (s : State), let c := stValue v 1 1
    s.admits src 0x7800 1 5 (leBytes 8 c) (s.stLife c) true → stInRange c → stFits c → s.writesHeld 0x7800 = false →
    s.stStatus c = .ok →
    ∃ t, exec (.selftestStartMemory src v) s = .next t ∧ t.st.memory = 1 ∧ t.st.first = stFirst c ∧
      t.st.count = stCount c ∧ t.st.destructive = c.testBit 32 ∧ t.rd 0x7802 1 = 0 ∧ t.saidOk src) ∧
  (∀ (src : Source) (v : Nat) (s : State), let c := stValue v 1 2
    s.admits src 0x7800 1 5 (leBytes 8 c) (s.stLife c) true → stFits c → s.writesHeld 0x7800 = false → s.stStatus c = .ok →
    ∃ t, exec (.selftestStartLogic src v) s = .next t ∧ t.st.logic = 1 ∧ t.st.panels = c % 2 ^ 32 ∧
      (∀ p, p < 32 → c.testBit p → (t.panel p).pstate = .test) ∧ t.saidOk src) ∧
  (∀ (src : Source) (v : Nat) (s : State), let c := stValue v 1 3
    s.admits src 0x7800 1 5 (leBytes 8 c) (s.stLife c) true → stInRange c → stFits c → s.writesHeld 0x7800 = false →
    s.stStatus c = .ok →
    ∃ t, exec (.selftestStartLane src v) s = .next t ∧ t.st.lane = 1 ∧ t.testLanes = stLanes c ∧
      (∀ k ∈ stLanes c, (t.lane k).lstate = .loopback) ∧ t.saidOk src) ∧
  (∀ (src : Source) (v : Nat) (s : State), let c := stValue v 1 4
    s.admits src 0x7800 1 5 (leBytes 8 c) (s.stLife c) true → stFits c → s.writesHeld 0x7800 = false → s.stStatus c = .ok →
    ∃ t, exec (.selftestStartFuse src v) s = .next t ∧ t.st.fuse = 1 ∧ t.rd 0x7805 1 = 0 ∧ t.saidOk src) ∧
  (∀ (src : Source) (v : Nat) (s : State), let c := stValue v 2 (stEngine v)
    s.admits src 0x7800 1 5 (leBytes 8 c) true true → v % 2 ^ 56 = 0 → s.writesHeld 0x7800 = false →
    (stEngine v = 2 → s.st.logic = 1 →
      ∃ t, exec (.selftestAbort src v) s = .next t ∧ t.st.logic = 4 ∧ t.st.panels % 2 ^ 32 = 0 ∧ t.saidOk src) ∧
    (stEngine v = 3 → s.st.lane = 1 →
      ∃ t, exec (.selftestAbort src v) s = .next t ∧ t.testLanes = [] ∧ t.saidOk src) ∧
    (stEngine v = 4 → s.st.fuse = 1 →
      ∃ t, exec (.selftestAbort src v) s = .next t ∧ t.st.fuse = 4 ∧ t.saidOk src)) ∧
  (∀ (g b : Nat) (s : State), s.testBank g = some b → s.st.memory = 1 → s.st.aborting = false → g < 40 →
    (s.testGroup g).slice = false → s.sliceDue g → s.memRuns → s.serviceWaits b = false → s.ownerWaits b = false →
    (s.bank b).wipePending = false → (s.bank b).rinseLag = 0 →
    ∃ t, exec (.memorySliceStart g false) s = .next t ∧ (t.testGroup g).slice = true ∧
      (t.testGroup g).row = (s.testGroup g).row) ∧
  (∀ (g b n : Nat) (s : State), s.testBank g = some b → (s.testGroup g).slice → s.memRuns → s.st.aborting = false →
    (s.testGroup g).row + s.sliceRows b (s.testGroup g).row ≠ 4096 →
    ∃ t, exec (.memorySliceEnd g n []) s = .next t ∧ (t.testGroup g).slice = false ∧ (t.testGroup g).last = some s.dev.aonTime ∧
      (t.testGroup g).row = (s.testGroup g).row + s.sliceRows b (s.testGroup g).row ∧
      t.rd 0x7802 1 = satAdd (2 ^ 64 - 1) (s.rd 0x7802 1) (s.sliceRows b (s.testGroup g).row)) ∧
  (∀ (p : Nat) (s : State), s.st.logic = 1 → p < 32 → s.st.panels.testBit p →
    ∃ t, exec (.logicTestEnd p 1) s = .next t ∧ (t.panel p).pstate = (s.panel p).entryState ∧ t.rd 0x7803 p = 1 ∧
      (t.panel p).arith = []) ∧
  (∀ (results : List LaneCheck) (s : State), s.st.lane = 1 →
    ∃ t, exec (.laneTestEnd results) s = .next t ∧ t.testLanes = [] ∧ t.st.lane ≠ 1) ∧
  (∀ (n : Nat) (s : State), s.st.fuse = 1 →
    ∃ t, exec (.fuseTestEnd n) s = .next t ∧ t.st.fuse = (if n = 0 then 2 else 3) ∧ t.rd 0x7805 1 = min maxU32 n)

/-- Port configuration, resets and the root's configuration requests (R250, R255–R257, R261, R276, R446). -/
def Obligations.PortsTakeTheirConfiguration : Prop :=
  (∀ (src : Source) (p v : Nat) (s : State), s.admits src 0x5100 p 4 (leBytes 4 v) true (portConfigFits v) →
    ((s.rd 0x5100 p).testBit 24 = false ∨ setBit v 24 true = s.rd 0x5100 p) →
    (v.testBit 24 → (s.rd 0x5100 p).testBit 24 = false → needsShim v → s.rd 0x5103 p ≠ 0xFF) →
    ∃ t, exec (.portConfigWrite src p v) s = .next t ∧ t.rd 0x5100 p = v ∧ (p = 0 → v ≠ s.rd 0x5100 p → t.bootFn = false) ∧
      t.saidOk src) ∧
  (∀ (src : Source) (p v : Nat) (s : State), s.admits src 0x5102 p 2 (leBytes 1 v) true true →
    ∃ t, exec (.portReset src p v) s = .next t ∧ t.saidOk src ∧
      ∀ k ∈ lanesOf p, (t.lane k).givenUp = false ∧ (t.lane k).dropped = false ∧ (t.lane k).failRun = 0) ∧
  (∀ (p : Nat) (s : State), s.portsLive → p < 6 → (s.portMode p = 1 ∨ s.portMode p = 2) → s.portRole p = 0 → s.portEnabled p →
    ∃ t, exec (.perstAssert p) s = .next t ∧
      ∀ k ∈ lanesOf p, (t.lane k).givenUp = false ∧ (t.lane k).dropped = false ∧ (t.lane k).failRun = 0) ∧
  (∀ (l : Nat) (s : State), s.beginsLink l → s.portEnabled (portOf l) → (s.link l).active = false →
    (s.linkLanes l).any (fun k => (s.lane k).lstate = .active) → (s.link l).width ≠ 0 →
    ∃ t, exec (.linkUp l) s = .next t ∧ (t.link l).active = true ∧
      ∀ k ∈ s.linkLanes l, (s.lane k).lstate = .active → (t.lane k).failRun = 0) ∧
  (∀ (l : Nat) (s : State), (s.link l).active →
    ∃ t, exec (.linkLoss l) s = .next t ∧ ∀ k ∈ s.linkLanes l, s.laneTested k = false →
      (t.lane k).lstate = .detect ∨ (t.lane k).lstate = .disabled) ∧
  (∀ (src : Source) (n : Nat) (s : State), s.served src → (s.sec.dead = false ∨ firmwareServes src 0x5120 2 false = false) →
    (s.countRequest src).readStatus 0x5120 2 true = .ok →
    s.goes s.rootOpen 0x45 → s.rootReady →
    (s.link s.rootLink).freeTag = some n →
    ∃ t, exec (.rootCfgRead src) s = .next t ∧
      t.out = s.out ++ [.config s.rootLink (s.spid s.rootLink) n (s.rd 0x5120 1 % 2 ^ 28) false 0] ∧
      (t.link s.rootLink).asks = (s.link s.rootLink).asks ++ [(n, .rootCfg src false 0)]) ∧
  (∀ (src : Source) (n v : Nat) (s : State), s.admits src 0x5120 2 4 (leBytes 4 v) true true →
    s.goes s.rootOpen 0x45 → s.rootReady →
    (s.link s.rootLink).freeTag = some n →
    ∃ t, exec (.rootCfgWrite src v) s = .next t ∧ t.rd 0x5120 2 = v ∧ t.saidOk src ∧
      (t.link s.rootLink).asks = (s.link s.rootLink).asks ++ [(n, .rootCfg src true v)]) ∧
  (∀ (src : Source) (s : State), s.goes s.rootOpen 0x45 = false →
    exec (.rootCfgRead src) s = .next { s with stalled := s.stalled ++ [(0x45, .rootCfgRead src)] }) ∧
  (∀ (l dpid n st d v : Nat) (src : Source) (w : Bool) (s : State), s.portClock l → s.misrouted l dpid = false →
    (s.link l).asker n = some (.rootCfg src w v) →
    ∃ t, exec (.rootCfgCompletion l dpid n st d) s = .next t ∧ t.rd 0x5120 3 = st % 256 ∧ (t.link l).asker n = none)

/-- Requests and completions of standard links (R261, R262, R269, R270, R275, R276). -/
def Obligations.PortsServeTheirPartners : Prop :=
  (∀ (l dpid off n tag : Nat) (d : List Byte) (po : Bool) (s : State), s.barLink l → s.dev.state = .operational →
    s.isLace l = false → s.portClock l → s.misrouted l dpid = false → s.goes true 0x40 → 1 ≤ n → off + n ≤ 1280 * 2 ^ 20 →
    ∃ t, exec (.barRequest l dpid 4 off n tag false d po) s = .next t ∧
      t.mem.hostReads = s.mem.hostReads ++ [⟨l, tag, off, n, [], false⟩]) ∧
  (∀ (l dpid off tag : Nat) (d : List Byte) (po : Bool) (s : State), s.barLink l → s.dev.state = .operational →
    s.isLace l = false → s.portClock l → s.misrouted l dpid = false → s.goes true 0x40 →
    d ≠ [] → off % 32 + d.length ≤ 32 → 1280 * 2 ^ 20 ≤ off → off + d.length ≤ 2 ^ 31 →
    ∃ t, exec (.barRequest l dpid 4 off 0 tag true d po) s = .next t ∧ t.mem = s.mem ∧
      t.rd 0x4000 6 = satAdd maxU32 (s.rd 0x4000 6) 1) ∧
  (∀ (l dpid off tag : Nat) (d : List Byte) (po : Bool) (s : State), s.barLink l → s.dev.state = .operational →
    s.isLace l = false → s.portClock l → s.misrouted l dpid = false → s.goes true 0x40 →
    d ≠ [] → off % 32 + d.length ≤ 32 → off + d.length ≤ 1280 * 2 ^ 20 →
    ∃ t, exec (.barRequest l dpid 4 off 0 tag true d po) s = .next t ∧
      t.channel (groupOf (bankOf (off / 32))) = s.channel (groupOf (bankOf (off / 32))) ++
        [⟨0x44, off / 32 * 32, true, (2 ^ d.length - 1) * 2 ^ (off % 32), leValue d * 256 ^ (off % 32), po, none, l, 0,
          s.mem.age⟩]) ∧
  (∀ (l dpid off op size x c tag : Nat) (s : State), s.barLink l → s.isLace l = false → s.dev.state = .operational →
    s.portClock l → s.misrouted l dpid = false →
    (size = 4 ∨ size = 8) → off % size = 0 → off + size ≤ 1280 * 2 ^ 20 → 1 ≤ op → op ≤ 3 →
    ∃ t, exec (.atomicopRequest l dpid 4 off op size x c tag) s = .next t ∧
      t.channel (groupOf (bankOf (off / 32))) = s.channel (groupOf (bankOf (off / 32))) ++
        [⟨0x44, off, false, 0, x % 256 ^ size, false, some (op, size, c % 256 ^ size), l, tag, s.mem.age⟩]) ∧
  (∀ (l dpid fn off tag be d : Nat) (s : State), s.cfgServed l → s.portClock l → s.misrouted l dpid = false →
    s.hasFn l fn →
    ∃ t, exec (.pcieConfigRequest l dpid fn off tag be d false) s = .next t ∧
      t.out = s.out ++ [.completion l (s.spid l) tag 0 (s.sramMarked 1) (leBytes 4 (s.cfgDword l fn (off % 4096 / 4 * 4)))]) ∧
  (∀ (l dpid fn off tag be d : Nat) (s : State), s.cfgServed l → s.portClock l → s.misrouted l dpid = false →
    s.hasFn l fn → 0x10 ≤ off % 4096 → off % 4096 < 0x28 →
    ∃ t, exec (.pcieConfigRequest l dpid fn off tag be d true) s = .next t ∧
      t.out = s.out ++ [.completion l (s.spid l) tag 0 false []] ∧
      Tab.look (fun _ => 0) t.cfg (cfgKey l fn (off % 4096 / 4 * 4)) =
        mergeBytes be (Tab.look (fun _ => 0) s.cfg (cfgKey l fn (off % 4096 / 4 * 4))) (d % 2 ^ 32) 4) ∧
  (∀ (l dpid fn off tag be d : Nat) (w : Bool) (s : State), s.cfgServed l → s.portClock l → s.misrouted l dpid = false →
    s.hasFn l fn = false →
    ∃ t, exec (.pcieConfigRequest l dpid fn off tag be d w) s = .next t ∧
      t.out = s.out ++ [.completion l (s.spid l) tag 1 false []]) ∧
  (∀ (l spid dpid n m : Nat) (d : List Byte) (s : State), s.isLace l = false → s.linkActive l → s.portClock l →
    s.misrouted l dpid = false → (s.link l).asker n = some (.mover m) → (s.mover m).asked →
    ∃ t, exec (.deviceCompletionReceive l spid dpid n 0 false d) s = .next t ∧ (t.mover m).host = some d ∧
      (t.mover m).asked = false ∧ ((s.shim (portOf l)).tx = [] → (t.link l).asker n = none)) ∧
  (∀ (l spid dpid n m st : Nat) (d : List Byte) (s : State), s.isLace l = false → s.linkActive l → s.portClock l →
    s.misrouted l dpid = false → (s.link l).asker n = some (.mover m) → (s.mover m).asked → st ≠ 0 →
    ∃ t, exec (.deviceCompletionReceive l spid dpid n st false d) s = .next t ∧ (t.mover m).halted = true ∧ (t.mover m).cause = 0x13) ∧
  (∀ (l n m : Nat) (s : State), s.isLace l = false → (s.link l).asker n = some (.mover m) → (s.mover m).asked →
    ∃ t, exec (.completionTimeout l n) s = .next t ∧ (t.mover m).halted = true ∧ (t.mover m).cause = 0x13) ∧
  (∀ (l k : Nat) (s : State), (s.link l).active → s.isLace l = false → k ∈ (s.link l).ide →
    ∃ t, exec (.ideIntegrityFailure l k) s = .next t ∧ k ∉ (t.link l).ide ∧ l * 32 + k * 4 ∈ (t.link l).ideStale ∧
      t.rd 0x5115 l = satAdd maxU32 (s.rd 0x5115 l) 1 ∧ t.hold 0x0A = (s.hold 0x0A).post 0x0A 0x04 (256 * k + l)) ∧
  (∀ (l : Nat) (s : State), (s.link l).active → s.isLace l = false → (s.link l).flitMode → s.throttle.narrow →
    (s.link l).narrowed = false → (s.link l).width ≠ 0 →
    ∃ t, exec (.l0pResponse l true) s = .next t ∧ (t.link l).narrowed = true ∧
      (t.link l).presentWidth = s.narrowWidth l (s.link l).width)

/-- Fabric shims (R271–R274). -/
def Obligations.ShimsPassPackets : Prop :=
  (∀ (p kind l spid dpid tag panel : Nat) (np : Bool) (b : List Byte) (s : State), portOf l = p → s.linkActive l →
    s.shimRxKind l kind → s.portClock l → s.misrouted l dpid = false → kind ≠ 3 → kind ≠ 5 → s.shimGate p kind = 0 →
    s.shimPanel p = some panel → (s.panel panel).pstate = .running →
    ∃ t, exec (.shimRxPacket p kind l spid dpid tag np b 0) s = .next t ∧
      t.out = s.out ++ [.shimRx panel kind l (s.partnerOf l spid) false b]) ∧
  (∀ (p kind l spid dpid tag panel : Nat) (np : Bool) (b : List Byte) (s : State), portOf l = p → s.linkActive l →
    s.shimRxKind l kind → s.portClock l → s.misrouted l dpid = false → kind ≠ 3 → kind ≠ 5 → s.shimGate p kind = 0 →
    s.shimPanel p = some panel → (s.panel panel).pstate ≠ .running → (s.shim p).rx.length < 64 →
    ∃ t, exec (.shimRxPacket p kind l spid dpid tag np b 0) s = .next t ∧
      (t.shim p).rx = (s.shim p).rx ++ [⟨kind, l, s.partnerOf l spid, tag, np, b, false⟩]) ∧
  (∀ (p kind l spid dpid tag panel : Nat) (np : Bool) (b : List Byte) (s : State), portOf l = p → s.linkActive l →
    s.shimRxKind l kind → s.portClock l → s.misrouted l dpid = false → (kind = 3 ∨ kind = 5) → s.shimPanel p = some panel →
    (s.panel panel).pstate = .running →
    ∃ t, exec (.shimRxPacket p kind l spid dpid tag np b 0) s = .next t ∧
      (if ((s.link l).asker (shimKey (if kind = 3 then 6 else 7) tag)).isSome then
        t.out[s.out.length]? = some (.shimRx panel kind l (s.partnerOf l spid) false b) ∧
          ((s.shim p).tx = [] → t.out.length = s.out.length + 1)
      else t.out = s.out ∧ t.rd 0x5113 l = satAdd maxU32 (s.rd 0x5113 l) 1)) ∧
  (∀ (p kind l spid dpid tag panel : Nat) (np : Bool) (b : List Byte) (s : State), portOf l = p → s.linkActive l →
    s.shimRxKind l kind → s.portClock l → s.misrouted l dpid = false → s.shimPanel p = some panel →
    (if kind = 3 ∨ kind = 5 then ((s.link l).asker (shimKey (if kind = 3 then 6 else 7) tag)).isSome else s.shimGate p kind = 0) →
    (s.panel panel).pstate ≠ .running → 64 ≤ (s.shim p).rx.length →
    exec (.shimRxPacket p kind l spid dpid tag np b 0) s = .next s) ∧
  (∀ (p kind l spid dpid tag panel cut : Nat) (np : Bool) (b : List Byte) (s : State), portOf l = p → s.linkActive l →
    s.shimRxKind l kind → s.portClock l → s.misrouted l dpid = false → kind ≠ 3 → kind ≠ 5 → s.shimGate p kind = 0 →
    s.shimPanel p = some panel → (s.panel panel).pstate = .running → cut ≠ 0 →
    ∃ t, exec (.shimRxPacket p kind l spid dpid tag np b cut) s = .next t ∧ (t.link l).active = false ∧
      t.out[s.out.length]? = some (.shimRx panel kind l (s.partnerOf l spid) true (b ++ List.replicate cut 0))) ∧
  (∀ (p kind l partner tag : Nat) (np : Bool) (b : List Byte) (s : State), s.shimRuns p → s.shimTxKind l kind → kind ≠ 8 →
    portOf l = p → s.beginsLink l → s.linkActive l → (s.shim p).tx = [] →
    s.shimGoes ⟨kind, l, partner, tag % s.tagSpace l kind, np, b, false⟩ →
    ∃ t, exec (.shimTxPacket p kind l partner tag np b) s = .next t ∧ (t.shim p).tx = [] ∧
      t.out = s.out ++ [.shimTx l (s.spid l) kind partner b] ∧
      (t.link l).asks = (if np then (s.link l).asks ++ [(shimKey kind (tag % s.tagSpace l kind), .shim kind)]
        else (s.link l).asks)) ∧
  (∀ (p kind l partner tag : Nat) (np : Bool) (b : List Byte) (k : ShimPacket) (rest : List ShimPacket) (s : State),
    s.shimRuns p → s.shimTxKind l kind → kind ≠ 8 → portOf l = p → s.beginsLink l → s.linkActive l →
    (s.shim p).tx = k :: rest → s.shimGoes k = false → (s.shim p).tx.length < 64 →
    ∃ t, exec (.shimTxPacket p kind l partner tag np b) s = .next t ∧ t.out = s.out ∧
      (t.shim p).tx = (s.shim p).tx ++ [⟨kind, l, partner, tag % s.tagSpace l kind, np, b, false⟩]) ∧
  (∀ (p kind l partner tag : Nat) (np : Bool) (b : List Byte) (s : State), s.shimRuns p → s.shimTxKind l kind = false →
    ∃ t, exec (.shimTxPacket p kind l partner tag np b) s = .next t ∧
      t.rd 0x5119 p = satAdd maxU32 (s.rd 0x5119 p) 1 ∧ t.out = s.out) ∧
  (∀ (p panel : Nat) (k : ShimPacket) (s : State), s.shimPanel p = some panel → (s.panel panel).pstate ≠ .running →
    (s.shim p).rx.find? ShimPacket.settles = some k →
    ∃ t, exec (.shimHoldTimeout p) s = .next t ∧ (s.shim p).rx.erase k <+: (t.shim p).rx ∧ (t.shim p).dropped = true ∧
      t.rd 0x5118 p = satAdd maxU32 (s.rd 0x5118 p) 1)

/-- Flits received on a Lace link (R290–R293, R298, R301–R303). -/
def Obligations.LaceFlitsArePerformed : Prop :=
  (∀ (l n : Nat) (f : List Byte) (s : State), s.takesFlit l f → fTy (flitHead f) = 2 → s.dev.state = .operational →
    n = qLen (reqHead f) → fLen (flitHead f) = 16 + n → qSpace (reqHead f) = 2 →
    spaceFits 2 (qAddr (reqHead f)) n → qAddr (reqHead f) % 32 + n ≤ 32 → qAddr (reqHead f) + n ≤ 1280 * 2 ^ 20 →
    ∃ t, exec (.laceWrite l f) s = .next t ∧
      t.channel (groupOf (bankOf (qAddr (reqHead f) / 32))) = s.channel (groupOf (bankOf (qAddr (reqHead f) / 32))) ++
        [⟨0x44, qAddr (reqHead f) / 32 * 32, true, (2 ^ n - 1) * 2 ^ (qAddr (reqHead f) % 32),
          leValue (slice f 24 n) * 256 ^ (qAddr (reqHead f) % 32), (reqHead f).testBit 111, none, l, 0, s.mem.age⟩]) ∧
  (∀ (l : Nat) (f : List Byte) (s : State), s.takesFlit l f → fTy (flitHead f) = 3 → s.dev.state = .operational →
    qSpace (reqHead f) = 2 → bareRequest f → qLen (reqHead f) ≤ 4096 → spaceFits 2 (qAddr (reqHead f)) (qLen (reqHead f)) →
    qAddr (reqHead f) + qLen (reqHead f) ≤ 1280 * 2 ^ 20 →
    ∃ t, exec (.laceRead l f) s = .next t ∧
      t.mem.hostReads = s.mem.hostReads ++ [⟨l, qTag (reqHead f), qAddr (reqHead f), qLen (reqHead f), [], false⟩]) ∧
  (∀ (l n : Nat) (f : List Byte) (s : State), s.takesFlit l f → fTy (flitHead f) = 5 → s.dev.state = .operational →
    qSpace (reqHead f) = 2 → n = qLen (reqHead f) → (n = 4 ∨ n = 8) → qAddr (reqHead f) % n = 0 →
    qAddr (reqHead f) + n ≤ 1280 * 2 ^ 20 → 1 ≤ bits (reqHead f) 107 104 → bits (reqHead f) 107 104 ≤ 3 →
    fLen (flitHead f) = 16 + (if bits (reqHead f) 107 104 = 3 then 2 * n else n) →
    ∃ t, exec (.laceAtomic l f) s = .next t ∧
      t.channel (groupOf (bankOf (qAddr (reqHead f) / 32))) = s.channel (groupOf (bankOf (qAddr (reqHead f) / 32))) ++
        [⟨0x44, qAddr (reqHead f), false, 0,
          leValue (slice f (if bits (reqHead f) 107 104 = 3 then 24 + n else 24) n) % 256 ^ n, false,
          some (bits (reqHead f) 107 104, n, leValue (slice f 24 n) % 256 ^ n), l, qTag (reqHead f), s.mem.age⟩]) ∧
  (∀ (l : Nat) (f : List Byte) (s : State), s.takesFlit l f → fTy (flitHead f) = 6 → s.dev.state = .operational →
    ∃ t, exec (.laceFlush l f) s = .next t ∧
      (t.link l).lace.flushes = (s.link l).lace.flushes ++
        (if bareRequest f ∧ qSpace (reqHead f) < 3 ∧ qLen (reqHead f) = 0 ∧
            barHolds (spaceBar (qSpace (reqHead f))) (qAddr (reqHead f)) 1 then [(qTag (reqHead f), s.mem.age)] else [])) ∧
  (∀ (l n age : Nat) (rest : List (Nat × Nat)) (s : State), (s.link l).lace.flushes = (n, age) :: rest →
    s.writesBefore l age = false →
    ∃ t, exec (.laceFlushDone l) s = .next t ∧ (t.link l).lace.flushes = rest) ∧
  (∀ (l m : Nat) (f : List Byte) (s : State), s.takesFlit l f → fTy (flitHead f) = 4 →
    (s.link l).asker (bits (reqHead f) 127 112) = some (.mover m) → (s.mover m).asked → (reqHead f).testBit 110 →
    let x := Tab.look (fun _ => LacePart.none) (s.link l).lace.parts (bits (reqHead f) 127 112)
    bits (reqHead f) 90 78 ≤ x.data.length → (x.join f 0).status = 0 → (x.join f 0).bad = false →
    ∃ t, exec (.laceCompletion l f) s = .next t ∧ (t.mover m).asked = false ∧
      (t.mover m).host = some (x.data.take (bits (reqHead f) 90 78) ++ completionData f ++
        x.data.drop (bits (reqHead f) 90 78 + (completionData f).length)) ∧
      Tab.look (fun _ => LacePart.none) (t.link l).lace.parts (bits (reqHead f) 127 112) = LacePart.none) ∧
  (∀ (l panel : Nat) (f : List Byte) (s : State), s.takesFlit l f → 8 ≤ fTy (flitHead f) →
    s.shimPanel (portOf l) = some panel → (s.panel panel).pstate = .running →
    (s.rd 0x5138 (portOf l)).testBit (fTy (flitHead f) - 8) →
    ∃ t, exec (.laceUserFlit l f) s = .next t ∧
      .shimRx panel 8 l (s.rd 0x5110 l) false f ∈ t.out.drop s.out.length) ∧
  (∀ (l : Nat) (f : List Byte) (s : State), s.takesFlit l f → fTy (flitHead f) = 1 → leValue (slice f 8 1) = 2 →
    ∃ t, exec (.laceDozeFlit l f) s = .next t ∧ (t.link l).lace.sleepRx = 1 ∧
      (t.link l).lace.rxNext = ((s.link l).lace.rxNext + 1) % 4096) ∧
  (∀ (l : Nat) (f : List Byte) (s : State), s.takesFlit l f → fTy (flitHead f) = 1 → leValue (slice f 8 1) = 3 →
    ∃ t, exec (.laceOffFlit l f) s = .next t ∧ (t.link l).lace.sleepRx = 2 ∧
      (t.link l).lace.rxNext = ((s.link l).lace.rxNext + 1) % 4096) ∧
  (∀ (l : Nat) (f : List Byte) (s : State), s.takesFlit l f → fTy (flitHead f) = 1 → leValue (slice f 8 1) = 4 →
    (s.link l).lace.tx = .waking →
    ∃ t, exec (.laceRxReady l f) s = .next t ∧ (t.link l).lace.tx = .awake) ∧
  (∀ (l : Nat) (f : List Byte) (s : State), s.takesFlit l f → fTy (flitHead f) = 1 → leValue (slice f 8 1) = 5 →
    widthFits (leValue (slice f 9 1)) (s.link l).width →
    (leValue (slice f 10 1) = 0 ∨ widthFits (leValue (slice f 10 1)) (s.link l).width) →
    ∃ t, exec (.laceWidthFlit l f) s = .next t ∧ (t.link l).lace.rxNow = leValue (slice f 9 1)) ∧
  (∀ (l nth : Nat) (c : RxCodeword) (s : State), (s.link l).active → s.isLace l → (s.link l).lace.sleepRx ≠ 1 →
    s.linkOfLane c.lane = l → (s.lane c.lane).badSlot ≤ c.slot → s.readBlock c = none →
    ∃ t, exec (.laceBadFlit l nth [c]) s = .next t ∧ t.rd 0x5135 l = satAdd maxU32 (s.rd 0x5135 l) 1 ∧
      (t.lane c.lane).badSlot = c.slot + 1 ∧ (t.link l).lace.waiting = true ∧
      (t.link l).lace.rxNext = (s.link l).lace.rxNext) ∧
  (∀ (l nth : Nat) (cw : List RxCodeword) (s : State), (s.link l).active → s.isLace l → (s.link l).lace.sleepRx ≠ 1 →
    (∀ c ∈ cw, (s.readBlock c).isSome) →
    exec (.laceBadFlit l nth cw) s = .next (s.receiveFlit l (flitIn nth (cw.filterMap s.readBlock)))) ∧
  (∀ (l : Nat) (f : List Byte) (s : State), (s.link l).active → s.isLace l → s.portClock l → flitGood f →
    fTy (flitHead f) = 0 → ((s.takeAck l (flitHead f)).link l).active →
    ∃ t, exec (.laceNullFlit l f) s = .next t ∧
      vcCount (t.link l).lace.peerTotal (bits (flitHead f) 32 30) = bits (flitHead f) 29 22 ∧
      (t.link l).lace.rxNext = (s.link l).lace.rxNext ∧
      (flitFits (flitHead f) = false → t.rd 0x5113 l = satAdd maxU32 (s.rd 0x5113 l) 1))

/-- Replay, retrain, the exchange, sleep and width (R286, R287, R290, R293, R296, R298, R299, R301–R303). -/
def Obligations.LaceLinksReplayRetrainAndSleep : Prop :=
  (∀ (l : Nat) (f : List Byte) (r : Nat × TxFlit) (rest : List (Nat × TxFlit)) (s : State), (s.link l).active → s.isLace l →
    s.portClock l → s.sramMarked 1 = false → flitGood f → flitPlain f → (flitHead f).testBit 8 → ((s.takeAck l (flitHead f)).link l).active →
    ((s.takeAck l (flitHead f)).link l).lace.replay = r :: rest →
    (((s.takeAck l (flitHead f)).link l).lace.replays = 0 ∨ ((s.takeAck l (flitHead f)).link l).lace.replayFrom ≠ r.1) →
    ∃ t, exec (.laceNakReceive l f) s = .next t ∧ t.rd 0x5133 l = satAdd maxU32 (s.rd 0x5133 l) 1 ∧
      (t.link l).lace.replays = 1 ∧ (t.link l).lace.replayFrom = r.1) ∧
  (∀ (l : Nat) (r : Nat × TxFlit) (rest : List (Nat × TxFlit)) (s : State), (s.link l).active → s.isLace l →
    (s.link l).lace.replay = r :: rest → (s.link l).lace.replays < 3 →
    ∃ t, exec (.laceReplayTimeout l) s = .next t ∧ t.rd 0x5133 l = satAdd maxU32 (s.rd 0x5133 l) 1 ∧
      (t.link l).lace.replayFrom = r.1 ∧ (s.sramMarked 1 → (t.link l).lace.retraining = true)) ∧
  (∀ (l : Nat) (s : State), (s.link l).active → (s.link l).lace.waiting → (s.link l).lace.tx ≠ .dozing →
    (s.link l).lace.tx ≠ .off →
    ∃ t, exec (.laceNakResend l) s = .next t ∧ t.out[s.out.length]? =
      some (.flit l (flitBytes (Lace.header { (s.link l).lace with nakDue := true } 0 (s.rd 0x5131 l) 0 0 0) [])) ∧ (t.link l).lace.waiting = true) ∧
  (∀ (l : Nat) (s : State), (s.link l).active → s.isLace l → (s.link l).lace.tx ≠ .dozing → (s.link l).lace.tx ≠ .off →
    ∃ t, exec (.laceCreditNull l) s = .next t ∧
      t.out[s.out.length]? = some (.flit l (flitBytes ((s.link l).lace.header 0 (s.rd 0x5131 l) 0 0 0) [])) ∧
      (t.link l).lace.creditStep = ((s.link l).lace.creditStep + 1) % 8) ∧
  (∀ (src : Source) (l v : Nat) (s : State), s.admits src 0x5132 l 2 (leBytes 1 v) true (s.beginsLink l) →
    (s.link l).active → s.isLace l →
    ∃ t, exec (.laceRetrainCommand src l v) s = .next t ∧ (t.link l).lace.retraining = true ∧ (t.link l).active = false ∧
      t.rd 0x5136 l = satAdd maxU32 (s.rd 0x5136 l) 1 ∧ t.saidOk src) ∧
  (∀ (l : Nat) (s : State), (s.link l).lace.sleepRx = 0 → (s.link l).active → s.isLace l →
    ∃ t, exec (.lacePartnerIdle l) s = .next t ∧ (t.link l).lace.retraining = true ∧
      t.hold 0x0A = (s.hold 0x0A).post 0x0A 0x07 (4 * 2 ^ 12 + l)) ∧
  (∀ (l : Nat) (s : State), (s.link l).lace.signal → s.lockedTo l (s.link l).readyWidth = false → (s.link l).active →
    s.isLace l →
    ∃ t, exec (.wakeLockTimeout l) s = .next t ∧ (t.link l).lace.retraining = true ∧
      t.hold 0x0A = (s.hold 0x0A).post 0x0A 0x07 (6 * 2 ^ 12 + l)) ∧
  (∀ (l : Nat) (s : State), (s.link l).lace.retraining → (s.link l).lace.idling →
    ∃ t, exec (.laceRetrainIdleEnd l) s = .next t ∧ (t.link l).lace.idling = false ∧
      ∀ k ∈ s.linkLanes l, (s.lane k).lstate = .active → (t.lane k).lstate = .lock ∧ (t.lane k).locked = false) ∧
  (∀ (k l : Nat) (f : List Byte) (s : State), l = s.linkOfLane k → s.isLace k → (s.lane k).lstate = .exchange →
    flitGood f → fTy (flitHead f) = 1 → leValue (slice f 8 26) % 256 = 1 → capFits (leValue (slice f 8 26)) →
    (s.link l).lace.capSeen = false → (s.link l).lace.startSent = false →
    ∃ t, exec (.capFlitReceive k f) s = .next t ∧ (t.link l).lace.capSeen = true ∧
      (t.link l).lace.peerWidth = bits (leValue (slice f 8 26)) 31 24 ∧
      t.rd 0x5131 l = bits (leValue (slice f 8 26)) 43 32) ∧
  (∀ (k l : Nat) (f : List Byte) (s : State), l = s.linkOfLane k → s.isLace k → (s.lane k).lstate = .exchange →
    flitGood f → fTy (flitHead f) = 1 → leValue (slice f 8 26) % 256 = 1 → capFits (leValue (slice f 8 26)) →
    (leValue (slice f 8 26)).testBit 17 → (s.link l).lace.capSeen → (s.link l).lace.startSent →
    (s.link l).lace.retraining = false →
    (∀ i, i < (s.link l).lace.agreed → i = (s.lane k).logical ∨ i ∈ (s.link l).lace.starts) →
    ∃ t, exec (.capFlitReceive k f) s = .next t ∧ (t.link l).width = (s.link l).lace.agreed ∧
      ∀ i ∈ s.linkLanes l, (s.lane i).lstate = .exchange → (t.lane i).lstate = .active ∧
        (t.lane i).txPower = (if (s.link l).lace.agreed ≤ (s.lane i).logical then 2 else 0)) ∧
  (∀ (l : Nat) (s : State), s.rd 0x5139 (portOf l) ≠ 0 → s.laceIdle l → (s.link l).lace.tx = .awake →
    ∃ t, exec (.laceDozeIdleTimer l) s = .next t ∧ (t.link l).lace.tx = .dozeSent) ∧
  (∀ (l : Nat) (s : State), s.rd 0x513A (portOf l) ≠ 0 → s.laceIdle l →
    ((s.link l).lace.tx = .awake ∨ (s.link l).lace.tx = .dozing) →
    ∃ t, exec (.laceOffIdleTimer l) s = .next t ∧ (t.link l).lace.tx = .offSent) ∧
  (∀ (l : Nat) (s : State), (s.link l).lace.replay = [] → ((s.link l).lace.tx = .dozeSent ∨ (s.link l).lace.tx = .offSent) →
    (s.link l).lace.widthMoves = false →
    ∃ t, exec (.laceSleepAcked l) s = .next t ∧
      (t.link l).lace.tx = (if (s.link l).lace.tx = .dozeSent then .dozing else .off)) ∧
  (∀ (l : Nat) (s : State), (s.link l).active → (s.link l).lace.tx = .dozing →
    ∃ t, exec (.laceDozeMax l) s = .next t ∧ (t.link l).lace.tx = .awake) ∧
  (∀ (l : Nat) (s : State), (s.link l).active → s.isLace l → (s.link l).lace.tx = .off →
    ∃ t, exec (.laceWake l false) s = .next t ∧ (t.link l).lace.tx = .waking) ∧
  (∀ (l : Nat) (s : State), (s.link l).active → s.isLace l → (s.link l).lace.sleepRx ≠ 0 → (s.link l).lace.sleepRx ≤ 2 →
    ((s.link l).lace.sleepRx = 2 → s.lockedTo l (s.link l).lace.rxNow) →
    ∃ t, exec (.laceWake l true) s = .next t ∧ (t.link l).lace.sleepRx = 0) ∧
  (∀ (l : Nat) (s : State), (s.link l).active → (s.link l).lace.narrow → (s.link l).lace.narrowCounted = false →
    s.narrowWidth l (s.link l).width < (s.link l).lace.rxNow →
    ∃ t, exec (.laceNarrowTimeout l) s = .next t ∧ (t.link l).lace.narrowCounted = true ∧
      t.rd 0x511A (portOf l) = satAdd maxU32 (s.rd 0x511A (portOf l)) 1) ∧
  (∀ (l n m : Nat) (s : State), s.isLace l → (s.link l).asker n = some (.mover m) → (s.mover m).asked →
    ∃ t, exec (.laceRequestTimeout l n) s = .next t ∧ (t.mover m).halted = true ∧ (t.mover m).cause = 0x13) ∧
  (∀ (l partner : Nat) (f : List Byte) (s : State), s.shimRuns (portOf l) → s.isLace l → s.beginsLink l → s.linkActive l →
    s.userRefused l f = false → (s.link l).lace.sendq = [] → (s.link l).lace.tx = .awake → s.laceSends l →
    vcCount (s.link l).lace.credit (bits (leValue (f.take 8)) 35 33) ≠ 0 →
    ∃ t, exec (.laceShimTxFlit l partner f) s = .next t ∧ (t.link l).lace.replay = (s.link l).lace.replay ++
      [((s.link l).lace.txNext, ⟨bits (leValue (f.take 8)) 63 60, bits (leValue (f.take 8)) 35 33, partner,
        slice f 8 (leValue (f.take 8) % 256)⟩)])

/-- The line coding of Lace (R229, R279–R282, R288); its conventions are the model's (log 164). -/
def Obligations.LaceLineCodingIsUndoneByTheReceiver : Prop :=
  (∀ (last : Nat) (l : List Nat), last < 4 → (∀ v ∈ l, v < 4) → unprecode last (precode last l) = l) ∧
  (∀ v, v < 4 → grayBits (grayLevel v) = v ∧ grayLevel v < 4) ∧
  (∀ g, g < 3 → popCount 2 (grayBits g ^^^ grayBits (g + 1)) = 1) ∧
  (∀ (off scr : Nat) (b : List Byte), off < 256 → b.length = 640 →
    let m := (messageSymbols off b scr).foldr (fun a n => a + 2 ^ 10 * n) 0
    m % 256 = off ∧ leBytes 640 (m / 2 ^ 20 ^^^ (scramblerBits 5120 scr).1) = b ∧ (messageSymbols off b scr).length = 514 ∧
      ∀ a ∈ messageSymbols off b scr, a < 2 ^ 10) ∧
  (∀ (n v : Nat), n % 2 = 0 → v < 2 ^ n → levelBits (bitLevels n v) = v) ∧
  (∀ (rate last : Nat) (inv : Bool) (l : List Nat), last < 4 → (∀ v ∈ l, v < 4) →
    heardLevels rate inv (mirror inv (last :: (lineLevels rate last l).1)) = l) ∧
  (∀ l : List Nat, (∀ a ∈ l, a < 2 ^ 10) → levelSymbols l.length (l.flatMap symbolLevels) = l) ∧
  (∀ n, flitOffset n < 256 ∧ (640 * n + flitOffset n) % 256 = 0) ∧
  (∀ lane count : Nat, lane < 16 → markerGood (markerBits lane count) = true ∧ bits (markerBits lane count) 55 52 = lane ∧
    bits (markerBits lane count) 47 32 = count % 2 ^ 16) ∧
  (∀ (lane top now nonce rq st p : Nat) (sw : Bool), lane < 16 → 8 ≤ top → top ≤ 0xA → now < 16 → nonce < 2 ^ 16 →
    rq < 2 ^ 16 → st < 2 ^ 16 →
    let f := trainingFrame lane top now sw nonce rq st p
    frameGood f = true ∧ bits f 447 444 = lane ∧ bits f 443 440 = top ∧ bits f 439 436 = now ∧ f.testBit 435 = sw ∧
      bits f 431 416 = nonce ∧ bits f 415 400 = rq ∧ bits f 399 384 = st) ∧
  (∀ (h : Nat) (l : List Byte), h < 2 ^ 64 → l.length ≤ 240 →
    flitGood (flitBytes h l) = true ∧ flitHead (flitBytes h l) = h ∧ slice (flitBytes h l) 8 l.length = l)

/-- The loader's commands and ends (R312–R314, R320–R324, R328, R329). -/
def Obligations.LoaderCommandsTakeEffect : Prop :=
  (∀ (src : Source) (v : Nat) (s : State), let c := withOp v 1
    s.admits src 0x3000 1 10 (leBytes 16 c) true (loaderFits c) → s.loaderFree → bits c 27 26 ≠ 1 →
    (bits c 27 26 = 2 → 0 < s.chainPos) →
    ∃ t, exec (.loaderLoad src v) s = .next t ∧ t.ld.lstate = .header ∧ t.ld.source = bits c 27 26 ∧ t.ld.boot = false ∧
      t.rd 0x3000 6 = 0 ∧ t.saidOk src) ∧
  (∀ (src : Source) (v l n : Nat) (s : State), let c := withOp v 1
    s.admits src 0x3000 1 10 (leBytes 16 c) true (loaderFits c) → s.loaderFree → bits c 27 26 = 1 →
    s.routeLink (bits c 24 22) (bits c 19 8) = some l → (s.link l).freeTag = some n →
    ∃ t, exec (.loaderLoad src v) s = .next t ∧ t.ld.lstate = .header ∧ t.ld.asked = 64 ∧
      (t.link l).asks = (s.link l).asks ++ [(n, .loader)] ∧ t.saidOk src) ∧
  (∀ (src : Source) (s : State), s.admits src 0x3000 1 10 (leBytes 16 (withOp 0 3)) true true → s.loaderFree → s.allEmpty →
    s.bootSrc < 2 → (s.bootSrc = 1 → 0 < s.chainPos) →
    ∃ t, exec (.loaderBootLoad src) s = .next t ∧ t.ld.lstate = .header ∧ t.ld.boot = true ∧ t.ld.attempt = 1 ∧
      t.saidOk src) ∧
  (∀ (src : Source) (v : Nat) (s : State), let c := withOp v 4
    s.admits src 0x3000 1 10 (leBytes 16 c) true (loaderFits c) → s.loaderFree → s.chainPos = 0 → s.bootSrc = 0 →
    s.ld.chainImage →
    ∃ t, exec (.loaderChainSend src v) s = .next t ∧ t.ld.sending = some (bits c 39 32, c.testBit 25) ∧
      .flashRead (s.rd 0x3000 (if c.testBit 25 then 0xB else 0xA)) ∈ t.out.drop s.out.length ∧ t.saidOk src) ∧
  (∀ (src : Source) (s : State), s.admits src 0x3000 1 10 (leBytes 16 (withOp 0 2)) true true →
    (s.ld.lstate = .header ∨ s.ld.lstate = .frames ∨ s.ld.lstate = .verify ∨ s.ld.lstate = .fallback) →
    ∃ t, exec (.loaderAbort src) s = .next t ∧ t.ld.stop = true ∧ t.saidOk src ∧
      (s.ld.waits → t.ld.lstate = .failed ∧ t.ld.result = 0x89 ∧ t.rd 0x3000 8 = satAdd maxU32 (s.rd 0x3000 8) 1) ∧
      (s.ld.waits = false → t.ld.lstate = s.ld.lstate ∧ t.ld.abort = true)) ∧
  (∀ (h : List Byte) (s : State), s.ld.preamble → s.cfgRuns → 32 ≤ h.length →
    ∃ t, exec (.flashPreambleDone h true) s = .next t ∧ t.ld.preamble = false ∧ t.ld.lstate = s.ld.lstate ∧
      (if bootHeaderGood h then t.ld.defaulted = false ∧ t.ld.chainImage = (leValue h).testBit 96 ∧
          t.rd 0x3000 0xA = leValue (slice h 4 4) ∧ t.rd 0x3000 0xB = leValue (slice h 8 4)
        else t.ld.defaulted = true ∧ t.rd 0x3000 0xA = 0x1000 ∧ t.rd 0x3000 0xB = 0x0F000000 ∧
          t.hold 0x05 = (s.hold 0x05).post 0x05 0x06 0)) ∧
  (∀ (bad : Bool) (s : State), s.ld.lstate = .verify → s.cfgRuns → s.verifyResult bad = 0 →
    ∃ t, exec (.loadVerifyDone bad) s = .next t ∧ t.ld.lstate = .done ∧ t.ld.result = 0 ∧
      t.rd 0x3000 7 = satAdd maxU32 (s.rd 0x3000 7) 1 ∧ t.dev.publishDue = true ∧
      ∀ p, p < 32 → s.ld.set.testBit p → (t.panel p).slot s.ld.slot = .valid) ∧
  (∀ (bad : Bool) (s : State), s.ld.lstate = .verify → s.cfgRuns → s.verifyResult bad ≠ 0 → s.ld.boot = false →
    ∃ t, exec (.loadVerifyDone bad) s = .next t ∧ t.ld.lstate = .failed ∧ t.ld.result = s.verifyResult bad ∧
      ∀ p, p < 32 → s.ld.set.testBit p → (t.panel p).slot s.ld.slot = .invalid) ∧
  (∀ (bad : Bool) (s : State), s.ld.lstate = .verify → s.cfgRuns → s.verifyResult bad ≠ 0 → s.ld.boot → s.ld.attempt = 2 →
    s.ld.stop = false →
    ∃ t, exec (.loadVerifyDone bad) s = .next t ∧ t.ld.lstate = .fallback ∧ t.ld.selvedge = false) ∧
  (∀ s : State, s.ld.lstate = .fallback → s.cfgRuns → s.ld.preambleBad = false →
    s.leaveFallback.ld.lstate = .header ∧ s.leaveFallback.ld.attempt = 3 ∧
      (s.ld.source = 0 → s.leaveFallback.out = s.out ++ [.flashRead (s.rd 0x3000 0xB)])) ∧
  (∀ s : State, (s.ld.lstate = .header ∨ s.ld.lstate = .frames) → s.ld.preamble = false → s.cfgRuns → s.ld.boot = false →
    (s.ld.source = 2 → s.ld.begun) →
    ∃ t, exec .loadTimeout s = .next t ∧ t.ld.lstate = .failed ∧ t.ld.result = 0x81 ∧
      t.rd 0x3000 8 = satAdd maxU32 (s.rd 0x3000 8) 1) ∧
  (∀ (d : List Byte) (s : State), 12 ≤ d.length → (s.dev.state = .managed ∨ s.dev.state = .operational) → s.cfgRuns →
    s.ld.lstate ≠ .fallback → s.chainPos ≠ 0 →
    bits (leValue (d.take 12)) 95 64 = 0xE7A15C3D →
    (s.chainPos < envPos d → ∃ t, exec (.chainEnvelope d) s = .next t ∧ t.out = s.out ++ [.chain d] ∧ t.ld = s.ld) ∧
    (s.chainPos = envPos d → s.chainWaits → s.ld.envCause d = 0 → envLast d = false →
      ∃ t, exec (.chainEnvelope d) s = .next t ∧ t.ld.buf = s.ld.buf ++ slice d 12 (envLen d) ∧
        t.ld.nextSeq = (s.ld.nextSeq + 1) % 65536) ∧
    (envPos d < s.chainPos → ∃ t, exec (.chainEnvelope d) s = .next t ∧
      t.rd 0x3000 0xD = satAdd maxU32 (s.rd 0x3000 0xD) 1 ∧ t.ld = s.ld))

/-- Records of a load that is not aborted, read from a flash (R310, R316–R319). -/
def Obligations.LoadRecordsAreTaken : Prop :=
  (∀ (h : List Byte) (s : State), s.ld.lstate = .header → s.ld.preamble = false → s.cfgRuns → 64 ≤ h.length →
    s.ld.offers (h.take 64) → s.ld.abort = false → s.headerResult (h.take 64) = 0 → s.ld.source = 0 →
    s.ld.buffered = false →
    ∃ t, exec (.loadHeader h) s = .next t ∧ t.ld.lstate = .frames ∧ t.ld.set = bits (leValue (h.take 64)) 127 96 ∧
      t.ld.slot = bits (leValue (h.take 64)) 130 128 ∧ t.ld.count = bits (leValue (h.take 64)) 191 160 ∧
      ∀ p, p < 32 → (bits (leValue (h.take 64)) 127 96).testBit p →
        (t.panel p).slot (bits (leValue (h.take 64)) 130 128) = .loading) ∧
  (∀ (h : List Byte) (s : State), s.ld.lstate = .header → s.ld.preamble = false → s.cfgRuns → 64 ≤ h.length →
    s.ld.offers (h.take 64) → s.ld.abort = false → s.headerResult (h.take 64) ≠ 0 → s.ld.boot = false →
    ∃ t, exec (.loadHeader h) s = .next t ∧ t.ld.lstate = .failed ∧ t.ld.result = s.headerResult (h.take 64) ∧
      t.rd 0x3000 8 = satAdd maxU32 (s.rd 0x3000 8) 1) ∧
  (∀ (r : List Byte) (s : State), s.ld.lstate = .frames → s.cfgRuns → 524 ≤ r.length → bits (leValue (r.take 8)) 63 56 = 0x46 →
    s.ld.ended = none → s.ld.offers (r.take 524) → s.ld.abort = false → s.frameResult (r.take 524) = 0 →
    ∃ t, exec (.loadFrameRecord r) s = .next t ∧ t.ld.frames = s.ld.frames + 1 ∧ t.ld.lstate = .frames ∧
      (t.panel (framePanel (leValue (r.take 8)))).frame s.ld.slot (frameTile (leValue (r.take 8)))
        (bits (leValue (r.take 8)) 8 3) = leValue (slice r 8 512)) ∧
  (∀ (r : List Byte) (s : State), s.ld.lstate = .frames → s.cfgRuns → 40 ≤ r.length → bits (leValue (r.take 8)) 63 56 = 0x45 →
    leValue (r.take 8) % 2 ^ 56 = 0 → s.ld.ended = none → s.ld.count ≤ s.ld.frames → s.ld.offers (r.take 40) →
    s.ld.abort = false →
    ∃ t, exec (.loadEndRecord r) s = .next t ∧ t.ld.ended = some (slice r 8 32) ∧
      t.ld.lstate = (if s.ld.signed then .frames else .verify)) ∧
  (∀ (r : List Byte) (s : State), s.ld.lstate = .frames → s.cfgRuns → 72 ≤ r.length → bits (leValue (r.take 8)) 63 56 = 0x53 →
    bits (leValue (r.take 8)) 55 8 = 0 → s.ld.ended.isSome → s.ld.offers (r.take 72) → s.ld.abort = false →
    ∃ t, exec (.loadSignatureRecord r) s = .next t ∧ t.ld.lstate = .verify ∧ t.ld.sigRec = r.take 72)

/-- Salyn requests (R344–R349, R359, R368). -/
def Obligations.SalynRequestsAreServed : Prop :=
  (∀ (src : Source) (m : List Byte) (s : State), s.served src → (src.code = 2 ∨ src.code = 16) → messageBad m = false →
    (headerOf m).testBit 16 = false → s.full src = false →
    ∃ t, exec (.salynMessageArrival src m) s = .next t ∧ t.heldBy (transportOf src.code) = s.heldBy (transportOf src.code) ++
      [⟨src, bits (headerOf m) 15 8, bits (headerOf m) 47 32, m.drop 8, bits (headerOf m) 23 17 ≠ 0, 0⟩]) ∧
  (∀ (src u : Source) (m b : List Byte) (p : Packet) (s : State), src.code = 1 → p = packetOf b →
    u = ⟨1, 2 ^ 8 * p.eid + src.addr % 128⟩ → s.served u → s.full u = false → s.takesPacket 1 p → p.som → p.eom →
    s.partOf 1 p = none → p.payload = [0x7E, 0x1F, 0x2C, 0x53] ++ m → messageBad m = false →
    (headerOf m).testBit 16 = false →
    ∃ t, exec (.salynMessageArrival src b) s = .next t ∧ t.heldBy 1 = s.heldBy 1 ++
      [⟨u, bits (headerOf m) 15 8, bits (headerOf m) 47 32, m.drop 8, bits (headerOf m) 23 17 ≠ 0, p.tag % 8⟩]) ∧
  (∀ (src : Source) (f m : List Byte) (p : IpPacket) (port : Nat) (s : State), src.code = 3 → s.udpServed →
    ipOfFrame (Config.macAddress % 2 ^ 48) f = some p → p.dst = s.rd 0x1100 5 → p.proto = 17 → p.off = 0 → p.more = false →
    udpOf p.src p.dst salynPort p.data = some (port, m) → s.full src = false → messageBad m = false →
    (headerOf m).testBit 16 = false →
    ∃ t, exec (.salynMessageArrival src f) s = .next t ∧ t.heldBy 3 = s.heldBy 3 ++
      [⟨⟨3, 2 ^ 16 * p.src + port⟩, bits (headerOf m) 15 8, bits (headerOf m) 47 32, m.drop 8,
        bits (headerOf m) 23 17 ≠ 0, 0⟩]) ∧
  (∀ (k : Nat) (r : SalynReq) (s : State), s.nextRequest k 1 = some r → r.op = 1 → s.sal.accepted = [] →
    (s.takenIn k r).repeatOf r = none →
    fixedStatus r ((s.takenIn k r).readStatus r.idx r.sub ((s.takenIn k r).readLife r.idx r.sub)) (r.body.drop 3) = .ok →
    byFirmware r false = false → ¬(r.idx = 0x5120 ∧ r.sub = 2) →
    s.goes (s.readOpen r.idx r.sub) (if (r.idx, r.sub) = (0x4310, 6) then 0x43 else 0) → s.offLace r.src →
    let u := (s.takenIn k r).remember r
    let x := (u.openReq (u.newOpen r r.idx r.sub false)).readObject r.idx r.sub
    x.1 = .ok →
    ∃ t, exec (.salynRead k) s = .next t ∧ t.heldBy k = (s.heldBy k).drop 1 ∧ t.sal.accepted = [] ∧
      t.out = x.2.2.out ++ x.2.2.sends r (r.response 0 (readBody r.idx r.sub x.2.1))) ∧
  (∀ (k : Nat) (r : SalynReq) (s : State), s.nextRequest k 3 = some r → r.op = 3 → s.sal.accepted = [] →
    (s.takenIn k r).repeatOf r = none → fixedStatus r (existsStatus r.idx r.sub) (r.body.drop 3) = .ok →
    s.offLace r.src →
    ∃ t, exec (.salynDescribe k) s = .next t ∧ t.heldBy k = (s.heldBy k).drop 1 ∧
      t.out = s.out ++ s.sends r (r.response 0 (describeBody r.idx r.sub))) ∧
  (∀ (k : Nat) (r : SalynReq) (s : State), s.nextRequest k 4 = some r → r.op = 4 → s.sal.accepted = [] →
    (s.takenIn k r).repeatOf r = none → enumerateStatus r = .ok → s.offLace r.src →
    ∃ t, exec (.salynEnumerate k) s = .next t ∧ t.heldBy k = (s.heldBy k).drop 1 ∧
      t.out = s.out ++ s.sends r (r.response 0 (enumerateBody r.idx))) ∧
  (∀ (k : Nat) (seen : WriteSeen) (r : SalynReq) (s x : State), s.nextRequest k 2 = some r → r.op = 2 →
    s.goes (s.writeOpen r.idx r.sub) (writeTier r.idx r.sub) → s.sal.accepted = [] → (s.takenIn k r).repeatOf r = none →
    fuseObject r.idx r.sub = false → byFirmware r true = false →
    let u := (s.takenIn k r).remember r
    u.tryWrite r.idx r.sub r.ty r.value (u.writeRule r.src seen r.idx r.sub r.value).life
      (u.writeRule r.src seen r.idx r.sub r.value).fits (u.writeRule r.src seen r.idx r.sub r.value).eff = (.ok, x) →
    writeStatusOf r .ok = .ok →
    ∃ t, exec (.salynWrite k seen) s = .next t ∧ t.reg = x.reg ∧ t.panels = x.panels ∧ t.dev = x.dev ∧
      t.jrn.seq = (x.jrn.seq + 1) % 2 ^ 32 ∧
      (x.sal.accepted = [] → x.served r.src → x.offLace r.src → t.out = x.out ++ x.sends r (r.response 0 []))) ∧
  (∀ (src : Source) (n k : Nat) (s : State), s.served src → s.full src = false → s.notified src n = some k →
    ∃ t, exec (.notifyResponse src n) s = .next t ∧ (t.target k).sent = none) ∧
  (∀ (i b : Nat) (seen : WriteSeen) (e : OpenReq) (s : State), s.oldestAt i b = some e → s.sal.accepted = [e] → s.fwRuns →
    s.sec.dead = false → e.req.op = 1 → s.served e.req.src → ¬(i = 0x5120 ∧ b = 2) →
    s.goes (s.readOpen i b) (if (i, b) = (0x4310, 6) then 0x43 else 0) → s.offLace e.req.src →
    let x := (s.takeBack e).readObject i b
    x.1 = .ok →
    ∃ t, exec (.firmwareReply i b seen) s = .next t ∧ t.sal.accepted = [] ∧
      t.out = x.2.2.out ++ x.2.2.sendsFor e 0 (readBody i b x.2.1)) ∧
  (∀ (i b : Nat) (e : OpenReq) (s : State), s.oldestAt i b = some e → s.sal.accepted = [e] → s.fwRuns → e.req.op = 1 →
    s.served e.req.src → s.offLace e.req.src →
    ∃ t, exec (.firmwareTimeout i b) s = .next t ∧ t.sal.accepted = [] ∧ t.out = s.out ++ s.sendsFor e 0x61 [] ∧
      t.hold 0x10 = (s.hold 0x10).post 0x10 0x01 (256 * e.req.src.code))

/-- Dictionary writes, the journal and notices (R340, R356, R359, R362–R364, R368, R369). -/
def Obligations.DictionaryJournalAndNoticesWork : Prop :=
  (∀ (src : Source) (i b ty : Nat) (v : List Byte) (seen : WriteSeen) (s x : State), fuseObject i b = false →
    s.goes (s.writeOpen i b) (writeTier i b) →
    s.admits src i b ty v (s.writeRule src seen i b v).life (s.writeRule src seen i b v).fits →
    (s.writeRule src seen i b v).eff (s.countRequest src) = (.ok, x) → x.journalOpen →
    ∃ t, exec (.dictionaryWrite src i b ty v seen) s = .next t ∧ t.reg = x.reg ∧ t.saidOk src ∧
      t.jrn.seq = (x.jrn.seq + 1) % 2 ^ 32) ∧
  (∀ (b v : Nat) (l : List (Nat × Nat)) (s : State), s.sal.settings = (b, v) :: l →
    (∀ e ∈ s.sal.accepted, e.req.op = 2 → e.idx = 0x1100 → e.sub = b → s.served e.req.src = false) →
    ∃ t, exec .transportSettingApply s = .next t ∧ t.rd 0x1100 b = v ∧ t.sal.settings = l) ∧
  (∀ (k : Nat) (r : JRec) (l : List JRec) (s : State), (s.jhold k).recs = r :: l → s.mgmtRuns → s.journalOpen →
    ∃ t, exec (.journalEntryAccept k) s = .next t ∧ (t.jhold k).recs = l ∧ (t.jhold k).lossBefore = false ∧
      t.jrn.seq = (s.jrn.seq + 1) % 2 ^ 32 ∧
      Tab.look (fun _ => 0) t.jrn.ring (s.jrn.count % 4096) = r.entry s.dev.aonTime s.jrn.seq (s.jhold k).lossBefore) ∧
  (∀ (src : Source) (s : State), s.reads src 0x1104 3 →
    ∃ t, exec (.journalEntryRead src) s = .next t ∧ t.rd 0x1104 2 = (s.rd 0x1104 2 + 1) % 4096 ∧
      t.out = s.out ++ [.value src ((s.countRequest src).valueAt 0x1104 3)]) ∧
  (∀ (src : Source) (s : State), s.reads src 0x1105 3 →
    ∃ t, exec (.nvJournalEntryRead src) s = .next t ∧ t.rd 0x1105 2 = (s.rd 0x1105 2 + 1) % 256 ∧
      t.out = s.out ++ [.value src ((s.countRequest src).valueAt 0x1105 3)]) ∧
  (∀ (k : Nat) (s : State), 1 ≤ k → k ≤ 4 → (s.target k).sent = none → s.notifyDue (s.target k) →
    s.served (targetSource (s.rd 0x1111 k)) →
    ∃ t, exec (.notifySend k) s = .next t ∧ (t.target k).records = (s.target k).records.drop 16 ∧ (t.target k).lost = 0 ∧
      t.out = s.out ++ [.notify k (s.target k).tag (s.notifyBody (s.target k) (((s.target k).records.take 16).map (·.1)))]) ∧
  (∀ (k n i : Nat) (b : List Byte) (s : State), (s.target k).sent = some (n, b, i) → i < 3 →
    s.served (targetSource (s.rd 0x1111 k)) →
    ∃ t, exec (.notifyResend k) s = .next t ∧ (t.target k).sent = some (n, b, i + 1) ∧ t.out = s.out ++ [.notify k n b]) ∧
  (∀ (k n i : Nat) (b : List Byte) (s : State), (s.target k).sent = some (n, b, i) → 3 ≤ i →
    ∃ t, exec (.notifyResend k) s = .next t ∧ (t.target k).sent = none ∧
      t.rd 0x1112 3 = satAdd maxU32 (s.rd 0x1112 3) ((b.length - 16) / 8) ∧
      t.hold 0x10 = (s.hold 0x10).post 0x10 0x03 k) ∧
  (∀ (src : Source) (v : Nat) (s : State), s.admits src 0x1112 2 4 (leBytes 4 v) true (!ackAhead (s.rd 0x1112 1) (v % 2 ^ 32)) →
    ∃ t, exec (.alertAckWrite src v) s = .next t ∧ t.rd 0x1112 2 = v % 2 ^ 32 ∧ t.saidOk src)

/-- Transports (R295, R351–R355, R386). -/
def Obligations.TransportsAnswer : Prop :=
  (∀ (f : Frag) (s : State), s.sal.frags = [f] → f.began + 1000000 ≤ s.dev.aonTime →
    ∃ t, exec .udpReassemblyTimeout s = .next t ∧ t.rd 0x1102 3 = satAdd maxU32 (s.rd 0x1102 3) 1 ∧ t.sal.frags = []) ∧
  (∀ (src : Source) (f : List Byte) (p : IpPacket) (s : State), src.code = 3 → s.udpServed →
    ipOfFrame (Config.macAddress % 2 ^ 48) f = some p → p.dst = s.rd 0x1100 5 → p.proto = 17 → p.more → s.sal.frags = [] →
    p.off + p.data.length ≤ 8 + 4352 →
    ∃ t, exec (.salynMessageArrival src f) s = .next t ∧
      t.sal.frags = [⟨p.src, p.id, [(p.off, p.data)], none, s.dev.aonTime⟩]) ∧
  (∀ (ip : Nat) (s : State), s.udpServed → ip = s.rd 0x1100 5 →
    (∃ t, exec (.arpRequest ip) s = .next t ∧ t.out = s.out ++ [.net 1 ip]) ∧
    (∃ t, exec (.icmpEcho ip) s = .next t ∧ t.out = s.out ++ [.net 2 ip])) ∧
  (∀ (a c : Nat) (s : State), s.served ⟨1, 0⟩ →
    ∃ t, exec (.dynamicAddressAssign a c) s = .next t ∧ t.rd 0x1100 2 = a % 128 ∧ t.sal.controller = c % 128) ∧
  (∀ (src : Source) (d : List Byte) (s : State), (src.code = 1 ∨ src.code = 2) → s.served src → s.full src = false →
    d.length = 2 →
    leValue (slice d 1 1) ≠ 0 → leValue (slice d 1 1) ≠ 0xFF →
    ∃ t, exec (.mctpControlCommand src 1 d) s = .next t ∧ t.eid (mediumOf src) = leValue (slice d 1 1) ∧
      (src.code = 1 → t.rd 0x1100 3 = leValue (slice d 1 1) ∧
        t.out = s.out ++ [.i3c (mctpPackets (bits src.addr 15 8) (leValue (slice d 1 1)) 0 0 true
          ([0, 0, 1, 0, 0] ++ leBytes 1 (leValue (slice d 1 1)) ++ [0]) 7)])) ∧
  (∀ (src : Source) (l : Nat) (d : List Byte) (s : State), src.code = 2 → s.served src → s.full src = false →
    l = src.addr % 128 → s.isLace l → (s.link l).lace.sendq = [] → (s.link l).lace.tx = .awake → s.laceSends l →
    vcCount (s.link l).lace.credit 0 ≠ 0 →
    ∃ t, exec (.mctpControlCommand src 2 d) s = .next t ∧ (t.link l).lace.replay = (s.link l).lace.replay ++
      [((s.link l).lace.txNext, ⟨7, 0, s.rd 0x5131 l, mctpPacket (bits src.addr 15 8) (s.eid (128 + l)) true true 0 0
        ([0, 0, 2, 0] ++ leBytes 1 (s.eid (128 + l)) ++ [0, 0])⟩)]) ∧
  (∀ (l dpid rq rt : Nat) (b : List Byte) (p : Packet) (s : State), s.isLace l = false → s.linkActive l → s.portClock l →
    s.misrouted l dpid = false → (rt = 0 ∨ rt = 2 ∨ rt = 3) → p = packetOf b → s.served ⟨2, 2 ^ 16 * (rq % 2 ^ 16) + 2 ^ 8 * p.eid + l⟩ →
    s.takesPacket (mediumOf ⟨2, 2 ^ 16 * (rq % 2 ^ 16) + 2 ^ 8 * p.eid + l⟩) p → (s.heldBy 2).length < 8 → p.som →
    p.eom = false →
    s.sal.parts = [] →
    ∃ t, exec (.mctpVdmReceive l dpid rq rt b) s = .next t ∧
      t.sal.parts = [⟨mediumOf ⟨2, 2 ^ 16 * (rq % 2 ^ 16) + 2 ^ 8 * p.eid + l⟩, p.eid, p.tag, (p.seq + 1) % 4, p.payload⟩]) ∧
  (∀ (l : Nat) (f : List Byte) (s : State), s.arrives l f → fTy (flitHead f) = 7 → (s.link l).lace.requests = [] →
    ∃ t, exec (.laceMctp l f) s = .next t ∧ (t.link l).lace.rxNext = ((s.link l).lace.rxNext + 1) % 4096 ∧
      (t.link l).active = true) ∧
  (∀ (l : Nat) (f : List Byte) (s : State), s.arrives l f → fTy (flitHead f) = 7 → s.vc0Busy l →
    ∃ t, exec (.laceMctp l f) s = .next t ∧ (t.link l).lace.requests = (s.link l).lace.requests ++ [f]) ∧
  (∀ (src : Source) (code : Nat) (s : State), s.spdmServes → (src.code = 1 ∨ src.code = 2) → s.served src → s.sramMarked 5 →
    ∃ t, exec (.spdmRequest src code) s = .next t ∧ t.out = s.out ++ [.spdm src code 0x61 []]) ∧
  (∀ (src : Source) (s : State), s.spdmServes → (src.code = 1 ∨ src.code = 2) → s.served src → s.sramMarked 5 = false →
    s.sec.trngBad = false →
    ∃ t, exec (.spdmRequest src 0xE0) s = .next t ∧ t.out = s.out ++ [.spdm src 0xE0 0 s.measurements]) ∧
  (∀ (src : Source) (s : State), s.spdmServes → (src.code = 1 ∨ src.code = 2) → s.served src → s.sramMarked 5 = false →
    s.sec.trngBad = false → s.sec.sessions.length < 4 →
    ∃ t, exec (.spdmRequest src 0xE4) s = .next t ∧ t.sec.sessions = s.sec.sessions ++ [(src, false)] ∧
      t.out = s.out ++ [.spdm src 0xE4 0 s.keyExchange.1]) ∧
  (∀ (dest eid seq tag : Nat) (som eom : Bool) (l : List Byte), dest < 256 → eid < 256 → seq < 4 → tag < 16 →
    packetOf (mctpPacket dest eid som eom seq tag l) = ⟨1, dest, eid, som, eom, seq, tag, l⟩) ∧
  (∀ (a b sp dp : Nat) (m : List Byte), a < 2 ^ 32 → b < 2 ^ 32 → sp < 65536 → dp < 65536 → m.length ≤ 4360 →
    udpOf a b dp (udpDatagram a b sp dp m) = some (sp, m))

/-- Fuse writes (R374–R378, R385, R388). -/
def Obligations.FusesAreProgrammedAndLocked : Prop :=
  (∀ (src : Source) (v : Nat) (s : State), s.takesFuse src 2 2 (leBytes 1 v) → s.sramMarked 5 = false →
    ∃ t, exec (.lifecycleAdvance src v) s = .next t ∧
      t.sec.op = some ⟨0, 0, v % 256, some (s.fuseEntry src 2 2 (leBytes 1 v))⟩ ∧ t.sec.fuses = s.sec.fuses) ∧
  (∀ (src : Source) (token : List Byte) (s : State), s.takesFuse src 0x41 0x0A token → s.sramMarked 5 = false →
    ∃ t, exec (.returnToken src token) s = .next t ∧
      t.sec.op = some ⟨0, 0, 4, some (s.fuseEntry src 0x41 0x0A token)⟩ ∧ t.sec.fuses = s.sec.fuses) ∧
  (∀ (src : Source) (k : Nat) (hash : List Byte) (s : State), 0x10 ≤ k → k ≤ 0x17 → s.takesFuse src k 9 hash → s.sramMarked 5 = false →
    ∃ t, exec (.keyHashWrite src k hash) s = .next t ∧
      t.sec.op = some ⟨k - 0x0F, 0, leValue hash, some (s.fuseEntry src k 9 hash)⟩ ∧ t.sec.fuses = s.sec.fuses) ∧
  (∀ (src : Source) (v : Nat) (s : State), s.takesFuse src 0x18 2 (leBytes 1 v) → s.sramMarked 5 = false →
    ∃ t, exec (.keyRevoke src v) s = .next t ∧
      t.sec.op = some ⟨9, 0, v % 256, some (s.fuseEntry src 0x18 2 (leBytes 1 v))⟩ ∧ t.sec.fuses = s.sec.fuses) ∧
  (∀ (src : Source) (v : Nat) (s : State), s.takesFuse src 5 2 (leBytes 1 v) → s.sramMarked 5 = false →
    ∃ t, exec (.fwSvnAdvance src v) s = .next t ∧
      t.sec.op = some ⟨10, 0, v % 256, some (s.fuseEntry src 5 2 (leBytes 1 v))⟩ ∧ t.sec.fuses = s.sec.fuses) ∧
  (∀ (src : Source) (v : Nat) (s : State), s.takesFuse src 0x30 5 (leBytes 8 v) → s.sramMarked 5 = false →
    ∃ t, exec (.secPinMaskWrite src v) s = .next t ∧
      t.sec.op = some ⟨11, 0, v % 2 ^ 64, some (s.fuseEntry src 0x30 5 (leBytes 8 v))⟩ ∧ t.sec.fuses = s.sec.fuses) ∧
  (∀ (src : Source) (v : Nat) (s : State), s.takesFuse src 2 2 (leBytes 1 v) → s.sramMarked 5 →
    ∃ t, exec (.lifecycleAdvance src v) s = .next t ∧ t.sec.op = s.sec.op ∧ t.sec.fuses = s.sec.fuses ∧
      t.sramMarked 5 = (s.mem.sramBad.erase 5).contains 5) ∧
  (∀ (o : FuseOp) (s : State), s.sec.op = some o → s.journalOpen →
    ∃ t, exec (.fuseWriteDone false) s = .next t ∧ t.sec.op = none ∧
      t.sec.fuses = s.sec.fuses.program o.kind o.addr o.value) ∧
  (∀ (o : FuseOp) (s : State), s.sec.op = some o → (o.answer = none ∨ s.journalOpen) →
    ∃ t, exec (.fuseWriteDone true) s = .next t ∧ t.sec.op = none ∧ t.sec.fuses.life = s.sec.fuses.life ∧
      t.sec.fuses.minSvn = s.sec.fuses.minSvn ∧
      ∀ (r : JRec) (e : OpenReq), o.answer = some r → s.openAt r.source 2 r.idx r.sub = some e → s.sal.accepted = [e] →
        e.direct → s.served e.req.src → t.out = s.out ++ [.status e.req.src 0x61])

/-- Firmware (R381, R382), keys (R385, R387) and tamper (R388). -/
def Obligations.FirmwareKeysAndTamperWork : Prop :=
  (∀ (src : Source) (s : State), s.admits src 0x1300 3 2 (leBytes 1 1) true true → s.dev.state = .awaitFw →
    s.sec.verifying = false →
    ∃ t, exec (.fwVerifyAndStart src) s = .next t ∧ t.sec.verifying = true ∧ t.saidOk src) ∧
  (∀ (src : Source) (s : State), s.admits src 0x1300 3 2 (leBytes 1 2) true true → s.dev.state = .awaitFw →
    s.sec.verifying = false →
    ∃ t, exec (.fwClearWindow src) s = .next t ∧ (∀ a, a < 458752 → t.sec.byte a = 0) ∧ t.saidOk src) ∧
  (∀ (src : Source) (d : List Byte) (s : State), s.admits src 0x1300 5 0x0A d true true →
    s.rd 0x1300 4 + d.length ≤ 458752 → s.sec.verifying = false → s.sec.closed = false →
    ∃ t, exec (.fwWindowData src d) s = .next t ∧ t.rd 0x1300 4 = s.rd 0x1300 4 + d.length ∧
      (∀ i, i < d.length → t.sec.byte (s.rd 0x1300 4 + i) = d.getD i 0) ∧ t.saidOk src) ∧
  (∀ (off : Nat) (d : List Byte) (s : State), s.bootBar → off + d.length ≤ 458752 → s.sec.verifying = false →
    s.sec.closed = false →
    ∃ t, exec (.bootBarWindowWrite off d) s = .next t ∧ ∀ i, i < d.length → t.sec.byte (off + i) = d.getD i 0) ∧
  (∀ (ue : Bool) (s : State), s.sec.verifying → s.dev.state = .awaitFw → s.clkLost.contains 4 = false →
    s.verifyImage (ue || s.sramMarked 5) = 0 →
    ∃ t, exec (.fwVerifyDone ue) s = .next t ∧ t.sec.closed = true ∧ t.sec.verifying = false ∧ t.sec.result = 0 ∧
      t.sec.svn = bits (leValue (s.sec.bytes 0 128)) 167 160 ∧ t.sec.digest = sha256 (s.sec.bytes 0 (s.imageLength - 72))) ∧
  (∀ (ue : Bool) (s : State), s.sec.verifying → s.dev.state = .awaitFw → s.clkLost.contains 4 = false →
    s.verifyImage (ue || s.sramMarked 5) ≠ 0 →
    ∃ t, exec (.fwVerifyDone ue) s = .next t ∧ t.sec.result = s.verifyImage (ue || s.sramMarked 5) ∧ t.sec.verifying = false ∧
      t.dev.state = .awaitFw ∧ t.rd 0x1300 7 = satAdd maxU32 (s.rd 0x1300 7) 1 ∧
      t.hold 0x0F = (s.hold 0x0F).post 0x0F 0x01 (s.verifyImage (ue || s.sramMarked 5))) ∧
  (∀ (src : Source) (k : Nat) (key : List Byte) (s : State), k < 4 →
    s.admits src 0x1200 (0x20 + k) 0x0A key true (s.bsKeyFits k key) →
    s.sramMarked 5 = false → s.ld.lstate ≠ .header → s.ld.lstate ≠ .frames → s.ld.lstate ≠ .verify →
    ∃ t, exec (.bsKeyWrite src k key) s = .next t ∧ Tab.look (fun _ => []) t.bsKeys k = key ∧ t.saidOk src) ∧
  (∀ (l st k key : Nat) (s : State), s.sramMarked 5 = false → s.sec.sessions.any (fun e => e.2) → s.linkActive l →
    s.hasStream l st → k < 4 →
    ∃ t, exec (.ideKmKeyProgram l st k key) s = .next t ∧
      Tab.look (fun _ => 0) t.ideKeys (ideKey l st k) = key % 2 ^ 256 + 1 ∧
      (Tab.look (fun _ => 0) s.ideKeys (ideKey l st (k / 2 * 2 + 1 - k % 2)) ≠ 0 →
        ideKey l st (k / 2 * 2 + 1 - k % 2) ∉ (s.link l).ideStale → st ∈ (t.link l).ide)) ∧
  (∀ (n : Nat) (s : State), s.secPin n → s.dev.held = false →
    ∃ t, exec (.tamper n) s = .next t ∧ t.ideKeys = [] ∧ t.bsKeys = [] ∧ (t.rd 0x1200 0x32).testBit n = true ∧
      t.hold 0x11 = ((s.hold 0x11).post 0x11 0x04 (3 * 256 + 0x7F)).post 0x11 0x03 n)

/-- The thermal sequencer (R392–R399, R411). -/
def Obligations.ThermalSequencerActs : Prop :=
  (∀ (n : Nat) (x : Int) (ok : Bool) (s : State), s.dev.state ≠ .off → n < 192 → s.sensorFailed n = false →
    sensorTier n ∈ s.poweredTiers → -880 ≤ x → x ≤ 3200 →
    ∃ t, exec (.thermalSample [(n, some x)] [] ok) s = .next t ∧ t.rd 0x2201 n = u16 x ∧ t.dev.state = s.dev.state) ∧
  (∀ (level v : Nat) (s : State), level < 3 → v < 192 → Tab.look (fun _ => 0) s.th.up (256 * level + v) = 3 →
    ∃ t, exec (.levelRiseConfirm level v) s = .next t ∧ t.lit level v = true ∧
      Tab.look (fun _ => 0) t.th.up (256 * level + v) = 0 ∧
      (level = 2 → s.dev.held = false → (s.dev.state = .managed ∨ s.dev.state = .operational) → t.dev.state = .quiescing)) ∧
  (∀ (level v : Nat) (s : State), level < 2 → v < 192 → Tab.look (fun _ => 0) s.th.down (256 * level + v) = 3 →
    ∃ t, exec (.levelReleaseConfirm level v) s = .next t ∧ t.lit level v = false ∧
      Tab.look (fun _ => 0) t.th.down (256 * level + v) = 0) ∧
  (∀ s : State, s.th.coolantLow = 3 → s.th.coolantLost = false →
    ∃ t, exec .coolantLossConfirm s = .next t ∧ t.th.coolantLost = true ∧ t.th.coolantOk = false) ∧
  (∀ s : State, s.th.coolantHigh = 3 →
    ∃ t, exec .coolantRestoreConfirm s = .next t ∧ t.th.coolantLost = false ∧ t.th.coolantOk = true) ∧
  (∀ (k : Nat) (s : State), k ∈ s.th.faulted → Tab.look (fun _ => 0) s.th.good k = 3 →
    ∃ t, exec (.thermistorRecover k) s = .next t ∧ k ∉ t.th.faulted ∧ Tab.look (fun _ => 0) t.th.good k = 0) ∧
  (∀ s : State, s.th.inletUp = 3 →
    ∃ t, exec .inletHighConfirm s = .next t ∧ t.th.inletHigh = true ∧ t.hold 0x12 = (s.hold 0x12).post 0x12 0x0C 0) ∧
  (∀ s : State, s.th.inletDown = 3 → ∃ t, exec .inletHighClear s = .next t ∧ t.th.inletHigh = false) ∧
  (∀ (site : Nat) (s : State), site < 64 → Tab.look (fun _ => 0) s.th.apart site = 100 → s.disagrees site = false →
    ∃ t, exec (.sensorDisagreeLatch site) s = .next t ∧ t.disagrees site = true ∧
      t.hold 0x12 = (s.hold 0x12).post 0x12 0x07 site) ∧
  (∀ (src : Source) (i v : Nat) (s : State), i < 2 → s.admits src 0x2203 i 4 (leBytes 4 v) true true →
    (∀ b, b < 32 → (s.rd 0x2203 i).testBit b → v.testBit b ∨ s.mayAgree (32 * i + b)) →
    ∃ t, exec (.disagreeMapWrite src i v) s = .next t ∧ t.rd 0x2203 i = s.rd 0x2203 i &&& v % 2 ^ 32 ∧ t.saidOk src) ∧
  (∀ (src : Source) (k v : Nat) (s : State), 1 ≤ k → k ≤ 6 →
    s.admits src 0x2200 k 6 (leBytes 2 v) true (s.pointsFit k (s16 (v % 2 ^ 16))) →
    (k < 5 ∨ s.dev.state = .managed ∨ s.dev.state = .operational) →
    ∃ t, exec (.levelPointWrite src k v) s = .next t ∧ t.rd 0x2200 k = v % 2 ^ 16 ∧ t.saidOk src)

/-- Wear (R417, R418), the NV engine (R363, R364, R422–R425), the event log (R28, R29, R36), AON time (R30, log 53) and
publications (R27, R332). -/
def Obligations.WearStoreEventsAndTimeAdvance : Prop :=
  (∀ s : State, s.dev.state ≠ .off → ∃ t, exec .fraySample s = .next t ∧
    ∀ i m, i < 4 → s.faceTemp i = some m → t.fray i = ((s.fray i).next m).1) ∧
  (∀ s : State, s.nv.waits.any (fun j => j.kind = 0) = false →
    ∃ t, exec .frayPeriodicSave s = .next t ∧ t.nv.has 2 = true ∧ t.nv.has 3 = true) ∧
  (∀ s : State, s.jrn.copied ≠ s.jrn.count → s.jrn.copyHeld = false → s.nv.has 5 = false → s.nvWrites →
    ∃ t, exec .journalNvCopy s = .next t ∧ t.nv.has 5 = true) ∧
  (∀ s : State, (2 ^ 32 + s.jrn.reserve - s.jrn.seq) % 2 ^ 32 ≤ 8388608 → s.nv.has 1 = false →
    ∃ t, exec .seqReserveCommit s = .next t ∧ t.nv.has 1 = true) ∧
  (∀ (p : Nat) (d : List Nat) (s : State), s.fwRuns → s.dev.stopAsserted = false → s.nvArea p d.length →
    ∃ t, exec (.firmwareNvWrite p d) s = .next t ∧ t.nv.has 6 = true ∧ t.out = s.out) ∧
  (∀ (j : NvJob) (s : State), s.nv.job = some j → s.nvWrites →
    ∃ t, exec .nvGroupCommitDone s = .next t ∧
      t.rd 0x2306 2 = satAdd (2 ^ 64 - 1) (s.rd 0x2306 2) j.pairs.length ∧
      (j.kind = 1 → t.jrn.reserve = (j.pairs.headD (0, 0)).2 % 2 ^ 32) ∧ (j.kind = 0 → t.nv.saved = true)) ∧
  (∀ (k : Nat) (r : EvtRec) (l : List EvtRec) (s : State), (s.hold k).recs = r :: l → s.dev.state ≠ .off →
    ∃ t, exec (.eventRecordAccept k) s = .next t ∧ t.hold k = ⟨l, (s.hold k).lost⟩ ∧
      (r.lostBefore = 0 → t.dev.evtCount = (s.dev.evtCount + 1) % 2 ^ 32 ∧ t.logAt (s.dev.evtCount % 1024) =
        2 ^ 56 * r.subsys + 2 ^ 48 * r.event + 2 ^ 32 * (r.inst % 65536) + s.dev.aonTime % 2 ^ 32) ∧
      (r.lostBefore ≠ 0 → t.dev.evtCount = ((s.dev.evtCount + 1) % 2 ^ 32 + 1) % 2 ^ 32)) ∧
  (∀ (src : Source) (s : State), s.reads src 0x1012 3 →
    ∃ t, exec (.eventRecordRead src) s = .next t ∧ t.rd 0x1012 2 = (s.rd 0x1012 2 + 1) % 1024 ∧
      t.out = s.out ++ [.value src (leBytes 8 (s.logAt (s.rd 0x1012 2)))]) ∧
  (∀ s : State, s.dev.state ≠ .off → ∃ t, exec .timeMark s = .next t ∧ t.dev.aonTime % 2 ^ 32 = 0 ∧
    (s.dev.aonTime < 2 ^ 64 - 2 ^ 32 → s.dev.aonTime < t.dev.aonTime ∧ t.dev.aonTime ≤ s.dev.aonTime + 2 ^ 32) ∧
    t.hold 0x00 = (s.hold 0x00).post 0x00 0x04 (bits t.dev.aonTime 47 32)) ∧
  (∀ s : State, s.dev.publishDue → s.mgmtRuns → ∃ t, exec .digestPublication s = .next t ∧
    t.dev.publishDue = false ∧ t.pub.epoch = s.pub.epoch + 1 ∧ t.pub.settings = s.settingsDigest)

/-- The frame of the commands of the device, collective and shuttle families (files 01 to 03). -/
def Obligations.DevicePinAndShuttleCommandsKeepTheRest : Prop :=
  ∀ (c : Instr) (s t : State), (chapter c = 1 ∨ chapter c = 2 ∨ chapter c = 3) → exec c s = .next t → (touches c).keeps s t

/-- The frame of the commands of the memory-tier families (files 04 and 05). -/
def Obligations.MemoryCommandsKeepTheRest : Prop :=
  ∀ (c : Instr) (s t : State), (chapter c = 4 ∨ chapter c = 5) → exec c s = .next t → (touches c).keeps s t

/-- The frame of the commands of the queue and mover family (file 06). -/
def Obligations.QueueAndMoverCommandsKeepTheRest : Prop :=
  ∀ (c : Instr) (s t : State), chapter c = 6 → exec c s = .next t → (touches c).keeps s t

/-- The frame of the commands of the directory and attached-memory families (files 07 and 08). -/
def Obligations.DirectoryAndChannelCommandsKeepTheRest : Prop :=
  ∀ (c : Instr) (s t : State), (chapter c = 7 ∨ chapter c = 8) → exec c s = .next t → (touches c).keeps s t

/-- The frame of the commands of the lane and Lace families (files 09 and 11). -/
def Obligations.LaneAndLaceCommandsKeepTheRest : Prop :=
  ∀ (c : Instr) (s t : State), (chapter c = 9 ∨ chapter c = 11) → exec c s = .next t → (touches c).keeps s t

/-- The frame of the commands of the port family (file 10). -/
def Obligations.PortCommandsKeepTheRest : Prop :=
  ∀ (c : Instr) (s t : State), chapter c = 10 → exec c s = .next t → (touches c).keeps s t

/-- The frame of the commands of the loader and security families (files 12 and 14). -/
def Obligations.LoaderAndSecurityCommandsKeepTheRest : Prop :=
  ∀ (c : Instr) (s t : State), (chapter c = 12 ∨ chapter c = 14) → exec c s = .next t → (touches c).keeps s t

/-- The frame of the commands of the dictionary and management family (file 13). -/
def Obligations.ManagementCommandsKeepTheRest : Prop :=
  ∀ (c : Instr) (s t : State), chapter c = 13 → exec c s = .next t → (touches c).keeps s t

/-- The frame of the commands of the thermal, wear and self-test families (files 15, 16 and 18). -/
def Obligations.ThermalWearAndSelfTestCommandsKeepTheRest : Prop :=
  ∀ (c : Instr) (s t : State), (chapter c = 15 ∨ chapter c = 16 ∨ chapter c = 18) → exec c s = .next t → (touches c).keeps s t

/-- The frame of the commands of the power, clock, reset and pin families (files 17 and 19). -/
def Obligations.PowerResetAndPinCommandsKeepTheRest : Prop :=
  ∀ (c : Instr) (s t : State), (chapter c = 17 ∨ chapter c = 19) → exec c s = .next t → (touches c).keeps s t

/-- R122: the address check and its minimum distance. -/
def Obligations.NearWordAddressesHaveDifferentChecks : Prop :=
  (∀ a, a < 2 ^ 26 → addrCheck a % 64 = gfSum 6 0x43 1 a 26 ∧ addrCheck a / 64 % 64 = gfSum 6 0x43 3 a 26 ∧
    addrCheck a / 4096 = distance 26 a 0 % 2) ∧
  (∀ a b, a < 2 ^ 26 → b < 2 ^ 26 → 1 ≤ distance 26 a b → distance 26 a b ≤ 5 → addrCheck a ≠ addrCheck b) ∧
  (∃ a b, a < 2 ^ 26 ∧ b < 2 ^ 26 ∧ distance 26 a b = 6 ∧ addrCheck a = addrCheck b)

/-- R109: the base channel of a group. -/
def Obligations.BaseChannelServesRequestersInTurn : Prop :=
  (∀ (g : Nat) (r : BaseReq) (s : State), s.memRuns → (s.channel g).find? (fun q => q.code = r.code) = some r →
    0x40 ≤ r.code → r.code ≤ 0x44 →
    (∀ q, q ∈ s.channel g → 0x40 ≤ q.code ∧ q.code ≤ 0x44 ∧ s.turns g r.code ≤ s.turns g q.code) →
    ∃ t, exec (.baseChannelGrant g) s = .next t ∧ t.channel g = (s.channel g).erase r ∧
      (t.channel g).length + 1 = (s.channel g).length ∧
      Tab.look (fun _ => 0x44) t.mem.lastServed g = r.code ∧ (∀ k, k ≠ g → t.channel k = s.channel k) ∧
      (bankOf (r.addr / 32) < 1280 → (s.owns r.code (bankOf (r.addr / 32)) || s.heldFor r.code (bankOf (r.addr / 32))) →
        t.atBank (bankOf (r.addr / 32)) = s.atBank (bankOf (r.addr / 32)) ++ [r])) ∧
  (∀ (g : Nat) (s : State), s.memRuns → s.channel g = [] → exec (.baseChannelGrant g) s = .next s)

/-- R112: writes to the owner objects that are refused. -/
def Obligations.OwnerWritesAreRefusedDuringHandoverAndStop : Prop :=
  (∀ (src : Source) (b v : Nat) (s : State), b < 1280 →
    s.admits src (0x4100 + b / 256) (b % 256) 4 (leBytes 4 v) true (bankOwnerFits b v) → (s.bank b).handover →
    ∃ t, exec (.bankOwnerWrite src b v) s = .next t ∧ t.said src .stateConflict ∧ t.bank b = s.bank b) ∧
  (∀ (src : Source) (b v : Nat) (s : State), b < 1280 → s.served src → s.journalOpen → bankOwnerFits b v →
    (s.dev.state = .quiescing ∨ s.dev.state = .safeStop) →
    ∃ t, exec (.bankOwnerWrite src b v) s = .next t ∧ t.said src .stateConflict ∧ t.bank b = s.bank b)

/-- What the memory services store (R117, R128, R131, R140), computed with the meanings' own places. -/
def Obligations.MemoryServicesStoreOnlyTheirWords : Prop :=
  (∀ (b pl : Nat) (s t : State), exec (.initEngineRow b) s = .next t →
    (∀ w, w < 8 → pl ≠ s.place (wordAddr b (s.initNext b) w)) →
    t.mem.data pl = s.mem.data pl ∧ t.mem.chk pl = s.mem.chk pl) ∧
  (∀ (g pl : Nat) (s t : State), exec (.repairWriteback g) s = .next t →
    (∀ r, (Tab.look (fun _ => []) s.mem.repairs g).head? = some r → ∀ w, w ∈ r.words → pl ≠ s.place w.1) →
    t.mem.data pl = s.mem.data pl ∧ t.mem.chk pl = s.mem.chk pl) ∧
  (∀ (b pl : Nat) (s t : State), exec (.darnMigration b) s = .next t →
    (∀ e d, (s.bank b).darn.find? (fun x => x.2.migrating) = some (e, d) → pl ≠ spareAt b e) →
    t.mem.data pl = s.mem.data pl ∧ t.mem.chk pl = s.mem.chk pl) ∧
  (∀ (src : Source) (l : List Byte) (pl : Nat) (s t : State), exec (.splitData src l) s = .next t →
    pl ≠ s.place s.splitWord → t.mem.data pl = s.mem.data pl ∧ t.mem.chk pl = s.mem.chk pl) ∧
  (∀ (src : Source) (c pl : Nat) (s t : State), exec (.splitCheck src c) s = .next t →
    pl ≠ s.place s.splitWord → t.mem.data pl = s.mem.data pl ∧ t.mem.chk pl = s.mem.chk pl)

/-- Bank ownership (R23, R24, R110) over every command of three families. -/
def Obligations.EnginesStoreOnlyInBanksTheyOwn : Prop :=
  ∀ (c : Instr) (a : Nat) (s t : State), (chapter c = 6 ∨ chapter c = 7 ∨ chapter c = 8) → a < 2 ^ 26 →
    (s.bank (bankOf a)).owner ∉ [0x40, 0x41, 0x42, 0x44] → exec c s = .next t →
    t.mem.data a = s.mem.data a ∧ t.mem.chk a = s.mem.chk a

/-- The step function; what an empty queue does is the model's choice (log 60, log 146). -/
def Obligations.StepRunsTheFrontCommand : Prop :=
  (∀ (c : Instr) (rest : List Instr) (s : State),
    Sys2Proof.Machine.step { s with pending := c :: rest } = exec c { s with pending := rest }) ∧
  (∀ s : State, s.pending = [] → s.dev.state = .off → Sys2Proof.Machine.step s = .next s) ∧
  (∀ s : State, s.pending = [] → s.dev.state ≠ .off →
    ∃ t, Sys2Proof.Machine.step s = .next t ∧ t.dev.aonTime = (s.dev.aonTime + 1) % 2 ^ 64 ∧
      t.pending = s.stalled.map (fun x => x.2) ∧ t.dev.state = s.dev.state)

/-- The state after reset (R34, R59, R113, R142, R370, R373, R374, R446); that the device is found in OFF with POR asserted is the model's reading (log 44, log 45). -/
def Obligations.ResetStateHoldsTheResetValues : Prop :=
  let s := State.reset
  (s.dev.state = .off ∧ s.stop.step = 0 ∧ s.dev.stopAsserted = false ∧ s.dev.aonTime = 0 ∧ s.dev.evtLog = [] ∧
    s.dev.evtCount = 0 ∧ s.jrn.ring = [] ∧ s.jrn.count = 0 ∧ s.lifecycle = 2 ∧ s.pending = []) ∧
  (∀ p k, (s.panel p).pstate = .empty ∧ (s.panel p).slot k = .invalid) ∧
  (∀ b r, (s.bank b).owner = 0 ∧ (s.bank b).wipePending = true ∧ (s.bank b).handover = false ∧
    s.isWritten b r = false) ∧
  (s.rd 0x1100 4 = 1 ∧ s.rd 0x1100 5 = 0 ∧ s.rd 0x1100 6 = 0xFFFFFF00 ∧ s.rd 0x1100 7 = 0 ∧ s.rd 0x1100 9 = 1 ∧
    s.rd 0x1101 1 = 0 ∧ s.rd 0x1102 1 = 0 ∧ s.rd 0x1112 1 = 0) ∧
  Memory.wf s = true ∧ s.lifecycle ≤ 5 ∧ s.holdsFit ∧ s.stopFits

/-- Equal memories are equal data in every run. -/
def Obligations.EveryStepKeepsTheMemoryCanonical : Prop :=
  ∀ s t : State, Memory.wf s = true → Sys2Proof.Machine.step s = .next t → Memory.wf t = true

/-- The life-cycle states (R374, R375). -/
def Obligations.EveryStepKeepsALegalLifeCycle : Prop :=
  ∀ s t : State, s.lifecycle ≤ 5 → Sys2Proof.Machine.step s = .next t → t.lifecycle ≤ 5

/-- The holds of R29 and R362. -/
def Obligations.EveryStepKeepsTheHoldsWithinTheirBounds : Prop :=
  ∀ s t : State, s.holdsFit → Sys2Proof.Machine.step s = .next t → t.holdsFit

/-- The table of R34, over every command. -/
def Obligations.TheDeviceStateMovesOnlyAsTheTableSays : Prop :=
  ∀ s t : State, s.stopFits → Sys2Proof.Machine.step s = .next t →
    t.stopFits ∧ mayMove s.dev.state t.dev.state = true
end

