-- ==== Sys2Proof/Laws/Tab.lean ====
section
/-! SUPPORT. The laws of sparse tables: a read after a write, and the canonical form that every write keeps. -/

namespace Sys2Proof

variable {α : Type}

theorem Tab.look_above (d : Nat → α) (t : Tab α) {k j : Nat} (h : k < j) :
    Tab.look d (Tab.above t k) j = Tab.look d t j := by
  induction t with
  | nil => rfl
  | cons e t ih =>
    obtain ⟨a, x⟩ := e
    by_cases ha : k < a
    · simp [Tab.above, ha]
    · have hj : j ≠ a := by omega
      have hj2 : ¬ j < a := by omega
      simp [Tab.above, ha, ih, Tab.look, hj, hj2]

theorem Tab.look_below (d : Nat → α) {t : Tab α} {k j : Nat} (ha : Tab.allAbove k t = true) (h : j ≤ k) :
    Tab.look d t j = d j := by
  cases t with
  | nil => rfl
  | cons e t =>
    obtain ⟨a, x⟩ := e
    simp only [Tab.allAbove, Bool.and_eq_true, decide_eq_true_eq] at ha
    have h1 : j ≠ a := by omega
    have h2 : j < a := by omega
    simp [Tab.look, h1, h2]

theorem Tab.look_above_le (d : Nat → α) (t : Tab α) {k j : Nat} (h : j ≤ k) :
    Tab.look d (Tab.above t k) j = d j := by
  induction t with
  | nil => rfl
  | cons e t ih =>
    obtain ⟨a, x⟩ := e
    by_cases ha : k < a
    · have h1 : j ≠ a := by omega
      have h2 : j < a := by omega
      simp [Tab.above, ha, Tab.look, h1, h2]
    · simp [Tab.above, ha, ih]

/-- A read of the key that was written gives the value written. -/
theorem Tab.look_put_same [DecidableEq α] (d : Nat → α) (t : Tab α) (k : Nat) (v : α) :
    Tab.look d (Tab.put d t k v) k = v := by
  induction t with
  | nil => by_cases hv : v = d k <;> simp [Tab.put, Tab.look, hv]
  | cons e t ih =>
    obtain ⟨a, x⟩ := e
    simp only [Tab.put]
    split
    · rename_i h
      have h1 : k ≠ a := by omega
      split <;> simp_all [Tab.look]
    · split
      · split
        · rename_i hv
          rw [Tab.look_above_le d t (Nat.le_refl k), hv]
        · simp [Tab.look]
      · rename_i h1 h2
        simp [Tab.look, h1, h2, ih]

/-- A write leaves every other key as it was. -/
theorem Tab.look_put_ne [DecidableEq α] (d : Nat → α) (t : Tab α) {k j : Nat} (v : α) (h : j ≠ k) :
    Tab.look d (Tab.put d t k v) j = Tab.look d t j := by
  induction t with
  | nil => by_cases hv : v = d k <;> simp [Tab.put, Tab.look, hv, h]
  | cons e t ih =>
    obtain ⟨a, x⟩ := e
    simp only [Tab.put]
    split
    · split
      · rfl
      · by_cases hj : j < k
        · have h1 : j ≠ a := by omega
          have h2 : j < a := by omega
          simp [Tab.look, h, hj, h1, h2]
        · simp [Tab.look, h, hj]
    · split
      · rename_i h1 h2
        subst h2
        split
        · by_cases hj : j < k
          · rw [Tab.look_above_le d t (Nat.le_of_lt hj)]; simp [Tab.look, h, hj]
          · rw [Tab.look_above d t (by omega : k < j)]; simp [Tab.look, h, hj]
        · by_cases hj : j < k
          · simp [Tab.look, h, hj]
          · simp only [Tab.look, h, hj, if_false]
            exact Tab.look_above d t (by omega : k < j)
      · simp [Tab.look, ih]

/-- A read after a write, whatever the two keys. -/
theorem Tab.look_put [DecidableEq α] (d : Nat → α) (t : Tab α) (k j : Nat) (v : α) :
    Tab.look d (Tab.put d t k v) j = if j = k then v else Tab.look d t j := by
  by_cases h : j = k
  · subst h; simp [Tab.look_put_same]
  · simp [Tab.look_put_ne d t v h, h]

theorem Tab.allAbove_trans {t : Tab α} {j k : Nat} (h : Tab.allAbove k t = true) (hj : j ≤ k) :
    Tab.allAbove j t = true := by
  induction t with
  | nil => rfl
  | cons e t ih =>
    obtain ⟨a, x⟩ := e
    simp only [Tab.allAbove, Bool.and_eq_true, decide_eq_true_eq] at h ⊢
    exact ⟨by omega, ih h.2⟩

theorem Tab.above_allAbove {t : Tab α} {j k : Nat} (h : Tab.allAbove j t = true) :
    Tab.allAbove j (Tab.above t k) = true := by
  induction t with
  | nil => rfl
  | cons e t ih =>
    obtain ⟨a, x⟩ := e
    simp only [Tab.allAbove, Bool.and_eq_true, decide_eq_true_eq] at h
    by_cases ha : k < a
    · simp [Tab.above, ha, Tab.allAbove, h]
    · simp [Tab.above, ha, ih h.2]

theorem Tab.put_allAbove [DecidableEq α] (d : Nat → α) {t : Tab α} {j k : Nat} (v : α)
    (h : Tab.allAbove j t = true) (hk : j < k) : Tab.allAbove j (Tab.put d t k v) = true := by
  induction t with
  | nil => by_cases hv : v = d k <;> simp [Tab.put, Tab.allAbove, hv, hk]
  | cons e t ih =>
    obtain ⟨a, x⟩ := e
    have h' := h
    simp only [Tab.allAbove, Bool.and_eq_true, decide_eq_true_eq] at h'
    simp only [Tab.put]
    split
    · split
      · exact h
      · simp [Tab.allAbove, hk, h']
    · split
      · split
        · exact Tab.above_allAbove h'.2
        · simp [Tab.allAbove, hk, Tab.above_allAbove h'.2]
      · simp [Tab.allAbove, h'.1, ih h'.2]

theorem Tab.above_wf [DecidableEq α] (d : Nat → α) {t : Tab α} (k : Nat) (h : Tab.wf d t = true) :
    Tab.wf d (Tab.above t k) = true := by
  induction t with
  | nil => rfl
  | cons e t ih =>
    obtain ⟨a, x⟩ := e
    by_cases ha : k < a
    · simpa [Tab.above, ha] using h
    · simp only [Tab.wf, Bool.and_eq_true] at h
      simp [Tab.above, ha, ih h.2]

theorem Tab.above_self {t : Tab α} (k : Nat) (h : Tab.allAbove k t = true) : Tab.above t k = t := by
  cases t with
  | nil => rfl
  | cons e t =>
    obtain ⟨a, x⟩ := e
    simp only [Tab.allAbove, Bool.and_eq_true, decide_eq_true_eq] at h
    simp [Tab.above, h.1]

/-- A write keeps the canonical form. -/
theorem Tab.put_wf [DecidableEq α] (d : Nat → α) {t : Tab α} (k : Nat) (v : α) (h : Tab.wf d t = true) :
    Tab.wf d (Tab.put d t k v) = true := by
  induction t with
  | nil => by_cases hv : v = d k <;> simp [Tab.put, Tab.wf, Tab.allAbove, hv]
  | cons e t ih =>
    obtain ⟨a, x⟩ := e
    have h' := h
    simp only [Tab.wf, Bool.and_eq_true, Bool.not_eq_true', decide_eq_false_iff_not] at h'
    obtain ⟨⟨h1, h2⟩, h3⟩ := h'
    simp only [Tab.put]
    split
    · rename_i hk
      split
      · exact h
      · rename_i hv
        simp [Tab.wf, Tab.allAbove, hk, hv, h1, h2, h3, Tab.allAbove_trans h1 (Nat.le_of_lt hk)]
    · split
      · rename_i hk
        subst hk
        rw [Tab.above_self k h1]
        split
        · exact h3
        · rename_i hv
          simp [Tab.wf, h1, h3, hv]
      · rename_i hk1 hk2
        simp [Tab.wf, h2, ih h3, Tab.put_allAbove d v h1 (by omega : a < k)]

theorem Tab.keep_allAbove {t : Tab α} (p : Nat → Bool) {j : Nat} (h : Tab.allAbove j t = true) :
    Tab.allAbove j (Tab.keep p t) = true := by
  induction t with
  | nil => rfl
  | cons e t ih =>
    obtain ⟨a, x⟩ := e
    simp only [Tab.allAbove, Bool.and_eq_true, decide_eq_true_eq] at h
    by_cases hp : p a = true
    · simp [Tab.keep, hp, Tab.allAbove, h.1, ih h.2]
    · simp [Tab.keep, hp, ih h.2]

/-- What a reset keeps of a table is in canonical form. -/
theorem Tab.keep_wf [DecidableEq α] (d : Nat → α) {t : Tab α} (p : Nat → Bool) (h : Tab.wf d t = true) :
    Tab.wf d (Tab.keep p t) = true := by
  induction t with
  | nil => rfl
  | cons e t ih =>
    obtain ⟨a, x⟩ := e
    simp only [Tab.wf, Bool.and_eq_true] at h
    by_cases hp : p a = true
    · simp only [Tab.keep, hp, if_true, Tab.wf, Bool.and_eq_true]
      exact ⟨⟨Tab.keep_allAbove p h.1.1, h.1.2⟩, ih h.2⟩
    · simp [Tab.keep, hp, ih h.2]

end Sys2Proof
end

