-- ==== Sys2Proof/Laws/State.lean ====
section
/-! SUPPORT. What each named update leaves as it was, one lemma per field, and what it writes. -/

namespace Sys2Proof.Machine

@[simp] theorem State.wr_jrn (s : State) (idx sub v : Nat) : (s.wr idx sub v).jrn = s.jrn := rfl
@[simp] theorem State.wr_panels (s : State) (idx sub v : Nat) : (s.wr idx sub v).panels = s.panels := rfl
@[simp] theorem State.wr_arrivals (s : State) (idx sub v : Nat) : (s.wr idx sub v).arrivals = s.arrivals := rfl
@[simp] theorem State.wr_links (s : State) (idx sub v : Nat) : (s.wr idx sub v).links = s.links := rfl
@[simp] theorem State.wr_mem (s : State) (idx sub v : Nat) : (s.wr idx sub v).mem = s.mem := rfl
@[simp] theorem State.wr_qm (s : State) (idx sub v : Nat) : (s.wr idx sub v).qm = s.qm := rfl
@[simp] theorem State.wr_throttle (s : State) (idx sub v : Nat) : (s.wr idx sub v).throttle = s.throttle := rfl
@[simp] theorem State.wr_clkLost (s : State) (idx sub v : Nat) : (s.wr idx sub v).clkLost = s.clkLost := rfl
@[simp] theorem State.wr_memKept (s : State) (idx sub v : Nat) : (s.wr idx sub v).memKept = s.memKept := rfl
@[simp] theorem State.wr_lifecycle (s : State) (idx sub v : Nat) : (s.wr idx sub v).lifecycle = s.lifecycle := rfl
@[simp] theorem State.wr_warmRuns (s : State) (idx sub v : Nat) : (s.wr idx sub v).warmRuns = s.warmRuns := rfl
@[simp] theorem State.wr_ddr (s : State) (idx sub v : Nat) : (s.wr idx sub v).ddr = s.ddr := rfl
@[simp] theorem State.wr_dir (s : State) (idx sub v : Nat) : (s.wr idx sub v).dir = s.dir := rfl
@[simp] theorem State.wr_lanes (s : State) (idx sub v : Nat) : (s.wr idx sub v).lanes = s.lanes := rfl
@[simp] theorem State.wr_testLanes (s : State) (idx sub v : Nat) : (s.wr idx sub v).testLanes = s.testLanes := rfl
@[simp] theorem State.wr_bootFn (s : State) (idx sub v : Nat) : (s.wr idx sub v).bootFn = s.bootFn := rfl
@[simp] theorem State.wr_ld (s : State) (idx sub v : Nat) : (s.wr idx sub v).ld = s.ld := rfl
@[simp] theorem State.wr_st (s : State) (idx sub v : Nat) : (s.wr idx sub v).st = s.st := rfl
@[simp] theorem State.wr_shims (s : State) (idx sub v : Nat) : (s.wr idx sub v).shims = s.shims := rfl
@[simp] theorem State.wr_cfg (s : State) (idx sub v : Nat) : (s.wr idx sub v).cfg = s.cfg := rfl
@[simp] theorem State.wr_hdm (s : State) (idx sub v : Nat) : (s.wr idx sub v).hdm = s.hdm := rfl
@[simp] theorem State.wr_ras (s : State) (idx sub v : Nat) : (s.wr idx sub v).ras = s.ras := rfl
@[simp] theorem State.wr_block (s : State) (idx sub v : Nat) : (s.wr idx sub v).block = s.block := rfl
@[simp] theorem State.wr_errLog (s : State) (idx sub v : Nat) : (s.wr idx sub v).errLog = s.errLog := rfl
@[simp] theorem State.wr_ideKeys (s : State) (idx sub v : Nat) : (s.wr idx sub v).ideKeys = s.ideKeys := rfl
@[simp] theorem State.wr_bsKeys (s : State) (idx sub v : Nat) : (s.wr idx sub v).bsKeys = s.bsKeys := rfl
@[simp] theorem State.wr_th (s : State) (idx sub v : Nat) : (s.wr idx sub v).th = s.th := rfl
@[simp] theorem State.wr_stop (s : State) (idx sub v : Nat) : (s.wr idx sub v).stop = s.stop := rfl
@[simp] theorem State.wr_nv (s : State) (idx sub v : Nat) : (s.wr idx sub v).nv = s.nv := rfl
@[simp] theorem State.wr_wear (s : State) (idx sub v : Nat) : (s.wr idx sub v).wear = s.wear := rfl
@[simp] theorem State.wr_sec (s : State) (idx sub v : Nat) : (s.wr idx sub v).sec = s.sec := rfl
@[simp] theorem State.wr_pwr (s : State) (idx sub v : Nat) : (s.wr idx sub v).pwr = s.pwr := rfl
@[simp] theorem State.wr_pins (s : State) (idx sub v : Nat) : (s.wr idx sub v).pins = s.pins := rfl
@[simp] theorem State.wr_sal (s : State) (idx sub v : Nat) : (s.wr idx sub v).sal = s.sal := rfl
@[simp] theorem State.wr_pub (s : State) (idx sub v : Nat) : (s.wr idx sub v).pub = s.pub := rfl
@[simp] theorem State.wr_freeCount (s : State) (idx sub v : Nat) : (s.wr idx sub v).freeCount = s.freeCount := rfl
@[simp] theorem State.wr_out (s : State) (idx sub v : Nat) : (s.wr idx sub v).out = s.out := rfl
@[simp] theorem State.wr_stalled (s : State) (idx sub v : Nat) : (s.wr idx sub v).stalled = s.stalled := rfl
@[simp] theorem State.wr_pending (s : State) (idx sub v : Nat) : (s.wr idx sub v).pending = s.pending := rfl
@[simp] theorem State.wr_dev_state (s : State) (idx sub v : Nat) : (s.wr idx sub v).dev.state = s.dev.state := rfl
@[simp] theorem State.wr_dev_stopAsserted (s : State) (idx sub v : Nat) : (s.wr idx sub v).dev.stopAsserted = s.dev.stopAsserted := rfl
@[simp] theorem State.wr_dev_aonTime (s : State) (idx sub v : Nat) : (s.wr idx sub v).dev.aonTime = s.dev.aonTime := rfl
@[simp] theorem State.wr_dev_evtLog (s : State) (idx sub v : Nat) : (s.wr idx sub v).dev.evtLog = s.dev.evtLog := rfl
@[simp] theorem State.wr_dev_evtCount (s : State) (idx sub v : Nat) : (s.wr idx sub v).dev.evtCount = s.dev.evtCount := rfl
@[simp] theorem State.wr_dev_evtHolds (s : State) (idx sub v : Nat) : (s.wr idx sub v).dev.evtHolds = s.dev.evtHolds := rfl
@[simp] theorem State.wr_dev_evtLost (s : State) (idx sub v : Nat) : (s.wr idx sub v).dev.evtLost = s.dev.evtLost := rfl
@[simp] theorem State.wr_dev_held (s : State) (idx sub v : Nat) : (s.wr idx sub v).dev.held = s.dev.held := rfl
@[simp] theorem State.wr_dev_resetLow (s : State) (idx sub v : Nat) : (s.wr idx sub v).dev.resetLow = s.dev.resetLow := rfl
@[simp] theorem State.wr_dev_resetDue (s : State) (idx sub v : Nat) : (s.wr idx sub v).dev.resetDue = s.dev.resetDue := rfl

@[simp] theorem State.bump_jrn (s : State) (idx sub n : Nat) : (s.bump idx sub n).jrn = s.jrn := rfl
@[simp] theorem State.bump_panels (s : State) (idx sub n : Nat) : (s.bump idx sub n).panels = s.panels := rfl
@[simp] theorem State.bump_arrivals (s : State) (idx sub n : Nat) : (s.bump idx sub n).arrivals = s.arrivals := rfl
@[simp] theorem State.bump_links (s : State) (idx sub n : Nat) : (s.bump idx sub n).links = s.links := rfl
@[simp] theorem State.bump_mem (s : State) (idx sub n : Nat) : (s.bump idx sub n).mem = s.mem := rfl
@[simp] theorem State.bump_qm (s : State) (idx sub n : Nat) : (s.bump idx sub n).qm = s.qm := rfl
@[simp] theorem State.bump_throttle (s : State) (idx sub n : Nat) : (s.bump idx sub n).throttle = s.throttle := rfl
@[simp] theorem State.bump_clkLost (s : State) (idx sub n : Nat) : (s.bump idx sub n).clkLost = s.clkLost := rfl
@[simp] theorem State.bump_memKept (s : State) (idx sub n : Nat) : (s.bump idx sub n).memKept = s.memKept := rfl
@[simp] theorem State.bump_lifecycle (s : State) (idx sub n : Nat) : (s.bump idx sub n).lifecycle = s.lifecycle := rfl
@[simp] theorem State.bump_warmRuns (s : State) (idx sub n : Nat) : (s.bump idx sub n).warmRuns = s.warmRuns := rfl
@[simp] theorem State.bump_ddr (s : State) (idx sub n : Nat) : (s.bump idx sub n).ddr = s.ddr := rfl
@[simp] theorem State.bump_dir (s : State) (idx sub n : Nat) : (s.bump idx sub n).dir = s.dir := rfl
@[simp] theorem State.bump_lanes (s : State) (idx sub n : Nat) : (s.bump idx sub n).lanes = s.lanes := rfl
@[simp] theorem State.bump_testLanes (s : State) (idx sub n : Nat) : (s.bump idx sub n).testLanes = s.testLanes := rfl
@[simp] theorem State.bump_bootFn (s : State) (idx sub n : Nat) : (s.bump idx sub n).bootFn = s.bootFn := rfl
@[simp] theorem State.bump_ld (s : State) (idx sub n : Nat) : (s.bump idx sub n).ld = s.ld := rfl
@[simp] theorem State.bump_st (s : State) (idx sub n : Nat) : (s.bump idx sub n).st = s.st := rfl
@[simp] theorem State.bump_shims (s : State) (idx sub n : Nat) : (s.bump idx sub n).shims = s.shims := rfl
@[simp] theorem State.bump_cfg (s : State) (idx sub n : Nat) : (s.bump idx sub n).cfg = s.cfg := rfl
@[simp] theorem State.bump_hdm (s : State) (idx sub n : Nat) : (s.bump idx sub n).hdm = s.hdm := rfl
@[simp] theorem State.bump_ras (s : State) (idx sub n : Nat) : (s.bump idx sub n).ras = s.ras := rfl
@[simp] theorem State.bump_block (s : State) (idx sub n : Nat) : (s.bump idx sub n).block = s.block := rfl
@[simp] theorem State.bump_errLog (s : State) (idx sub n : Nat) : (s.bump idx sub n).errLog = s.errLog := rfl
@[simp] theorem State.bump_ideKeys (s : State) (idx sub n : Nat) : (s.bump idx sub n).ideKeys = s.ideKeys := rfl
@[simp] theorem State.bump_bsKeys (s : State) (idx sub n : Nat) : (s.bump idx sub n).bsKeys = s.bsKeys := rfl
@[simp] theorem State.bump_th (s : State) (idx sub n : Nat) : (s.bump idx sub n).th = s.th := rfl
@[simp] theorem State.bump_stop (s : State) (idx sub n : Nat) : (s.bump idx sub n).stop = s.stop := rfl
@[simp] theorem State.bump_nv (s : State) (idx sub n : Nat) : (s.bump idx sub n).nv = s.nv := rfl
@[simp] theorem State.bump_wear (s : State) (idx sub n : Nat) : (s.bump idx sub n).wear = s.wear := rfl
@[simp] theorem State.bump_sec (s : State) (idx sub n : Nat) : (s.bump idx sub n).sec = s.sec := rfl
@[simp] theorem State.bump_pwr (s : State) (idx sub n : Nat) : (s.bump idx sub n).pwr = s.pwr := rfl
@[simp] theorem State.bump_pins (s : State) (idx sub n : Nat) : (s.bump idx sub n).pins = s.pins := rfl
@[simp] theorem State.bump_sal (s : State) (idx sub n : Nat) : (s.bump idx sub n).sal = s.sal := rfl
@[simp] theorem State.bump_pub (s : State) (idx sub n : Nat) : (s.bump idx sub n).pub = s.pub := rfl
@[simp] theorem State.bump_freeCount (s : State) (idx sub n : Nat) : (s.bump idx sub n).freeCount = s.freeCount := rfl
@[simp] theorem State.bump_out (s : State) (idx sub n : Nat) : (s.bump idx sub n).out = s.out := rfl
@[simp] theorem State.bump_stalled (s : State) (idx sub n : Nat) : (s.bump idx sub n).stalled = s.stalled := rfl
@[simp] theorem State.bump_pending (s : State) (idx sub n : Nat) : (s.bump idx sub n).pending = s.pending := rfl
@[simp] theorem State.bump_dev_state (s : State) (idx sub n : Nat) : (s.bump idx sub n).dev.state = s.dev.state := rfl
@[simp] theorem State.bump_dev_stopAsserted (s : State) (idx sub n : Nat) : (s.bump idx sub n).dev.stopAsserted = s.dev.stopAsserted := rfl
@[simp] theorem State.bump_dev_aonTime (s : State) (idx sub n : Nat) : (s.bump idx sub n).dev.aonTime = s.dev.aonTime := rfl
@[simp] theorem State.bump_dev_evtLog (s : State) (idx sub n : Nat) : (s.bump idx sub n).dev.evtLog = s.dev.evtLog := rfl
@[simp] theorem State.bump_dev_evtCount (s : State) (idx sub n : Nat) : (s.bump idx sub n).dev.evtCount = s.dev.evtCount := rfl
@[simp] theorem State.bump_dev_evtHolds (s : State) (idx sub n : Nat) : (s.bump idx sub n).dev.evtHolds = s.dev.evtHolds := rfl
@[simp] theorem State.bump_dev_evtLost (s : State) (idx sub n : Nat) : (s.bump idx sub n).dev.evtLost = s.dev.evtLost := rfl
@[simp] theorem State.bump_dev_held (s : State) (idx sub n : Nat) : (s.bump idx sub n).dev.held = s.dev.held := rfl
@[simp] theorem State.bump_dev_resetLow (s : State) (idx sub n : Nat) : (s.bump idx sub n).dev.resetLow = s.dev.resetLow := rfl
@[simp] theorem State.bump_dev_resetDue (s : State) (idx sub n : Nat) : (s.bump idx sub n).dev.resetDue = s.dev.resetDue := rfl

@[simp] theorem State.count64_jrn (s : State) (idx sub n : Nat) : (s.count64 idx sub n).jrn = s.jrn := rfl
@[simp] theorem State.count64_panels (s : State) (idx sub n : Nat) : (s.count64 idx sub n).panels = s.panels := rfl
@[simp] theorem State.count64_arrivals (s : State) (idx sub n : Nat) : (s.count64 idx sub n).arrivals = s.arrivals := rfl
@[simp] theorem State.count64_links (s : State) (idx sub n : Nat) : (s.count64 idx sub n).links = s.links := rfl
@[simp] theorem State.count64_mem (s : State) (idx sub n : Nat) : (s.count64 idx sub n).mem = s.mem := rfl
@[simp] theorem State.count64_qm (s : State) (idx sub n : Nat) : (s.count64 idx sub n).qm = s.qm := rfl
@[simp] theorem State.count64_throttle (s : State) (idx sub n : Nat) : (s.count64 idx sub n).throttle = s.throttle := rfl
@[simp] theorem State.count64_clkLost (s : State) (idx sub n : Nat) : (s.count64 idx sub n).clkLost = s.clkLost := rfl
@[simp] theorem State.count64_memKept (s : State) (idx sub n : Nat) : (s.count64 idx sub n).memKept = s.memKept := rfl
@[simp] theorem State.count64_lifecycle (s : State) (idx sub n : Nat) : (s.count64 idx sub n).lifecycle = s.lifecycle := rfl
@[simp] theorem State.count64_warmRuns (s : State) (idx sub n : Nat) : (s.count64 idx sub n).warmRuns = s.warmRuns := rfl
@[simp] theorem State.count64_ddr (s : State) (idx sub n : Nat) : (s.count64 idx sub n).ddr = s.ddr := rfl
@[simp] theorem State.count64_dir (s : State) (idx sub n : Nat) : (s.count64 idx sub n).dir = s.dir := rfl
@[simp] theorem State.count64_lanes (s : State) (idx sub n : Nat) : (s.count64 idx sub n).lanes = s.lanes := rfl
@[simp] theorem State.count64_testLanes (s : State) (idx sub n : Nat) : (s.count64 idx sub n).testLanes = s.testLanes := rfl
@[simp] theorem State.count64_bootFn (s : State) (idx sub n : Nat) : (s.count64 idx sub n).bootFn = s.bootFn := rfl
@[simp] theorem State.count64_ld (s : State) (idx sub n : Nat) : (s.count64 idx sub n).ld = s.ld := rfl
@[simp] theorem State.count64_st (s : State) (idx sub n : Nat) : (s.count64 idx sub n).st = s.st := rfl
@[simp] theorem State.count64_shims (s : State) (idx sub n : Nat) : (s.count64 idx sub n).shims = s.shims := rfl
@[simp] theorem State.count64_cfg (s : State) (idx sub n : Nat) : (s.count64 idx sub n).cfg = s.cfg := rfl
@[simp] theorem State.count64_hdm (s : State) (idx sub n : Nat) : (s.count64 idx sub n).hdm = s.hdm := rfl
@[simp] theorem State.count64_ras (s : State) (idx sub n : Nat) : (s.count64 idx sub n).ras = s.ras := rfl
@[simp] theorem State.count64_block (s : State) (idx sub n : Nat) : (s.count64 idx sub n).block = s.block := rfl
@[simp] theorem State.count64_errLog (s : State) (idx sub n : Nat) : (s.count64 idx sub n).errLog = s.errLog := rfl
@[simp] theorem State.count64_ideKeys (s : State) (idx sub n : Nat) : (s.count64 idx sub n).ideKeys = s.ideKeys := rfl
@[simp] theorem State.count64_bsKeys (s : State) (idx sub n : Nat) : (s.count64 idx sub n).bsKeys = s.bsKeys := rfl
@[simp] theorem State.count64_th (s : State) (idx sub n : Nat) : (s.count64 idx sub n).th = s.th := rfl
@[simp] theorem State.count64_stop (s : State) (idx sub n : Nat) : (s.count64 idx sub n).stop = s.stop := rfl
@[simp] theorem State.count64_nv (s : State) (idx sub n : Nat) : (s.count64 idx sub n).nv = s.nv := rfl
@[simp] theorem State.count64_wear (s : State) (idx sub n : Nat) : (s.count64 idx sub n).wear = s.wear := rfl
@[simp] theorem State.count64_sec (s : State) (idx sub n : Nat) : (s.count64 idx sub n).sec = s.sec := rfl
@[simp] theorem State.count64_pwr (s : State) (idx sub n : Nat) : (s.count64 idx sub n).pwr = s.pwr := rfl
@[simp] theorem State.count64_pins (s : State) (idx sub n : Nat) : (s.count64 idx sub n).pins = s.pins := rfl
@[simp] theorem State.count64_sal (s : State) (idx sub n : Nat) : (s.count64 idx sub n).sal = s.sal := rfl
@[simp] theorem State.count64_pub (s : State) (idx sub n : Nat) : (s.count64 idx sub n).pub = s.pub := rfl
@[simp] theorem State.count64_freeCount (s : State) (idx sub n : Nat) : (s.count64 idx sub n).freeCount = s.freeCount := rfl
@[simp] theorem State.count64_out (s : State) (idx sub n : Nat) : (s.count64 idx sub n).out = s.out := rfl
@[simp] theorem State.count64_stalled (s : State) (idx sub n : Nat) : (s.count64 idx sub n).stalled = s.stalled := rfl
@[simp] theorem State.count64_pending (s : State) (idx sub n : Nat) : (s.count64 idx sub n).pending = s.pending := rfl
@[simp] theorem State.count64_dev_state (s : State) (idx sub n : Nat) : (s.count64 idx sub n).dev.state = s.dev.state := rfl
@[simp] theorem State.count64_dev_stopAsserted (s : State) (idx sub n : Nat) : (s.count64 idx sub n).dev.stopAsserted = s.dev.stopAsserted := rfl
@[simp] theorem State.count64_dev_aonTime (s : State) (idx sub n : Nat) : (s.count64 idx sub n).dev.aonTime = s.dev.aonTime := rfl
@[simp] theorem State.count64_dev_evtLog (s : State) (idx sub n : Nat) : (s.count64 idx sub n).dev.evtLog = s.dev.evtLog := rfl
@[simp] theorem State.count64_dev_evtCount (s : State) (idx sub n : Nat) : (s.count64 idx sub n).dev.evtCount = s.dev.evtCount := rfl
@[simp] theorem State.count64_dev_evtHolds (s : State) (idx sub n : Nat) : (s.count64 idx sub n).dev.evtHolds = s.dev.evtHolds := rfl
@[simp] theorem State.count64_dev_evtLost (s : State) (idx sub n : Nat) : (s.count64 idx sub n).dev.evtLost = s.dev.evtLost := rfl
@[simp] theorem State.count64_dev_held (s : State) (idx sub n : Nat) : (s.count64 idx sub n).dev.held = s.dev.held := rfl
@[simp] theorem State.count64_dev_resetLow (s : State) (idx sub n : Nat) : (s.count64 idx sub n).dev.resetLow = s.dev.resetLow := rfl
@[simp] theorem State.count64_dev_resetDue (s : State) (idx sub n : Nat) : (s.count64 idx sub n).dev.resetDue = s.dev.resetDue := rfl

@[simp] theorem State.emit_dev (s : State) (o : Sys2Proof.Machine.Out) : (s.emit o).dev = s.dev := rfl
@[simp] theorem State.emit_jrn (s : State) (o : Sys2Proof.Machine.Out) : (s.emit o).jrn = s.jrn := rfl
@[simp] theorem State.emit_panels (s : State) (o : Sys2Proof.Machine.Out) : (s.emit o).panels = s.panels := rfl
@[simp] theorem State.emit_arrivals (s : State) (o : Sys2Proof.Machine.Out) : (s.emit o).arrivals = s.arrivals := rfl
@[simp] theorem State.emit_links (s : State) (o : Sys2Proof.Machine.Out) : (s.emit o).links = s.links := rfl
@[simp] theorem State.emit_mem (s : State) (o : Sys2Proof.Machine.Out) : (s.emit o).mem = s.mem := rfl
@[simp] theorem State.emit_qm (s : State) (o : Sys2Proof.Machine.Out) : (s.emit o).qm = s.qm := rfl
@[simp] theorem State.emit_throttle (s : State) (o : Sys2Proof.Machine.Out) : (s.emit o).throttle = s.throttle := rfl
@[simp] theorem State.emit_clkLost (s : State) (o : Sys2Proof.Machine.Out) : (s.emit o).clkLost = s.clkLost := rfl
@[simp] theorem State.emit_memKept (s : State) (o : Sys2Proof.Machine.Out) : (s.emit o).memKept = s.memKept := rfl
@[simp] theorem State.emit_lifecycle (s : State) (o : Sys2Proof.Machine.Out) : (s.emit o).lifecycle = s.lifecycle := rfl
@[simp] theorem State.emit_warmRuns (s : State) (o : Sys2Proof.Machine.Out) : (s.emit o).warmRuns = s.warmRuns := rfl
@[simp] theorem State.emit_ddr (s : State) (o : Sys2Proof.Machine.Out) : (s.emit o).ddr = s.ddr := rfl
@[simp] theorem State.emit_dir (s : State) (o : Sys2Proof.Machine.Out) : (s.emit o).dir = s.dir := rfl
@[simp] theorem State.emit_lanes (s : State) (o : Sys2Proof.Machine.Out) : (s.emit o).lanes = s.lanes := rfl
@[simp] theorem State.emit_testLanes (s : State) (o : Sys2Proof.Machine.Out) : (s.emit o).testLanes = s.testLanes := rfl
@[simp] theorem State.emit_bootFn (s : State) (o : Sys2Proof.Machine.Out) : (s.emit o).bootFn = s.bootFn := rfl
@[simp] theorem State.emit_ld (s : State) (o : Sys2Proof.Machine.Out) : (s.emit o).ld = s.ld := rfl
@[simp] theorem State.emit_st (s : State) (o : Sys2Proof.Machine.Out) : (s.emit o).st = s.st := rfl
@[simp] theorem State.emit_shims (s : State) (o : Sys2Proof.Machine.Out) : (s.emit o).shims = s.shims := rfl
@[simp] theorem State.emit_cfg (s : State) (o : Sys2Proof.Machine.Out) : (s.emit o).cfg = s.cfg := rfl
@[simp] theorem State.emit_hdm (s : State) (o : Sys2Proof.Machine.Out) : (s.emit o).hdm = s.hdm := rfl
@[simp] theorem State.emit_ras (s : State) (o : Sys2Proof.Machine.Out) : (s.emit o).ras = s.ras := rfl
@[simp] theorem State.emit_block (s : State) (o : Sys2Proof.Machine.Out) : (s.emit o).block = s.block := rfl
@[simp] theorem State.emit_errLog (s : State) (o : Sys2Proof.Machine.Out) : (s.emit o).errLog = s.errLog := rfl
@[simp] theorem State.emit_ideKeys (s : State) (o : Sys2Proof.Machine.Out) : (s.emit o).ideKeys = s.ideKeys := rfl
@[simp] theorem State.emit_bsKeys (s : State) (o : Sys2Proof.Machine.Out) : (s.emit o).bsKeys = s.bsKeys := rfl
@[simp] theorem State.emit_th (s : State) (o : Sys2Proof.Machine.Out) : (s.emit o).th = s.th := rfl
@[simp] theorem State.emit_stop (s : State) (o : Sys2Proof.Machine.Out) : (s.emit o).stop = s.stop := rfl
@[simp] theorem State.emit_nv (s : State) (o : Sys2Proof.Machine.Out) : (s.emit o).nv = s.nv := rfl
@[simp] theorem State.emit_wear (s : State) (o : Sys2Proof.Machine.Out) : (s.emit o).wear = s.wear := rfl
@[simp] theorem State.emit_sec (s : State) (o : Sys2Proof.Machine.Out) : (s.emit o).sec = s.sec := rfl
@[simp] theorem State.emit_pwr (s : State) (o : Sys2Proof.Machine.Out) : (s.emit o).pwr = s.pwr := rfl
@[simp] theorem State.emit_pins (s : State) (o : Sys2Proof.Machine.Out) : (s.emit o).pins = s.pins := rfl
@[simp] theorem State.emit_sal (s : State) (o : Sys2Proof.Machine.Out) : (s.emit o).sal = s.sal := rfl
@[simp] theorem State.emit_pub (s : State) (o : Sys2Proof.Machine.Out) : (s.emit o).pub = s.pub := rfl
@[simp] theorem State.emit_reg (s : State) (o : Sys2Proof.Machine.Out) : (s.emit o).reg = s.reg := rfl
@[simp] theorem State.emit_freeCount (s : State) (o : Sys2Proof.Machine.Out) : (s.emit o).freeCount = s.freeCount := rfl
@[simp] theorem State.emit_stalled (s : State) (o : Sys2Proof.Machine.Out) : (s.emit o).stalled = s.stalled := rfl
@[simp] theorem State.emit_pending (s : State) (o : Sys2Proof.Machine.Out) : (s.emit o).pending = s.pending := rfl
@[simp] theorem State.emit_rd (s : State) (o : Sys2Proof.Machine.Out) (idx sub : Nat) : (s.emit o).rd idx sub = s.rd idx sub := rfl

@[simp] theorem State.drawn_dev (s : State) : (s.drawn).dev = s.dev := rfl
@[simp] theorem State.drawn_jrn (s : State) : (s.drawn).jrn = s.jrn := rfl
@[simp] theorem State.drawn_panels (s : State) : (s.drawn).panels = s.panels := rfl
@[simp] theorem State.drawn_arrivals (s : State) : (s.drawn).arrivals = s.arrivals := rfl
@[simp] theorem State.drawn_links (s : State) : (s.drawn).links = s.links := rfl
@[simp] theorem State.drawn_mem (s : State) : (s.drawn).mem = s.mem := rfl
@[simp] theorem State.drawn_qm (s : State) : (s.drawn).qm = s.qm := rfl
@[simp] theorem State.drawn_throttle (s : State) : (s.drawn).throttle = s.throttle := rfl
@[simp] theorem State.drawn_clkLost (s : State) : (s.drawn).clkLost = s.clkLost := rfl
@[simp] theorem State.drawn_memKept (s : State) : (s.drawn).memKept = s.memKept := rfl
@[simp] theorem State.drawn_lifecycle (s : State) : (s.drawn).lifecycle = s.lifecycle := rfl
@[simp] theorem State.drawn_warmRuns (s : State) : (s.drawn).warmRuns = s.warmRuns := rfl
@[simp] theorem State.drawn_ddr (s : State) : (s.drawn).ddr = s.ddr := rfl
@[simp] theorem State.drawn_dir (s : State) : (s.drawn).dir = s.dir := rfl
@[simp] theorem State.drawn_lanes (s : State) : (s.drawn).lanes = s.lanes := rfl
@[simp] theorem State.drawn_testLanes (s : State) : (s.drawn).testLanes = s.testLanes := rfl
@[simp] theorem State.drawn_bootFn (s : State) : (s.drawn).bootFn = s.bootFn := rfl
@[simp] theorem State.drawn_ld (s : State) : (s.drawn).ld = s.ld := rfl
@[simp] theorem State.drawn_st (s : State) : (s.drawn).st = s.st := rfl
@[simp] theorem State.drawn_shims (s : State) : (s.drawn).shims = s.shims := rfl
@[simp] theorem State.drawn_cfg (s : State) : (s.drawn).cfg = s.cfg := rfl
@[simp] theorem State.drawn_hdm (s : State) : (s.drawn).hdm = s.hdm := rfl
@[simp] theorem State.drawn_ras (s : State) : (s.drawn).ras = s.ras := rfl
@[simp] theorem State.drawn_block (s : State) : (s.drawn).block = s.block := rfl
@[simp] theorem State.drawn_errLog (s : State) : (s.drawn).errLog = s.errLog := rfl
@[simp] theorem State.drawn_ideKeys (s : State) : (s.drawn).ideKeys = s.ideKeys := rfl
@[simp] theorem State.drawn_bsKeys (s : State) : (s.drawn).bsKeys = s.bsKeys := rfl
@[simp] theorem State.drawn_th (s : State) : (s.drawn).th = s.th := rfl
@[simp] theorem State.drawn_stop (s : State) : (s.drawn).stop = s.stop := rfl
@[simp] theorem State.drawn_nv (s : State) : (s.drawn).nv = s.nv := rfl
@[simp] theorem State.drawn_wear (s : State) : (s.drawn).wear = s.wear := rfl
@[simp] theorem State.drawn_sec (s : State) : (s.drawn).sec = s.sec := rfl
@[simp] theorem State.drawn_pwr (s : State) : (s.drawn).pwr = s.pwr := rfl
@[simp] theorem State.drawn_pins (s : State) : (s.drawn).pins = s.pins := rfl
@[simp] theorem State.drawn_sal (s : State) : (s.drawn).sal = s.sal := rfl
@[simp] theorem State.drawn_pub (s : State) : (s.drawn).pub = s.pub := rfl
@[simp] theorem State.drawn_reg (s : State) : (s.drawn).reg = s.reg := rfl
@[simp] theorem State.drawn_out (s : State) : (s.drawn).out = s.out := rfl
@[simp] theorem State.drawn_stalled (s : State) : (s.drawn).stalled = s.stalled := rfl
@[simp] theorem State.drawn_pending (s : State) : (s.drawn).pending = s.pending := rfl
@[simp] theorem State.drawn_rd (s : State) (idx sub : Nat) : (s.drawn).rd idx sub = s.rd idx sub := rfl

@[simp] theorem State.eventAt_jrn (s : State) (source subsys event inst : Nat) : (s.eventAt source subsys event inst).jrn = s.jrn := rfl
@[simp] theorem State.eventAt_panels (s : State) (source subsys event inst : Nat) : (s.eventAt source subsys event inst).panels = s.panels := rfl
@[simp] theorem State.eventAt_arrivals (s : State) (source subsys event inst : Nat) : (s.eventAt source subsys event inst).arrivals = s.arrivals := rfl
@[simp] theorem State.eventAt_links (s : State) (source subsys event inst : Nat) : (s.eventAt source subsys event inst).links = s.links := rfl
@[simp] theorem State.eventAt_mem (s : State) (source subsys event inst : Nat) : (s.eventAt source subsys event inst).mem = s.mem := rfl
@[simp] theorem State.eventAt_qm (s : State) (source subsys event inst : Nat) : (s.eventAt source subsys event inst).qm = s.qm := rfl
@[simp] theorem State.eventAt_throttle (s : State) (source subsys event inst : Nat) : (s.eventAt source subsys event inst).throttle = s.throttle := rfl
@[simp] theorem State.eventAt_clkLost (s : State) (source subsys event inst : Nat) : (s.eventAt source subsys event inst).clkLost = s.clkLost := rfl
@[simp] theorem State.eventAt_memKept (s : State) (source subsys event inst : Nat) : (s.eventAt source subsys event inst).memKept = s.memKept := rfl
@[simp] theorem State.eventAt_lifecycle (s : State) (source subsys event inst : Nat) : (s.eventAt source subsys event inst).lifecycle = s.lifecycle := rfl
@[simp] theorem State.eventAt_warmRuns (s : State) (source subsys event inst : Nat) : (s.eventAt source subsys event inst).warmRuns = s.warmRuns := rfl
@[simp] theorem State.eventAt_ddr (s : State) (source subsys event inst : Nat) : (s.eventAt source subsys event inst).ddr = s.ddr := rfl
@[simp] theorem State.eventAt_dir (s : State) (source subsys event inst : Nat) : (s.eventAt source subsys event inst).dir = s.dir := rfl
@[simp] theorem State.eventAt_lanes (s : State) (source subsys event inst : Nat) : (s.eventAt source subsys event inst).lanes = s.lanes := rfl
@[simp] theorem State.eventAt_testLanes (s : State) (source subsys event inst : Nat) : (s.eventAt source subsys event inst).testLanes = s.testLanes := rfl
@[simp] theorem State.eventAt_bootFn (s : State) (source subsys event inst : Nat) : (s.eventAt source subsys event inst).bootFn = s.bootFn := rfl
@[simp] theorem State.eventAt_ld (s : State) (source subsys event inst : Nat) : (s.eventAt source subsys event inst).ld = s.ld := rfl
@[simp] theorem State.eventAt_st (s : State) (source subsys event inst : Nat) : (s.eventAt source subsys event inst).st = s.st := rfl
@[simp] theorem State.eventAt_shims (s : State) (source subsys event inst : Nat) : (s.eventAt source subsys event inst).shims = s.shims := rfl
@[simp] theorem State.eventAt_cfg (s : State) (source subsys event inst : Nat) : (s.eventAt source subsys event inst).cfg = s.cfg := rfl
@[simp] theorem State.eventAt_hdm (s : State) (source subsys event inst : Nat) : (s.eventAt source subsys event inst).hdm = s.hdm := rfl
@[simp] theorem State.eventAt_ras (s : State) (source subsys event inst : Nat) : (s.eventAt source subsys event inst).ras = s.ras := rfl
@[simp] theorem State.eventAt_block (s : State) (source subsys event inst : Nat) : (s.eventAt source subsys event inst).block = s.block := rfl
@[simp] theorem State.eventAt_errLog (s : State) (source subsys event inst : Nat) : (s.eventAt source subsys event inst).errLog = s.errLog := rfl
@[simp] theorem State.eventAt_ideKeys (s : State) (source subsys event inst : Nat) : (s.eventAt source subsys event inst).ideKeys = s.ideKeys := rfl
@[simp] theorem State.eventAt_bsKeys (s : State) (source subsys event inst : Nat) : (s.eventAt source subsys event inst).bsKeys = s.bsKeys := rfl
@[simp] theorem State.eventAt_th (s : State) (source subsys event inst : Nat) : (s.eventAt source subsys event inst).th = s.th := rfl
@[simp] theorem State.eventAt_stop (s : State) (source subsys event inst : Nat) : (s.eventAt source subsys event inst).stop = s.stop := rfl
@[simp] theorem State.eventAt_nv (s : State) (source subsys event inst : Nat) : (s.eventAt source subsys event inst).nv = s.nv := rfl
@[simp] theorem State.eventAt_wear (s : State) (source subsys event inst : Nat) : (s.eventAt source subsys event inst).wear = s.wear := rfl
@[simp] theorem State.eventAt_sec (s : State) (source subsys event inst : Nat) : (s.eventAt source subsys event inst).sec = s.sec := rfl
@[simp] theorem State.eventAt_pwr (s : State) (source subsys event inst : Nat) : (s.eventAt source subsys event inst).pwr = s.pwr := rfl
@[simp] theorem State.eventAt_pins (s : State) (source subsys event inst : Nat) : (s.eventAt source subsys event inst).pins = s.pins := rfl
@[simp] theorem State.eventAt_sal (s : State) (source subsys event inst : Nat) : (s.eventAt source subsys event inst).sal = s.sal := rfl
@[simp] theorem State.eventAt_pub (s : State) (source subsys event inst : Nat) : (s.eventAt source subsys event inst).pub = s.pub := rfl
@[simp] theorem State.eventAt_reg (s : State) (source subsys event inst : Nat) : (s.eventAt source subsys event inst).reg = s.reg := rfl
@[simp] theorem State.eventAt_freeCount (s : State) (source subsys event inst : Nat) : (s.eventAt source subsys event inst).freeCount = s.freeCount := rfl
@[simp] theorem State.eventAt_out (s : State) (source subsys event inst : Nat) : (s.eventAt source subsys event inst).out = s.out := rfl
@[simp] theorem State.eventAt_stalled (s : State) (source subsys event inst : Nat) : (s.eventAt source subsys event inst).stalled = s.stalled := rfl
@[simp] theorem State.eventAt_pending (s : State) (source subsys event inst : Nat) : (s.eventAt source subsys event inst).pending = s.pending := rfl
@[simp] theorem State.eventAt_dev_state (s : State) (source subsys event inst : Nat) : (s.eventAt source subsys event inst).dev.state = s.dev.state := rfl
@[simp] theorem State.eventAt_dev_stopAsserted (s : State) (source subsys event inst : Nat) : (s.eventAt source subsys event inst).dev.stopAsserted = s.dev.stopAsserted := rfl
@[simp] theorem State.eventAt_dev_aonTime (s : State) (source subsys event inst : Nat) : (s.eventAt source subsys event inst).dev.aonTime = s.dev.aonTime := rfl
@[simp] theorem State.eventAt_dev_publishDue (s : State) (source subsys event inst : Nat) : (s.eventAt source subsys event inst).dev.publishDue = s.dev.publishDue := rfl
@[simp] theorem State.eventAt_dev_evtLog (s : State) (source subsys event inst : Nat) : (s.eventAt source subsys event inst).dev.evtLog = s.dev.evtLog := rfl
@[simp] theorem State.eventAt_dev_evtCount (s : State) (source subsys event inst : Nat) : (s.eventAt source subsys event inst).dev.evtCount = s.dev.evtCount := rfl
@[simp] theorem State.eventAt_dev_held (s : State) (source subsys event inst : Nat) : (s.eventAt source subsys event inst).dev.held = s.dev.held := rfl
@[simp] theorem State.eventAt_dev_resetLow (s : State) (source subsys event inst : Nat) : (s.eventAt source subsys event inst).dev.resetLow = s.dev.resetLow := rfl
@[simp] theorem State.eventAt_dev_resetDue (s : State) (source subsys event inst : Nat) : (s.eventAt source subsys event inst).dev.resetDue = s.dev.resetDue := rfl
@[simp] theorem State.eventAt_rd (s : State) (source subsys event inst idx sub : Nat) : (s.eventAt source subsys event inst).rd idx sub = s.rd idx sub := rfl

@[simp] theorem State.event_jrn (s : State) (subsys event inst : Nat) : (s.event subsys event inst).jrn = s.jrn := rfl
@[simp] theorem State.event_panels (s : State) (subsys event inst : Nat) : (s.event subsys event inst).panels = s.panels := rfl
@[simp] theorem State.event_arrivals (s : State) (subsys event inst : Nat) : (s.event subsys event inst).arrivals = s.arrivals := rfl
@[simp] theorem State.event_links (s : State) (subsys event inst : Nat) : (s.event subsys event inst).links = s.links := rfl
@[simp] theorem State.event_mem (s : State) (subsys event inst : Nat) : (s.event subsys event inst).mem = s.mem := rfl
@[simp] theorem State.event_qm (s : State) (subsys event inst : Nat) : (s.event subsys event inst).qm = s.qm := rfl
@[simp] theorem State.event_throttle (s : State) (subsys event inst : Nat) : (s.event subsys event inst).throttle = s.throttle := rfl
@[simp] theorem State.event_clkLost (s : State) (subsys event inst : Nat) : (s.event subsys event inst).clkLost = s.clkLost := rfl
@[simp] theorem State.event_memKept (s : State) (subsys event inst : Nat) : (s.event subsys event inst).memKept = s.memKept := rfl
@[simp] theorem State.event_lifecycle (s : State) (subsys event inst : Nat) : (s.event subsys event inst).lifecycle = s.lifecycle := rfl
@[simp] theorem State.event_warmRuns (s : State) (subsys event inst : Nat) : (s.event subsys event inst).warmRuns = s.warmRuns := rfl
@[simp] theorem State.event_ddr (s : State) (subsys event inst : Nat) : (s.event subsys event inst).ddr = s.ddr := rfl
@[simp] theorem State.event_dir (s : State) (subsys event inst : Nat) : (s.event subsys event inst).dir = s.dir := rfl
@[simp] theorem State.event_lanes (s : State) (subsys event inst : Nat) : (s.event subsys event inst).lanes = s.lanes := rfl
@[simp] theorem State.event_testLanes (s : State) (subsys event inst : Nat) : (s.event subsys event inst).testLanes = s.testLanes := rfl
@[simp] theorem State.event_bootFn (s : State) (subsys event inst : Nat) : (s.event subsys event inst).bootFn = s.bootFn := rfl
@[simp] theorem State.event_ld (s : State) (subsys event inst : Nat) : (s.event subsys event inst).ld = s.ld := rfl
@[simp] theorem State.event_st (s : State) (subsys event inst : Nat) : (s.event subsys event inst).st = s.st := rfl
@[simp] theorem State.event_shims (s : State) (subsys event inst : Nat) : (s.event subsys event inst).shims = s.shims := rfl
@[simp] theorem State.event_cfg (s : State) (subsys event inst : Nat) : (s.event subsys event inst).cfg = s.cfg := rfl
@[simp] theorem State.event_hdm (s : State) (subsys event inst : Nat) : (s.event subsys event inst).hdm = s.hdm := rfl
@[simp] theorem State.event_ras (s : State) (subsys event inst : Nat) : (s.event subsys event inst).ras = s.ras := rfl
@[simp] theorem State.event_block (s : State) (subsys event inst : Nat) : (s.event subsys event inst).block = s.block := rfl
@[simp] theorem State.event_errLog (s : State) (subsys event inst : Nat) : (s.event subsys event inst).errLog = s.errLog := rfl
@[simp] theorem State.event_ideKeys (s : State) (subsys event inst : Nat) : (s.event subsys event inst).ideKeys = s.ideKeys := rfl
@[simp] theorem State.event_bsKeys (s : State) (subsys event inst : Nat) : (s.event subsys event inst).bsKeys = s.bsKeys := rfl
@[simp] theorem State.event_th (s : State) (subsys event inst : Nat) : (s.event subsys event inst).th = s.th := rfl
@[simp] theorem State.event_stop (s : State) (subsys event inst : Nat) : (s.event subsys event inst).stop = s.stop := rfl
@[simp] theorem State.event_nv (s : State) (subsys event inst : Nat) : (s.event subsys event inst).nv = s.nv := rfl
@[simp] theorem State.event_wear (s : State) (subsys event inst : Nat) : (s.event subsys event inst).wear = s.wear := rfl
@[simp] theorem State.event_sec (s : State) (subsys event inst : Nat) : (s.event subsys event inst).sec = s.sec := rfl
@[simp] theorem State.event_pwr (s : State) (subsys event inst : Nat) : (s.event subsys event inst).pwr = s.pwr := rfl
@[simp] theorem State.event_pins (s : State) (subsys event inst : Nat) : (s.event subsys event inst).pins = s.pins := rfl
@[simp] theorem State.event_sal (s : State) (subsys event inst : Nat) : (s.event subsys event inst).sal = s.sal := rfl
@[simp] theorem State.event_pub (s : State) (subsys event inst : Nat) : (s.event subsys event inst).pub = s.pub := rfl
@[simp] theorem State.event_reg (s : State) (subsys event inst : Nat) : (s.event subsys event inst).reg = s.reg := rfl
@[simp] theorem State.event_freeCount (s : State) (subsys event inst : Nat) : (s.event subsys event inst).freeCount = s.freeCount := rfl
@[simp] theorem State.event_out (s : State) (subsys event inst : Nat) : (s.event subsys event inst).out = s.out := rfl
@[simp] theorem State.event_stalled (s : State) (subsys event inst : Nat) : (s.event subsys event inst).stalled = s.stalled := rfl
@[simp] theorem State.event_pending (s : State) (subsys event inst : Nat) : (s.event subsys event inst).pending = s.pending := rfl
@[simp] theorem State.event_dev_state (s : State) (subsys event inst : Nat) : (s.event subsys event inst).dev.state = s.dev.state := rfl
@[simp] theorem State.event_dev_stopAsserted (s : State) (subsys event inst : Nat) : (s.event subsys event inst).dev.stopAsserted = s.dev.stopAsserted := rfl
@[simp] theorem State.event_dev_aonTime (s : State) (subsys event inst : Nat) : (s.event subsys event inst).dev.aonTime = s.dev.aonTime := rfl
@[simp] theorem State.event_dev_publishDue (s : State) (subsys event inst : Nat) : (s.event subsys event inst).dev.publishDue = s.dev.publishDue := rfl
@[simp] theorem State.event_dev_evtLog (s : State) (subsys event inst : Nat) : (s.event subsys event inst).dev.evtLog = s.dev.evtLog := rfl
@[simp] theorem State.event_dev_evtCount (s : State) (subsys event inst : Nat) : (s.event subsys event inst).dev.evtCount = s.dev.evtCount := rfl
@[simp] theorem State.event_dev_held (s : State) (subsys event inst : Nat) : (s.event subsys event inst).dev.held = s.dev.held := rfl
@[simp] theorem State.event_dev_resetLow (s : State) (subsys event inst : Nat) : (s.event subsys event inst).dev.resetLow = s.dev.resetLow := rfl
@[simp] theorem State.event_dev_resetDue (s : State) (subsys event inst : Nat) : (s.event subsys event inst).dev.resetDue = s.dev.resetDue := rfl
@[simp] theorem State.event_rd (s : State) (subsys event inst idx sub : Nat) : (s.event subsys event inst).rd idx sub = s.rd idx sub := rfl

@[simp] theorem State.setJhold_dev (s : State) (code : Nat) (h : Sys2Proof.Machine.JHold) : (s.setJhold code h).dev = s.dev := rfl
@[simp] theorem State.setJhold_panels (s : State) (code : Nat) (h : Sys2Proof.Machine.JHold) : (s.setJhold code h).panels = s.panels := rfl
@[simp] theorem State.setJhold_arrivals (s : State) (code : Nat) (h : Sys2Proof.Machine.JHold) : (s.setJhold code h).arrivals = s.arrivals := rfl
@[simp] theorem State.setJhold_links (s : State) (code : Nat) (h : Sys2Proof.Machine.JHold) : (s.setJhold code h).links = s.links := rfl
@[simp] theorem State.setJhold_mem (s : State) (code : Nat) (h : Sys2Proof.Machine.JHold) : (s.setJhold code h).mem = s.mem := rfl
@[simp] theorem State.setJhold_qm (s : State) (code : Nat) (h : Sys2Proof.Machine.JHold) : (s.setJhold code h).qm = s.qm := rfl
@[simp] theorem State.setJhold_throttle (s : State) (code : Nat) (h : Sys2Proof.Machine.JHold) : (s.setJhold code h).throttle = s.throttle := rfl
@[simp] theorem State.setJhold_clkLost (s : State) (code : Nat) (h : Sys2Proof.Machine.JHold) : (s.setJhold code h).clkLost = s.clkLost := rfl
@[simp] theorem State.setJhold_memKept (s : State) (code : Nat) (h : Sys2Proof.Machine.JHold) : (s.setJhold code h).memKept = s.memKept := rfl
@[simp] theorem State.setJhold_lifecycle (s : State) (code : Nat) (h : Sys2Proof.Machine.JHold) : (s.setJhold code h).lifecycle = s.lifecycle := rfl
@[simp] theorem State.setJhold_warmRuns (s : State) (code : Nat) (h : Sys2Proof.Machine.JHold) : (s.setJhold code h).warmRuns = s.warmRuns := rfl
@[simp] theorem State.setJhold_ddr (s : State) (code : Nat) (h : Sys2Proof.Machine.JHold) : (s.setJhold code h).ddr = s.ddr := rfl
@[simp] theorem State.setJhold_dir (s : State) (code : Nat) (h : Sys2Proof.Machine.JHold) : (s.setJhold code h).dir = s.dir := rfl
@[simp] theorem State.setJhold_lanes (s : State) (code : Nat) (h : Sys2Proof.Machine.JHold) : (s.setJhold code h).lanes = s.lanes := rfl
@[simp] theorem State.setJhold_testLanes (s : State) (code : Nat) (h : Sys2Proof.Machine.JHold) : (s.setJhold code h).testLanes = s.testLanes := rfl
@[simp] theorem State.setJhold_bootFn (s : State) (code : Nat) (h : Sys2Proof.Machine.JHold) : (s.setJhold code h).bootFn = s.bootFn := rfl
@[simp] theorem State.setJhold_ld (s : State) (code : Nat) (h : Sys2Proof.Machine.JHold) : (s.setJhold code h).ld = s.ld := rfl
@[simp] theorem State.setJhold_st (s : State) (code : Nat) (h : Sys2Proof.Machine.JHold) : (s.setJhold code h).st = s.st := rfl
@[simp] theorem State.setJhold_shims (s : State) (code : Nat) (h : Sys2Proof.Machine.JHold) : (s.setJhold code h).shims = s.shims := rfl
@[simp] theorem State.setJhold_cfg (s : State) (code : Nat) (h : Sys2Proof.Machine.JHold) : (s.setJhold code h).cfg = s.cfg := rfl
@[simp] theorem State.setJhold_hdm (s : State) (code : Nat) (h : Sys2Proof.Machine.JHold) : (s.setJhold code h).hdm = s.hdm := rfl
@[simp] theorem State.setJhold_ras (s : State) (code : Nat) (h : Sys2Proof.Machine.JHold) : (s.setJhold code h).ras = s.ras := rfl
@[simp] theorem State.setJhold_block (s : State) (code : Nat) (h : Sys2Proof.Machine.JHold) : (s.setJhold code h).block = s.block := rfl
@[simp] theorem State.setJhold_errLog (s : State) (code : Nat) (h : Sys2Proof.Machine.JHold) : (s.setJhold code h).errLog = s.errLog := rfl
@[simp] theorem State.setJhold_ideKeys (s : State) (code : Nat) (h : Sys2Proof.Machine.JHold) : (s.setJhold code h).ideKeys = s.ideKeys := rfl
@[simp] theorem State.setJhold_bsKeys (s : State) (code : Nat) (h : Sys2Proof.Machine.JHold) : (s.setJhold code h).bsKeys = s.bsKeys := rfl
@[simp] theorem State.setJhold_th (s : State) (code : Nat) (h : Sys2Proof.Machine.JHold) : (s.setJhold code h).th = s.th := rfl
@[simp] theorem State.setJhold_stop (s : State) (code : Nat) (h : Sys2Proof.Machine.JHold) : (s.setJhold code h).stop = s.stop := rfl
@[simp] theorem State.setJhold_nv (s : State) (code : Nat) (h : Sys2Proof.Machine.JHold) : (s.setJhold code h).nv = s.nv := rfl
@[simp] theorem State.setJhold_wear (s : State) (code : Nat) (h : Sys2Proof.Machine.JHold) : (s.setJhold code h).wear = s.wear := rfl
@[simp] theorem State.setJhold_sec (s : State) (code : Nat) (h : Sys2Proof.Machine.JHold) : (s.setJhold code h).sec = s.sec := rfl
@[simp] theorem State.setJhold_pwr (s : State) (code : Nat) (h : Sys2Proof.Machine.JHold) : (s.setJhold code h).pwr = s.pwr := rfl
@[simp] theorem State.setJhold_pins (s : State) (code : Nat) (h : Sys2Proof.Machine.JHold) : (s.setJhold code h).pins = s.pins := rfl
@[simp] theorem State.setJhold_sal (s : State) (code : Nat) (h : Sys2Proof.Machine.JHold) : (s.setJhold code h).sal = s.sal := rfl
@[simp] theorem State.setJhold_pub (s : State) (code : Nat) (h : Sys2Proof.Machine.JHold) : (s.setJhold code h).pub = s.pub := rfl
@[simp] theorem State.setJhold_reg (s : State) (code : Nat) (h : Sys2Proof.Machine.JHold) : (s.setJhold code h).reg = s.reg := rfl
@[simp] theorem State.setJhold_freeCount (s : State) (code : Nat) (h : Sys2Proof.Machine.JHold) : (s.setJhold code h).freeCount = s.freeCount := rfl
@[simp] theorem State.setJhold_out (s : State) (code : Nat) (h : Sys2Proof.Machine.JHold) : (s.setJhold code h).out = s.out := rfl
@[simp] theorem State.setJhold_stalled (s : State) (code : Nat) (h : Sys2Proof.Machine.JHold) : (s.setJhold code h).stalled = s.stalled := rfl
@[simp] theorem State.setJhold_pending (s : State) (code : Nat) (h : Sys2Proof.Machine.JHold) : (s.setJhold code h).pending = s.pending := rfl
@[simp] theorem State.setJhold_jrn_ring (s : State) (code : Nat) (h : Sys2Proof.Machine.JHold) : (s.setJhold code h).jrn.ring = s.jrn.ring := rfl
@[simp] theorem State.setJhold_jrn_count (s : State) (code : Nat) (h : Sys2Proof.Machine.JHold) : (s.setJhold code h).jrn.count = s.jrn.count := rfl
@[simp] theorem State.setJhold_jrn_seq (s : State) (code : Nat) (h : Sys2Proof.Machine.JHold) : (s.setJhold code h).jrn.seq = s.jrn.seq := rfl
@[simp] theorem State.setJhold_jrn_reserve (s : State) (code : Nat) (h : Sys2Proof.Machine.JHold) : (s.setJhold code h).jrn.reserve = s.jrn.reserve := rfl
@[simp] theorem State.setJhold_jrn_lost (s : State) (code : Nat) (h : Sys2Proof.Machine.JHold) : (s.setJhold code h).jrn.lost = s.jrn.lost := rfl
@[simp] theorem State.setJhold_jrn_waiting (s : State) (code : Nat) (h : Sys2Proof.Machine.JHold) : (s.setJhold code h).jrn.waiting = s.jrn.waiting := rfl
@[simp] theorem State.setJhold_jrn_bootLost (s : State) (code : Nat) (h : Sys2Proof.Machine.JHold) : (s.setJhold code h).jrn.bootLost = s.jrn.bootLost := rfl
@[simp] theorem State.setJhold_jrn_copied (s : State) (code : Nat) (h : Sys2Proof.Machine.JHold) : (s.setJhold code h).jrn.copied = s.jrn.copied := rfl
@[simp] theorem State.setJhold_jrn_copyHeld (s : State) (code : Nat) (h : Sys2Proof.Machine.JHold) : (s.setJhold code h).jrn.copyHeld = s.jrn.copyHeld := rfl
@[simp] theorem State.setJhold_rd (s : State) (code : Nat) (h : Sys2Proof.Machine.JHold) (idx sub : Nat) : (s.setJhold code h).rd idx sub = s.rd idx sub := rfl

@[simp] theorem State.digestChange_jrn (s : State) : (s.digestChange).jrn = s.jrn := rfl
@[simp] theorem State.digestChange_panels (s : State) : (s.digestChange).panels = s.panels := rfl
@[simp] theorem State.digestChange_arrivals (s : State) : (s.digestChange).arrivals = s.arrivals := rfl
@[simp] theorem State.digestChange_links (s : State) : (s.digestChange).links = s.links := rfl
@[simp] theorem State.digestChange_mem (s : State) : (s.digestChange).mem = s.mem := rfl
@[simp] theorem State.digestChange_qm (s : State) : (s.digestChange).qm = s.qm := rfl
@[simp] theorem State.digestChange_throttle (s : State) : (s.digestChange).throttle = s.throttle := rfl
@[simp] theorem State.digestChange_clkLost (s : State) : (s.digestChange).clkLost = s.clkLost := rfl
@[simp] theorem State.digestChange_memKept (s : State) : (s.digestChange).memKept = s.memKept := rfl
@[simp] theorem State.digestChange_lifecycle (s : State) : (s.digestChange).lifecycle = s.lifecycle := rfl
@[simp] theorem State.digestChange_warmRuns (s : State) : (s.digestChange).warmRuns = s.warmRuns := rfl
@[simp] theorem State.digestChange_ddr (s : State) : (s.digestChange).ddr = s.ddr := rfl
@[simp] theorem State.digestChange_dir (s : State) : (s.digestChange).dir = s.dir := rfl
@[simp] theorem State.digestChange_lanes (s : State) : (s.digestChange).lanes = s.lanes := rfl
@[simp] theorem State.digestChange_testLanes (s : State) : (s.digestChange).testLanes = s.testLanes := rfl
@[simp] theorem State.digestChange_bootFn (s : State) : (s.digestChange).bootFn = s.bootFn := rfl
@[simp] theorem State.digestChange_ld (s : State) : (s.digestChange).ld = s.ld := rfl
@[simp] theorem State.digestChange_st (s : State) : (s.digestChange).st = s.st := rfl
@[simp] theorem State.digestChange_shims (s : State) : (s.digestChange).shims = s.shims := rfl
@[simp] theorem State.digestChange_cfg (s : State) : (s.digestChange).cfg = s.cfg := rfl
@[simp] theorem State.digestChange_hdm (s : State) : (s.digestChange).hdm = s.hdm := rfl
@[simp] theorem State.digestChange_ras (s : State) : (s.digestChange).ras = s.ras := rfl
@[simp] theorem State.digestChange_block (s : State) : (s.digestChange).block = s.block := rfl
@[simp] theorem State.digestChange_errLog (s : State) : (s.digestChange).errLog = s.errLog := rfl
@[simp] theorem State.digestChange_ideKeys (s : State) : (s.digestChange).ideKeys = s.ideKeys := rfl
@[simp] theorem State.digestChange_bsKeys (s : State) : (s.digestChange).bsKeys = s.bsKeys := rfl
@[simp] theorem State.digestChange_th (s : State) : (s.digestChange).th = s.th := rfl
@[simp] theorem State.digestChange_stop (s : State) : (s.digestChange).stop = s.stop := rfl
@[simp] theorem State.digestChange_nv (s : State) : (s.digestChange).nv = s.nv := rfl
@[simp] theorem State.digestChange_wear (s : State) : (s.digestChange).wear = s.wear := rfl
@[simp] theorem State.digestChange_sec (s : State) : (s.digestChange).sec = s.sec := rfl
@[simp] theorem State.digestChange_pwr (s : State) : (s.digestChange).pwr = s.pwr := rfl
@[simp] theorem State.digestChange_pins (s : State) : (s.digestChange).pins = s.pins := rfl
@[simp] theorem State.digestChange_sal (s : State) : (s.digestChange).sal = s.sal := rfl
@[simp] theorem State.digestChange_pub (s : State) : (s.digestChange).pub = s.pub := rfl
@[simp] theorem State.digestChange_reg (s : State) : (s.digestChange).reg = s.reg := rfl
@[simp] theorem State.digestChange_freeCount (s : State) : (s.digestChange).freeCount = s.freeCount := rfl
@[simp] theorem State.digestChange_out (s : State) : (s.digestChange).out = s.out := rfl
@[simp] theorem State.digestChange_stalled (s : State) : (s.digestChange).stalled = s.stalled := rfl
@[simp] theorem State.digestChange_pending (s : State) : (s.digestChange).pending = s.pending := rfl
@[simp] theorem State.digestChange_dev_state (s : State) : (s.digestChange).dev.state = s.dev.state := rfl
@[simp] theorem State.digestChange_dev_stopAsserted (s : State) : (s.digestChange).dev.stopAsserted = s.dev.stopAsserted := rfl
@[simp] theorem State.digestChange_dev_aonTime (s : State) : (s.digestChange).dev.aonTime = s.dev.aonTime := rfl
@[simp] theorem State.digestChange_dev_evtLog (s : State) : (s.digestChange).dev.evtLog = s.dev.evtLog := rfl
@[simp] theorem State.digestChange_dev_evtCount (s : State) : (s.digestChange).dev.evtCount = s.dev.evtCount := rfl
@[simp] theorem State.digestChange_dev_evtHolds (s : State) : (s.digestChange).dev.evtHolds = s.dev.evtHolds := rfl
@[simp] theorem State.digestChange_dev_evtLost (s : State) : (s.digestChange).dev.evtLost = s.dev.evtLost := rfl
@[simp] theorem State.digestChange_dev_held (s : State) : (s.digestChange).dev.held = s.dev.held := rfl
@[simp] theorem State.digestChange_dev_resetLow (s : State) : (s.digestChange).dev.resetLow = s.dev.resetLow := rfl
@[simp] theorem State.digestChange_dev_resetDue (s : State) : (s.digestChange).dev.resetDue = s.dev.resetDue := rfl
@[simp] theorem State.digestChange_rd (s : State) (idx sub : Nat) : (s.digestChange).rd idx sub = s.rd idx sub := rfl

@[simp] theorem State.goto_jrn (s : State) (d : Sys2Proof.Machine.DevState) : (s.goto d).jrn = s.jrn := rfl
@[simp] theorem State.goto_panels (s : State) (d : Sys2Proof.Machine.DevState) : (s.goto d).panels = s.panels := rfl
@[simp] theorem State.goto_arrivals (s : State) (d : Sys2Proof.Machine.DevState) : (s.goto d).arrivals = s.arrivals := rfl
@[simp] theorem State.goto_links (s : State) (d : Sys2Proof.Machine.DevState) : (s.goto d).links = s.links := rfl
@[simp] theorem State.goto_mem (s : State) (d : Sys2Proof.Machine.DevState) : (s.goto d).mem = s.mem := rfl
@[simp] theorem State.goto_qm (s : State) (d : Sys2Proof.Machine.DevState) : (s.goto d).qm = s.qm := rfl
@[simp] theorem State.goto_throttle (s : State) (d : Sys2Proof.Machine.DevState) : (s.goto d).throttle = s.throttle := rfl
@[simp] theorem State.goto_clkLost (s : State) (d : Sys2Proof.Machine.DevState) : (s.goto d).clkLost = s.clkLost := rfl
@[simp] theorem State.goto_memKept (s : State) (d : Sys2Proof.Machine.DevState) : (s.goto d).memKept = s.memKept := rfl
@[simp] theorem State.goto_lifecycle (s : State) (d : Sys2Proof.Machine.DevState) : (s.goto d).lifecycle = s.lifecycle := rfl
@[simp] theorem State.goto_warmRuns (s : State) (d : Sys2Proof.Machine.DevState) : (s.goto d).warmRuns = s.warmRuns := rfl
@[simp] theorem State.goto_ddr (s : State) (d : Sys2Proof.Machine.DevState) : (s.goto d).ddr = s.ddr := rfl
@[simp] theorem State.goto_dir (s : State) (d : Sys2Proof.Machine.DevState) : (s.goto d).dir = s.dir := rfl
@[simp] theorem State.goto_lanes (s : State) (d : Sys2Proof.Machine.DevState) : (s.goto d).lanes = s.lanes := rfl
@[simp] theorem State.goto_testLanes (s : State) (d : Sys2Proof.Machine.DevState) : (s.goto d).testLanes = s.testLanes := rfl
@[simp] theorem State.goto_bootFn (s : State) (d : Sys2Proof.Machine.DevState) : (s.goto d).bootFn = s.bootFn := rfl
@[simp] theorem State.goto_ld (s : State) (d : Sys2Proof.Machine.DevState) : (s.goto d).ld = s.ld := rfl
@[simp] theorem State.goto_st (s : State) (d : Sys2Proof.Machine.DevState) : (s.goto d).st = s.st := rfl
@[simp] theorem State.goto_shims (s : State) (d : Sys2Proof.Machine.DevState) : (s.goto d).shims = s.shims := rfl
@[simp] theorem State.goto_cfg (s : State) (d : Sys2Proof.Machine.DevState) : (s.goto d).cfg = s.cfg := rfl
@[simp] theorem State.goto_hdm (s : State) (d : Sys2Proof.Machine.DevState) : (s.goto d).hdm = s.hdm := rfl
@[simp] theorem State.goto_ras (s : State) (d : Sys2Proof.Machine.DevState) : (s.goto d).ras = s.ras := rfl
@[simp] theorem State.goto_block (s : State) (d : Sys2Proof.Machine.DevState) : (s.goto d).block = s.block := rfl
@[simp] theorem State.goto_errLog (s : State) (d : Sys2Proof.Machine.DevState) : (s.goto d).errLog = s.errLog := rfl
@[simp] theorem State.goto_ideKeys (s : State) (d : Sys2Proof.Machine.DevState) : (s.goto d).ideKeys = s.ideKeys := rfl
@[simp] theorem State.goto_bsKeys (s : State) (d : Sys2Proof.Machine.DevState) : (s.goto d).bsKeys = s.bsKeys := rfl
@[simp] theorem State.goto_th (s : State) (d : Sys2Proof.Machine.DevState) : (s.goto d).th = s.th := rfl
@[simp] theorem State.goto_stop (s : State) (d : Sys2Proof.Machine.DevState) : (s.goto d).stop = s.stop := rfl
@[simp] theorem State.goto_nv (s : State) (d : Sys2Proof.Machine.DevState) : (s.goto d).nv = s.nv := rfl
@[simp] theorem State.goto_wear (s : State) (d : Sys2Proof.Machine.DevState) : (s.goto d).wear = s.wear := rfl
@[simp] theorem State.goto_sec (s : State) (d : Sys2Proof.Machine.DevState) : (s.goto d).sec = s.sec := rfl
@[simp] theorem State.goto_pwr (s : State) (d : Sys2Proof.Machine.DevState) : (s.goto d).pwr = s.pwr := rfl
@[simp] theorem State.goto_pins (s : State) (d : Sys2Proof.Machine.DevState) : (s.goto d).pins = s.pins := rfl
@[simp] theorem State.goto_sal (s : State) (d : Sys2Proof.Machine.DevState) : (s.goto d).sal = s.sal := rfl
@[simp] theorem State.goto_pub (s : State) (d : Sys2Proof.Machine.DevState) : (s.goto d).pub = s.pub := rfl
@[simp] theorem State.goto_reg (s : State) (d : Sys2Proof.Machine.DevState) : (s.goto d).reg = s.reg := rfl
@[simp] theorem State.goto_freeCount (s : State) (d : Sys2Proof.Machine.DevState) : (s.goto d).freeCount = s.freeCount := rfl
@[simp] theorem State.goto_out (s : State) (d : Sys2Proof.Machine.DevState) : (s.goto d).out = s.out := rfl
@[simp] theorem State.goto_stalled (s : State) (d : Sys2Proof.Machine.DevState) : (s.goto d).stalled = s.stalled := rfl
@[simp] theorem State.goto_pending (s : State) (d : Sys2Proof.Machine.DevState) : (s.goto d).pending = s.pending := rfl
@[simp] theorem State.goto_dev_stopAsserted (s : State) (d : Sys2Proof.Machine.DevState) : (s.goto d).dev.stopAsserted = s.dev.stopAsserted := rfl
@[simp] theorem State.goto_dev_aonTime (s : State) (d : Sys2Proof.Machine.DevState) : (s.goto d).dev.aonTime = s.dev.aonTime := rfl
@[simp] theorem State.goto_dev_publishDue (s : State) (d : Sys2Proof.Machine.DevState) : (s.goto d).dev.publishDue = s.dev.publishDue := rfl
@[simp] theorem State.goto_dev_evtLog (s : State) (d : Sys2Proof.Machine.DevState) : (s.goto d).dev.evtLog = s.dev.evtLog := rfl
@[simp] theorem State.goto_dev_evtCount (s : State) (d : Sys2Proof.Machine.DevState) : (s.goto d).dev.evtCount = s.dev.evtCount := rfl
@[simp] theorem State.goto_dev_held (s : State) (d : Sys2Proof.Machine.DevState) : (s.goto d).dev.held = s.dev.held := rfl
@[simp] theorem State.goto_dev_resetLow (s : State) (d : Sys2Proof.Machine.DevState) : (s.goto d).dev.resetLow = s.dev.resetLow := rfl
@[simp] theorem State.goto_dev_resetDue (s : State) (d : Sys2Proof.Machine.DevState) : (s.goto d).dev.resetDue = s.dev.resetDue := rfl
@[simp] theorem State.goto_rd (s : State) (d : Sys2Proof.Machine.DevState) (idx sub : Nat) : (s.goto d).rd idx sub = s.rd idx sub := rfl

@[simp] theorem State.cause_jrn (s : State) (event c : Nat) : (s.cause event c).jrn = s.jrn := rfl
@[simp] theorem State.cause_panels (s : State) (event c : Nat) : (s.cause event c).panels = s.panels := rfl
@[simp] theorem State.cause_arrivals (s : State) (event c : Nat) : (s.cause event c).arrivals = s.arrivals := rfl
@[simp] theorem State.cause_links (s : State) (event c : Nat) : (s.cause event c).links = s.links := rfl
@[simp] theorem State.cause_mem (s : State) (event c : Nat) : (s.cause event c).mem = s.mem := rfl
@[simp] theorem State.cause_qm (s : State) (event c : Nat) : (s.cause event c).qm = s.qm := rfl
@[simp] theorem State.cause_throttle (s : State) (event c : Nat) : (s.cause event c).throttle = s.throttle := rfl
@[simp] theorem State.cause_clkLost (s : State) (event c : Nat) : (s.cause event c).clkLost = s.clkLost := rfl
@[simp] theorem State.cause_memKept (s : State) (event c : Nat) : (s.cause event c).memKept = s.memKept := rfl
@[simp] theorem State.cause_lifecycle (s : State) (event c : Nat) : (s.cause event c).lifecycle = s.lifecycle := rfl
@[simp] theorem State.cause_warmRuns (s : State) (event c : Nat) : (s.cause event c).warmRuns = s.warmRuns := rfl
@[simp] theorem State.cause_ddr (s : State) (event c : Nat) : (s.cause event c).ddr = s.ddr := rfl
@[simp] theorem State.cause_dir (s : State) (event c : Nat) : (s.cause event c).dir = s.dir := rfl
@[simp] theorem State.cause_lanes (s : State) (event c : Nat) : (s.cause event c).lanes = s.lanes := rfl
@[simp] theorem State.cause_testLanes (s : State) (event c : Nat) : (s.cause event c).testLanes = s.testLanes := rfl
@[simp] theorem State.cause_bootFn (s : State) (event c : Nat) : (s.cause event c).bootFn = s.bootFn := rfl
@[simp] theorem State.cause_ld (s : State) (event c : Nat) : (s.cause event c).ld = s.ld := rfl
@[simp] theorem State.cause_st (s : State) (event c : Nat) : (s.cause event c).st = s.st := rfl
@[simp] theorem State.cause_shims (s : State) (event c : Nat) : (s.cause event c).shims = s.shims := rfl
@[simp] theorem State.cause_cfg (s : State) (event c : Nat) : (s.cause event c).cfg = s.cfg := rfl
@[simp] theorem State.cause_hdm (s : State) (event c : Nat) : (s.cause event c).hdm = s.hdm := rfl
@[simp] theorem State.cause_ras (s : State) (event c : Nat) : (s.cause event c).ras = s.ras := rfl
@[simp] theorem State.cause_block (s : State) (event c : Nat) : (s.cause event c).block = s.block := rfl
@[simp] theorem State.cause_errLog (s : State) (event c : Nat) : (s.cause event c).errLog = s.errLog := rfl
@[simp] theorem State.cause_ideKeys (s : State) (event c : Nat) : (s.cause event c).ideKeys = s.ideKeys := rfl
@[simp] theorem State.cause_bsKeys (s : State) (event c : Nat) : (s.cause event c).bsKeys = s.bsKeys := rfl
@[simp] theorem State.cause_th (s : State) (event c : Nat) : (s.cause event c).th = s.th := rfl
@[simp] theorem State.cause_stop (s : State) (event c : Nat) : (s.cause event c).stop = s.stop := rfl
@[simp] theorem State.cause_nv (s : State) (event c : Nat) : (s.cause event c).nv = s.nv := rfl
@[simp] theorem State.cause_wear (s : State) (event c : Nat) : (s.cause event c).wear = s.wear := rfl
@[simp] theorem State.cause_sec (s : State) (event c : Nat) : (s.cause event c).sec = s.sec := rfl
@[simp] theorem State.cause_pwr (s : State) (event c : Nat) : (s.cause event c).pwr = s.pwr := rfl
@[simp] theorem State.cause_pins (s : State) (event c : Nat) : (s.cause event c).pins = s.pins := rfl
@[simp] theorem State.cause_sal (s : State) (event c : Nat) : (s.cause event c).sal = s.sal := rfl
@[simp] theorem State.cause_pub (s : State) (event c : Nat) : (s.cause event c).pub = s.pub := rfl
@[simp] theorem State.cause_freeCount (s : State) (event c : Nat) : (s.cause event c).freeCount = s.freeCount := rfl
@[simp] theorem State.cause_out (s : State) (event c : Nat) : (s.cause event c).out = s.out := rfl
@[simp] theorem State.cause_stalled (s : State) (event c : Nat) : (s.cause event c).stalled = s.stalled := rfl
@[simp] theorem State.cause_pending (s : State) (event c : Nat) : (s.cause event c).pending = s.pending := rfl
@[simp] theorem State.cause_dev_state (s : State) (event c : Nat) : (s.cause event c).dev.state = s.dev.state := rfl
@[simp] theorem State.cause_dev_stopAsserted (s : State) (event c : Nat) : (s.cause event c).dev.stopAsserted = s.dev.stopAsserted := rfl
@[simp] theorem State.cause_dev_aonTime (s : State) (event c : Nat) : (s.cause event c).dev.aonTime = s.dev.aonTime := rfl
@[simp] theorem State.cause_dev_evtLog (s : State) (event c : Nat) : (s.cause event c).dev.evtLog = s.dev.evtLog := rfl
@[simp] theorem State.cause_dev_evtCount (s : State) (event c : Nat) : (s.cause event c).dev.evtCount = s.dev.evtCount := rfl
@[simp] theorem State.cause_dev_held (s : State) (event c : Nat) : (s.cause event c).dev.held = s.dev.held := rfl
@[simp] theorem State.cause_dev_resetLow (s : State) (event c : Nat) : (s.cause event c).dev.resetLow = s.dev.resetLow := rfl
@[simp] theorem State.cause_dev_resetDue (s : State) (event c : Nat) : (s.cause event c).dev.resetDue = s.dev.resetDue := rfl

@[simp] theorem State.journalWrite_dev (s : State) (r : Sys2Proof.Machine.JRec) (lossBefore : Bool) : (s.journalWrite r lossBefore).dev = s.dev := rfl
@[simp] theorem State.journalWrite_panels (s : State) (r : Sys2Proof.Machine.JRec) (lossBefore : Bool) : (s.journalWrite r lossBefore).panels = s.panels := rfl
@[simp] theorem State.journalWrite_arrivals (s : State) (r : Sys2Proof.Machine.JRec) (lossBefore : Bool) : (s.journalWrite r lossBefore).arrivals = s.arrivals := rfl
@[simp] theorem State.journalWrite_links (s : State) (r : Sys2Proof.Machine.JRec) (lossBefore : Bool) : (s.journalWrite r lossBefore).links = s.links := rfl
@[simp] theorem State.journalWrite_mem (s : State) (r : Sys2Proof.Machine.JRec) (lossBefore : Bool) : (s.journalWrite r lossBefore).mem = s.mem := rfl
@[simp] theorem State.journalWrite_qm (s : State) (r : Sys2Proof.Machine.JRec) (lossBefore : Bool) : (s.journalWrite r lossBefore).qm = s.qm := rfl
@[simp] theorem State.journalWrite_throttle (s : State) (r : Sys2Proof.Machine.JRec) (lossBefore : Bool) : (s.journalWrite r lossBefore).throttle = s.throttle := rfl
@[simp] theorem State.journalWrite_clkLost (s : State) (r : Sys2Proof.Machine.JRec) (lossBefore : Bool) : (s.journalWrite r lossBefore).clkLost = s.clkLost := rfl
@[simp] theorem State.journalWrite_memKept (s : State) (r : Sys2Proof.Machine.JRec) (lossBefore : Bool) : (s.journalWrite r lossBefore).memKept = s.memKept := rfl
@[simp] theorem State.journalWrite_lifecycle (s : State) (r : Sys2Proof.Machine.JRec) (lossBefore : Bool) : (s.journalWrite r lossBefore).lifecycle = s.lifecycle := rfl
@[simp] theorem State.journalWrite_warmRuns (s : State) (r : Sys2Proof.Machine.JRec) (lossBefore : Bool) : (s.journalWrite r lossBefore).warmRuns = s.warmRuns := rfl
@[simp] theorem State.journalWrite_ddr (s : State) (r : Sys2Proof.Machine.JRec) (lossBefore : Bool) : (s.journalWrite r lossBefore).ddr = s.ddr := rfl
@[simp] theorem State.journalWrite_dir (s : State) (r : Sys2Proof.Machine.JRec) (lossBefore : Bool) : (s.journalWrite r lossBefore).dir = s.dir := rfl
@[simp] theorem State.journalWrite_lanes (s : State) (r : Sys2Proof.Machine.JRec) (lossBefore : Bool) : (s.journalWrite r lossBefore).lanes = s.lanes := rfl
@[simp] theorem State.journalWrite_testLanes (s : State) (r : Sys2Proof.Machine.JRec) (lossBefore : Bool) : (s.journalWrite r lossBefore).testLanes = s.testLanes := rfl
@[simp] theorem State.journalWrite_bootFn (s : State) (r : Sys2Proof.Machine.JRec) (lossBefore : Bool) : (s.journalWrite r lossBefore).bootFn = s.bootFn := rfl
@[simp] theorem State.journalWrite_ld (s : State) (r : Sys2Proof.Machine.JRec) (lossBefore : Bool) : (s.journalWrite r lossBefore).ld = s.ld := rfl
@[simp] theorem State.journalWrite_st (s : State) (r : Sys2Proof.Machine.JRec) (lossBefore : Bool) : (s.journalWrite r lossBefore).st = s.st := rfl
@[simp] theorem State.journalWrite_shims (s : State) (r : Sys2Proof.Machine.JRec) (lossBefore : Bool) : (s.journalWrite r lossBefore).shims = s.shims := rfl
@[simp] theorem State.journalWrite_cfg (s : State) (r : Sys2Proof.Machine.JRec) (lossBefore : Bool) : (s.journalWrite r lossBefore).cfg = s.cfg := rfl
@[simp] theorem State.journalWrite_hdm (s : State) (r : Sys2Proof.Machine.JRec) (lossBefore : Bool) : (s.journalWrite r lossBefore).hdm = s.hdm := rfl
@[simp] theorem State.journalWrite_ras (s : State) (r : Sys2Proof.Machine.JRec) (lossBefore : Bool) : (s.journalWrite r lossBefore).ras = s.ras := rfl
@[simp] theorem State.journalWrite_block (s : State) (r : Sys2Proof.Machine.JRec) (lossBefore : Bool) : (s.journalWrite r lossBefore).block = s.block := rfl
@[simp] theorem State.journalWrite_errLog (s : State) (r : Sys2Proof.Machine.JRec) (lossBefore : Bool) : (s.journalWrite r lossBefore).errLog = s.errLog := rfl
@[simp] theorem State.journalWrite_ideKeys (s : State) (r : Sys2Proof.Machine.JRec) (lossBefore : Bool) : (s.journalWrite r lossBefore).ideKeys = s.ideKeys := rfl
@[simp] theorem State.journalWrite_bsKeys (s : State) (r : Sys2Proof.Machine.JRec) (lossBefore : Bool) : (s.journalWrite r lossBefore).bsKeys = s.bsKeys := rfl
@[simp] theorem State.journalWrite_th (s : State) (r : Sys2Proof.Machine.JRec) (lossBefore : Bool) : (s.journalWrite r lossBefore).th = s.th := rfl
@[simp] theorem State.journalWrite_stop (s : State) (r : Sys2Proof.Machine.JRec) (lossBefore : Bool) : (s.journalWrite r lossBefore).stop = s.stop := rfl
@[simp] theorem State.journalWrite_nv (s : State) (r : Sys2Proof.Machine.JRec) (lossBefore : Bool) : (s.journalWrite r lossBefore).nv = s.nv := rfl
@[simp] theorem State.journalWrite_wear (s : State) (r : Sys2Proof.Machine.JRec) (lossBefore : Bool) : (s.journalWrite r lossBefore).wear = s.wear := rfl
@[simp] theorem State.journalWrite_sec (s : State) (r : Sys2Proof.Machine.JRec) (lossBefore : Bool) : (s.journalWrite r lossBefore).sec = s.sec := rfl
@[simp] theorem State.journalWrite_pwr (s : State) (r : Sys2Proof.Machine.JRec) (lossBefore : Bool) : (s.journalWrite r lossBefore).pwr = s.pwr := rfl
@[simp] theorem State.journalWrite_pins (s : State) (r : Sys2Proof.Machine.JRec) (lossBefore : Bool) : (s.journalWrite r lossBefore).pins = s.pins := rfl
@[simp] theorem State.journalWrite_sal (s : State) (r : Sys2Proof.Machine.JRec) (lossBefore : Bool) : (s.journalWrite r lossBefore).sal = s.sal := rfl
@[simp] theorem State.journalWrite_pub (s : State) (r : Sys2Proof.Machine.JRec) (lossBefore : Bool) : (s.journalWrite r lossBefore).pub = s.pub := rfl
@[simp] theorem State.journalWrite_reg (s : State) (r : Sys2Proof.Machine.JRec) (lossBefore : Bool) : (s.journalWrite r lossBefore).reg = s.reg := rfl
@[simp] theorem State.journalWrite_freeCount (s : State) (r : Sys2Proof.Machine.JRec) (lossBefore : Bool) : (s.journalWrite r lossBefore).freeCount = s.freeCount := rfl
@[simp] theorem State.journalWrite_out (s : State) (r : Sys2Proof.Machine.JRec) (lossBefore : Bool) : (s.journalWrite r lossBefore).out = s.out := rfl
@[simp] theorem State.journalWrite_stalled (s : State) (r : Sys2Proof.Machine.JRec) (lossBefore : Bool) : (s.journalWrite r lossBefore).stalled = s.stalled := rfl
@[simp] theorem State.journalWrite_pending (s : State) (r : Sys2Proof.Machine.JRec) (lossBefore : Bool) : (s.journalWrite r lossBefore).pending = s.pending := rfl
@[simp] theorem State.journalWrite_jrn_reserve (s : State) (r : Sys2Proof.Machine.JRec) (lossBefore : Bool) : (s.journalWrite r lossBefore).jrn.reserve = s.jrn.reserve := rfl
@[simp] theorem State.journalWrite_jrn_lost (s : State) (r : Sys2Proof.Machine.JRec) (lossBefore : Bool) : (s.journalWrite r lossBefore).jrn.lost = s.jrn.lost := rfl
@[simp] theorem State.journalWrite_jrn_holds (s : State) (r : Sys2Proof.Machine.JRec) (lossBefore : Bool) : (s.journalWrite r lossBefore).jrn.holds = s.jrn.holds := rfl
@[simp] theorem State.journalWrite_jrn_waiting (s : State) (r : Sys2Proof.Machine.JRec) (lossBefore : Bool) : (s.journalWrite r lossBefore).jrn.waiting = s.jrn.waiting := rfl
@[simp] theorem State.journalWrite_jrn_bootLost (s : State) (r : Sys2Proof.Machine.JRec) (lossBefore : Bool) : (s.journalWrite r lossBefore).jrn.bootLost = s.jrn.bootLost := rfl
@[simp] theorem State.journalWrite_jrn_copied (s : State) (r : Sys2Proof.Machine.JRec) (lossBefore : Bool) : (s.journalWrite r lossBefore).jrn.copied = s.jrn.copied := rfl
@[simp] theorem State.journalWrite_jrn_copyHeld (s : State) (r : Sys2Proof.Machine.JRec) (lossBefore : Bool) : (s.journalWrite r lossBefore).jrn.copyHeld = s.jrn.copyHeld := rfl
@[simp] theorem State.journalWrite_rd (s : State) (r : Sys2Proof.Machine.JRec) (lossBefore : Bool) (idx sub : Nat) : (s.journalWrite r lossBefore).rd idx sub = s.rd idx sub := rfl

@[simp] theorem State.setLink_dev (s : State) (lane : Nat) (x : Sys2Proof.Machine.Link) : (s.setLink lane x).dev = s.dev := rfl
@[simp] theorem State.setLink_jrn (s : State) (lane : Nat) (x : Sys2Proof.Machine.Link) : (s.setLink lane x).jrn = s.jrn := rfl
@[simp] theorem State.setLink_panels (s : State) (lane : Nat) (x : Sys2Proof.Machine.Link) : (s.setLink lane x).panels = s.panels := rfl
@[simp] theorem State.setLink_arrivals (s : State) (lane : Nat) (x : Sys2Proof.Machine.Link) : (s.setLink lane x).arrivals = s.arrivals := rfl
@[simp] theorem State.setLink_mem (s : State) (lane : Nat) (x : Sys2Proof.Machine.Link) : (s.setLink lane x).mem = s.mem := rfl
@[simp] theorem State.setLink_qm (s : State) (lane : Nat) (x : Sys2Proof.Machine.Link) : (s.setLink lane x).qm = s.qm := rfl
@[simp] theorem State.setLink_throttle (s : State) (lane : Nat) (x : Sys2Proof.Machine.Link) : (s.setLink lane x).throttle = s.throttle := rfl
@[simp] theorem State.setLink_clkLost (s : State) (lane : Nat) (x : Sys2Proof.Machine.Link) : (s.setLink lane x).clkLost = s.clkLost := rfl
@[simp] theorem State.setLink_memKept (s : State) (lane : Nat) (x : Sys2Proof.Machine.Link) : (s.setLink lane x).memKept = s.memKept := rfl
@[simp] theorem State.setLink_lifecycle (s : State) (lane : Nat) (x : Sys2Proof.Machine.Link) : (s.setLink lane x).lifecycle = s.lifecycle := rfl
@[simp] theorem State.setLink_warmRuns (s : State) (lane : Nat) (x : Sys2Proof.Machine.Link) : (s.setLink lane x).warmRuns = s.warmRuns := rfl
@[simp] theorem State.setLink_ddr (s : State) (lane : Nat) (x : Sys2Proof.Machine.Link) : (s.setLink lane x).ddr = s.ddr := rfl
@[simp] theorem State.setLink_dir (s : State) (lane : Nat) (x : Sys2Proof.Machine.Link) : (s.setLink lane x).dir = s.dir := rfl
@[simp] theorem State.setLink_lanes (s : State) (lane : Nat) (x : Sys2Proof.Machine.Link) : (s.setLink lane x).lanes = s.lanes := rfl
@[simp] theorem State.setLink_testLanes (s : State) (lane : Nat) (x : Sys2Proof.Machine.Link) : (s.setLink lane x).testLanes = s.testLanes := rfl
@[simp] theorem State.setLink_bootFn (s : State) (lane : Nat) (x : Sys2Proof.Machine.Link) : (s.setLink lane x).bootFn = s.bootFn := rfl
@[simp] theorem State.setLink_ld (s : State) (lane : Nat) (x : Sys2Proof.Machine.Link) : (s.setLink lane x).ld = s.ld := rfl
@[simp] theorem State.setLink_st (s : State) (lane : Nat) (x : Sys2Proof.Machine.Link) : (s.setLink lane x).st = s.st := rfl
@[simp] theorem State.setLink_shims (s : State) (lane : Nat) (x : Sys2Proof.Machine.Link) : (s.setLink lane x).shims = s.shims := rfl
@[simp] theorem State.setLink_cfg (s : State) (lane : Nat) (x : Sys2Proof.Machine.Link) : (s.setLink lane x).cfg = s.cfg := rfl
@[simp] theorem State.setLink_hdm (s : State) (lane : Nat) (x : Sys2Proof.Machine.Link) : (s.setLink lane x).hdm = s.hdm := rfl
@[simp] theorem State.setLink_ras (s : State) (lane : Nat) (x : Sys2Proof.Machine.Link) : (s.setLink lane x).ras = s.ras := rfl
@[simp] theorem State.setLink_block (s : State) (lane : Nat) (x : Sys2Proof.Machine.Link) : (s.setLink lane x).block = s.block := rfl
@[simp] theorem State.setLink_errLog (s : State) (lane : Nat) (x : Sys2Proof.Machine.Link) : (s.setLink lane x).errLog = s.errLog := rfl
@[simp] theorem State.setLink_ideKeys (s : State) (lane : Nat) (x : Sys2Proof.Machine.Link) : (s.setLink lane x).ideKeys = s.ideKeys := rfl
@[simp] theorem State.setLink_bsKeys (s : State) (lane : Nat) (x : Sys2Proof.Machine.Link) : (s.setLink lane x).bsKeys = s.bsKeys := rfl
@[simp] theorem State.setLink_th (s : State) (lane : Nat) (x : Sys2Proof.Machine.Link) : (s.setLink lane x).th = s.th := rfl
@[simp] theorem State.setLink_stop (s : State) (lane : Nat) (x : Sys2Proof.Machine.Link) : (s.setLink lane x).stop = s.stop := rfl
@[simp] theorem State.setLink_nv (s : State) (lane : Nat) (x : Sys2Proof.Machine.Link) : (s.setLink lane x).nv = s.nv := rfl
@[simp] theorem State.setLink_wear (s : State) (lane : Nat) (x : Sys2Proof.Machine.Link) : (s.setLink lane x).wear = s.wear := rfl
@[simp] theorem State.setLink_sec (s : State) (lane : Nat) (x : Sys2Proof.Machine.Link) : (s.setLink lane x).sec = s.sec := rfl
@[simp] theorem State.setLink_pwr (s : State) (lane : Nat) (x : Sys2Proof.Machine.Link) : (s.setLink lane x).pwr = s.pwr := rfl
@[simp] theorem State.setLink_pins (s : State) (lane : Nat) (x : Sys2Proof.Machine.Link) : (s.setLink lane x).pins = s.pins := rfl
@[simp] theorem State.setLink_sal (s : State) (lane : Nat) (x : Sys2Proof.Machine.Link) : (s.setLink lane x).sal = s.sal := rfl
@[simp] theorem State.setLink_pub (s : State) (lane : Nat) (x : Sys2Proof.Machine.Link) : (s.setLink lane x).pub = s.pub := rfl
@[simp] theorem State.setLink_reg (s : State) (lane : Nat) (x : Sys2Proof.Machine.Link) : (s.setLink lane x).reg = s.reg := rfl
@[simp] theorem State.setLink_freeCount (s : State) (lane : Nat) (x : Sys2Proof.Machine.Link) : (s.setLink lane x).freeCount = s.freeCount := rfl
@[simp] theorem State.setLink_out (s : State) (lane : Nat) (x : Sys2Proof.Machine.Link) : (s.setLink lane x).out = s.out := rfl
@[simp] theorem State.setLink_stalled (s : State) (lane : Nat) (x : Sys2Proof.Machine.Link) : (s.setLink lane x).stalled = s.stalled := rfl
@[simp] theorem State.setLink_pending (s : State) (lane : Nat) (x : Sys2Proof.Machine.Link) : (s.setLink lane x).pending = s.pending := rfl
@[simp] theorem State.setLink_rd (s : State) (lane : Nat) (x : Sys2Proof.Machine.Link) (idx sub : Nat) : (s.setLink lane x).rd idx sub = s.rd idx sub := rfl

@[simp] theorem State.setPanel_dev (s : State) (p : Nat) (x : Sys2Proof.Machine.Panel) : (s.setPanel p x).dev = s.dev := rfl
@[simp] theorem State.setPanel_jrn (s : State) (p : Nat) (x : Sys2Proof.Machine.Panel) : (s.setPanel p x).jrn = s.jrn := rfl
@[simp] theorem State.setPanel_arrivals (s : State) (p : Nat) (x : Sys2Proof.Machine.Panel) : (s.setPanel p x).arrivals = s.arrivals := rfl
@[simp] theorem State.setPanel_links (s : State) (p : Nat) (x : Sys2Proof.Machine.Panel) : (s.setPanel p x).links = s.links := rfl
@[simp] theorem State.setPanel_mem (s : State) (p : Nat) (x : Sys2Proof.Machine.Panel) : (s.setPanel p x).mem = s.mem := rfl
@[simp] theorem State.setPanel_qm (s : State) (p : Nat) (x : Sys2Proof.Machine.Panel) : (s.setPanel p x).qm = s.qm := rfl
@[simp] theorem State.setPanel_throttle (s : State) (p : Nat) (x : Sys2Proof.Machine.Panel) : (s.setPanel p x).throttle = s.throttle := rfl
@[simp] theorem State.setPanel_clkLost (s : State) (p : Nat) (x : Sys2Proof.Machine.Panel) : (s.setPanel p x).clkLost = s.clkLost := rfl
@[simp] theorem State.setPanel_memKept (s : State) (p : Nat) (x : Sys2Proof.Machine.Panel) : (s.setPanel p x).memKept = s.memKept := rfl
@[simp] theorem State.setPanel_lifecycle (s : State) (p : Nat) (x : Sys2Proof.Machine.Panel) : (s.setPanel p x).lifecycle = s.lifecycle := rfl
@[simp] theorem State.setPanel_warmRuns (s : State) (p : Nat) (x : Sys2Proof.Machine.Panel) : (s.setPanel p x).warmRuns = s.warmRuns := rfl
@[simp] theorem State.setPanel_ddr (s : State) (p : Nat) (x : Sys2Proof.Machine.Panel) : (s.setPanel p x).ddr = s.ddr := rfl
@[simp] theorem State.setPanel_dir (s : State) (p : Nat) (x : Sys2Proof.Machine.Panel) : (s.setPanel p x).dir = s.dir := rfl
@[simp] theorem State.setPanel_lanes (s : State) (p : Nat) (x : Sys2Proof.Machine.Panel) : (s.setPanel p x).lanes = s.lanes := rfl
@[simp] theorem State.setPanel_testLanes (s : State) (p : Nat) (x : Sys2Proof.Machine.Panel) : (s.setPanel p x).testLanes = s.testLanes := rfl
@[simp] theorem State.setPanel_bootFn (s : State) (p : Nat) (x : Sys2Proof.Machine.Panel) : (s.setPanel p x).bootFn = s.bootFn := rfl
@[simp] theorem State.setPanel_ld (s : State) (p : Nat) (x : Sys2Proof.Machine.Panel) : (s.setPanel p x).ld = s.ld := rfl
@[simp] theorem State.setPanel_st (s : State) (p : Nat) (x : Sys2Proof.Machine.Panel) : (s.setPanel p x).st = s.st := rfl
@[simp] theorem State.setPanel_shims (s : State) (p : Nat) (x : Sys2Proof.Machine.Panel) : (s.setPanel p x).shims = s.shims := rfl
@[simp] theorem State.setPanel_cfg (s : State) (p : Nat) (x : Sys2Proof.Machine.Panel) : (s.setPanel p x).cfg = s.cfg := rfl
@[simp] theorem State.setPanel_hdm (s : State) (p : Nat) (x : Sys2Proof.Machine.Panel) : (s.setPanel p x).hdm = s.hdm := rfl
@[simp] theorem State.setPanel_ras (s : State) (p : Nat) (x : Sys2Proof.Machine.Panel) : (s.setPanel p x).ras = s.ras := rfl
@[simp] theorem State.setPanel_block (s : State) (p : Nat) (x : Sys2Proof.Machine.Panel) : (s.setPanel p x).block = s.block := rfl
@[simp] theorem State.setPanel_errLog (s : State) (p : Nat) (x : Sys2Proof.Machine.Panel) : (s.setPanel p x).errLog = s.errLog := rfl
@[simp] theorem State.setPanel_ideKeys (s : State) (p : Nat) (x : Sys2Proof.Machine.Panel) : (s.setPanel p x).ideKeys = s.ideKeys := rfl
@[simp] theorem State.setPanel_bsKeys (s : State) (p : Nat) (x : Sys2Proof.Machine.Panel) : (s.setPanel p x).bsKeys = s.bsKeys := rfl
@[simp] theorem State.setPanel_th (s : State) (p : Nat) (x : Sys2Proof.Machine.Panel) : (s.setPanel p x).th = s.th := rfl
@[simp] theorem State.setPanel_stop (s : State) (p : Nat) (x : Sys2Proof.Machine.Panel) : (s.setPanel p x).stop = s.stop := rfl
@[simp] theorem State.setPanel_nv (s : State) (p : Nat) (x : Sys2Proof.Machine.Panel) : (s.setPanel p x).nv = s.nv := rfl
@[simp] theorem State.setPanel_wear (s : State) (p : Nat) (x : Sys2Proof.Machine.Panel) : (s.setPanel p x).wear = s.wear := rfl
@[simp] theorem State.setPanel_sec (s : State) (p : Nat) (x : Sys2Proof.Machine.Panel) : (s.setPanel p x).sec = s.sec := rfl
@[simp] theorem State.setPanel_pwr (s : State) (p : Nat) (x : Sys2Proof.Machine.Panel) : (s.setPanel p x).pwr = s.pwr := rfl
@[simp] theorem State.setPanel_pins (s : State) (p : Nat) (x : Sys2Proof.Machine.Panel) : (s.setPanel p x).pins = s.pins := rfl
@[simp] theorem State.setPanel_sal (s : State) (p : Nat) (x : Sys2Proof.Machine.Panel) : (s.setPanel p x).sal = s.sal := rfl
@[simp] theorem State.setPanel_pub (s : State) (p : Nat) (x : Sys2Proof.Machine.Panel) : (s.setPanel p x).pub = s.pub := rfl
@[simp] theorem State.setPanel_reg (s : State) (p : Nat) (x : Sys2Proof.Machine.Panel) : (s.setPanel p x).reg = s.reg := rfl
@[simp] theorem State.setPanel_freeCount (s : State) (p : Nat) (x : Sys2Proof.Machine.Panel) : (s.setPanel p x).freeCount = s.freeCount := rfl
@[simp] theorem State.setPanel_out (s : State) (p : Nat) (x : Sys2Proof.Machine.Panel) : (s.setPanel p x).out = s.out := rfl
@[simp] theorem State.setPanel_stalled (s : State) (p : Nat) (x : Sys2Proof.Machine.Panel) : (s.setPanel p x).stalled = s.stalled := rfl
@[simp] theorem State.setPanel_pending (s : State) (p : Nat) (x : Sys2Proof.Machine.Panel) : (s.setPanel p x).pending = s.pending := rfl
@[simp] theorem State.setPanel_rd (s : State) (p : Nat) (x : Sys2Proof.Machine.Panel) (idx sub : Nat) : (s.setPanel p x).rd idx sub = s.rd idx sub := rfl

@[simp] theorem State.setShim_dev (s : State) (port : Nat) (x : Sys2Proof.Machine.Shim) : (s.setShim port x).dev = s.dev := rfl
@[simp] theorem State.setShim_jrn (s : State) (port : Nat) (x : Sys2Proof.Machine.Shim) : (s.setShim port x).jrn = s.jrn := rfl
@[simp] theorem State.setShim_panels (s : State) (port : Nat) (x : Sys2Proof.Machine.Shim) : (s.setShim port x).panels = s.panels := rfl
@[simp] theorem State.setShim_arrivals (s : State) (port : Nat) (x : Sys2Proof.Machine.Shim) : (s.setShim port x).arrivals = s.arrivals := rfl
@[simp] theorem State.setShim_links (s : State) (port : Nat) (x : Sys2Proof.Machine.Shim) : (s.setShim port x).links = s.links := rfl
@[simp] theorem State.setShim_mem (s : State) (port : Nat) (x : Sys2Proof.Machine.Shim) : (s.setShim port x).mem = s.mem := rfl
@[simp] theorem State.setShim_qm (s : State) (port : Nat) (x : Sys2Proof.Machine.Shim) : (s.setShim port x).qm = s.qm := rfl
@[simp] theorem State.setShim_throttle (s : State) (port : Nat) (x : Sys2Proof.Machine.Shim) : (s.setShim port x).throttle = s.throttle := rfl
@[simp] theorem State.setShim_clkLost (s : State) (port : Nat) (x : Sys2Proof.Machine.Shim) : (s.setShim port x).clkLost = s.clkLost := rfl
@[simp] theorem State.setShim_memKept (s : State) (port : Nat) (x : Sys2Proof.Machine.Shim) : (s.setShim port x).memKept = s.memKept := rfl
@[simp] theorem State.setShim_lifecycle (s : State) (port : Nat) (x : Sys2Proof.Machine.Shim) : (s.setShim port x).lifecycle = s.lifecycle := rfl
@[simp] theorem State.setShim_warmRuns (s : State) (port : Nat) (x : Sys2Proof.Machine.Shim) : (s.setShim port x).warmRuns = s.warmRuns := rfl
@[simp] theorem State.setShim_ddr (s : State) (port : Nat) (x : Sys2Proof.Machine.Shim) : (s.setShim port x).ddr = s.ddr := rfl
@[simp] theorem State.setShim_dir (s : State) (port : Nat) (x : Sys2Proof.Machine.Shim) : (s.setShim port x).dir = s.dir := rfl
@[simp] theorem State.setShim_lanes (s : State) (port : Nat) (x : Sys2Proof.Machine.Shim) : (s.setShim port x).lanes = s.lanes := rfl
@[simp] theorem State.setShim_testLanes (s : State) (port : Nat) (x : Sys2Proof.Machine.Shim) : (s.setShim port x).testLanes = s.testLanes := rfl
@[simp] theorem State.setShim_bootFn (s : State) (port : Nat) (x : Sys2Proof.Machine.Shim) : (s.setShim port x).bootFn = s.bootFn := rfl
@[simp] theorem State.setShim_ld (s : State) (port : Nat) (x : Sys2Proof.Machine.Shim) : (s.setShim port x).ld = s.ld := rfl
@[simp] theorem State.setShim_st (s : State) (port : Nat) (x : Sys2Proof.Machine.Shim) : (s.setShim port x).st = s.st := rfl
@[simp] theorem State.setShim_cfg (s : State) (port : Nat) (x : Sys2Proof.Machine.Shim) : (s.setShim port x).cfg = s.cfg := rfl
@[simp] theorem State.setShim_hdm (s : State) (port : Nat) (x : Sys2Proof.Machine.Shim) : (s.setShim port x).hdm = s.hdm := rfl
@[simp] theorem State.setShim_ras (s : State) (port : Nat) (x : Sys2Proof.Machine.Shim) : (s.setShim port x).ras = s.ras := rfl
@[simp] theorem State.setShim_block (s : State) (port : Nat) (x : Sys2Proof.Machine.Shim) : (s.setShim port x).block = s.block := rfl
@[simp] theorem State.setShim_errLog (s : State) (port : Nat) (x : Sys2Proof.Machine.Shim) : (s.setShim port x).errLog = s.errLog := rfl
@[simp] theorem State.setShim_ideKeys (s : State) (port : Nat) (x : Sys2Proof.Machine.Shim) : (s.setShim port x).ideKeys = s.ideKeys := rfl
@[simp] theorem State.setShim_bsKeys (s : State) (port : Nat) (x : Sys2Proof.Machine.Shim) : (s.setShim port x).bsKeys = s.bsKeys := rfl
@[simp] theorem State.setShim_th (s : State) (port : Nat) (x : Sys2Proof.Machine.Shim) : (s.setShim port x).th = s.th := rfl
@[simp] theorem State.setShim_stop (s : State) (port : Nat) (x : Sys2Proof.Machine.Shim) : (s.setShim port x).stop = s.stop := rfl
@[simp] theorem State.setShim_nv (s : State) (port : Nat) (x : Sys2Proof.Machine.Shim) : (s.setShim port x).nv = s.nv := rfl
@[simp] theorem State.setShim_wear (s : State) (port : Nat) (x : Sys2Proof.Machine.Shim) : (s.setShim port x).wear = s.wear := rfl
@[simp] theorem State.setShim_sec (s : State) (port : Nat) (x : Sys2Proof.Machine.Shim) : (s.setShim port x).sec = s.sec := rfl
@[simp] theorem State.setShim_pwr (s : State) (port : Nat) (x : Sys2Proof.Machine.Shim) : (s.setShim port x).pwr = s.pwr := rfl
@[simp] theorem State.setShim_pins (s : State) (port : Nat) (x : Sys2Proof.Machine.Shim) : (s.setShim port x).pins = s.pins := rfl
@[simp] theorem State.setShim_sal (s : State) (port : Nat) (x : Sys2Proof.Machine.Shim) : (s.setShim port x).sal = s.sal := rfl
@[simp] theorem State.setShim_pub (s : State) (port : Nat) (x : Sys2Proof.Machine.Shim) : (s.setShim port x).pub = s.pub := rfl
@[simp] theorem State.setShim_reg (s : State) (port : Nat) (x : Sys2Proof.Machine.Shim) : (s.setShim port x).reg = s.reg := rfl
@[simp] theorem State.setShim_freeCount (s : State) (port : Nat) (x : Sys2Proof.Machine.Shim) : (s.setShim port x).freeCount = s.freeCount := rfl
@[simp] theorem State.setShim_out (s : State) (port : Nat) (x : Sys2Proof.Machine.Shim) : (s.setShim port x).out = s.out := rfl
@[simp] theorem State.setShim_stalled (s : State) (port : Nat) (x : Sys2Proof.Machine.Shim) : (s.setShim port x).stalled = s.stalled := rfl
@[simp] theorem State.setShim_pending (s : State) (port : Nat) (x : Sys2Proof.Machine.Shim) : (s.setShim port x).pending = s.pending := rfl
@[simp] theorem State.setShim_rd (s : State) (port : Nat) (x : Sys2Proof.Machine.Shim) (idx sub : Nat) : (s.setShim port x).rd idx sub = s.rd idx sub := rfl

@[simp] theorem State.setBank_dev (s : State) (b : Nat) (x : Sys2Proof.Machine.Bank) : (s.setBank b x).dev = s.dev := rfl
@[simp] theorem State.setBank_jrn (s : State) (b : Nat) (x : Sys2Proof.Machine.Bank) : (s.setBank b x).jrn = s.jrn := rfl
@[simp] theorem State.setBank_panels (s : State) (b : Nat) (x : Sys2Proof.Machine.Bank) : (s.setBank b x).panels = s.panels := rfl
@[simp] theorem State.setBank_arrivals (s : State) (b : Nat) (x : Sys2Proof.Machine.Bank) : (s.setBank b x).arrivals = s.arrivals := rfl
@[simp] theorem State.setBank_links (s : State) (b : Nat) (x : Sys2Proof.Machine.Bank) : (s.setBank b x).links = s.links := rfl
@[simp] theorem State.setBank_qm (s : State) (b : Nat) (x : Sys2Proof.Machine.Bank) : (s.setBank b x).qm = s.qm := rfl
@[simp] theorem State.setBank_throttle (s : State) (b : Nat) (x : Sys2Proof.Machine.Bank) : (s.setBank b x).throttle = s.throttle := rfl
@[simp] theorem State.setBank_clkLost (s : State) (b : Nat) (x : Sys2Proof.Machine.Bank) : (s.setBank b x).clkLost = s.clkLost := rfl
@[simp] theorem State.setBank_memKept (s : State) (b : Nat) (x : Sys2Proof.Machine.Bank) : (s.setBank b x).memKept = s.memKept := rfl
@[simp] theorem State.setBank_lifecycle (s : State) (b : Nat) (x : Sys2Proof.Machine.Bank) : (s.setBank b x).lifecycle = s.lifecycle := rfl
@[simp] theorem State.setBank_warmRuns (s : State) (b : Nat) (x : Sys2Proof.Machine.Bank) : (s.setBank b x).warmRuns = s.warmRuns := rfl
@[simp] theorem State.setBank_ddr (s : State) (b : Nat) (x : Sys2Proof.Machine.Bank) : (s.setBank b x).ddr = s.ddr := rfl
@[simp] theorem State.setBank_dir (s : State) (b : Nat) (x : Sys2Proof.Machine.Bank) : (s.setBank b x).dir = s.dir := rfl
@[simp] theorem State.setBank_lanes (s : State) (b : Nat) (x : Sys2Proof.Machine.Bank) : (s.setBank b x).lanes = s.lanes := rfl
@[simp] theorem State.setBank_testLanes (s : State) (b : Nat) (x : Sys2Proof.Machine.Bank) : (s.setBank b x).testLanes = s.testLanes := rfl
@[simp] theorem State.setBank_bootFn (s : State) (b : Nat) (x : Sys2Proof.Machine.Bank) : (s.setBank b x).bootFn = s.bootFn := rfl
@[simp] theorem State.setBank_ld (s : State) (b : Nat) (x : Sys2Proof.Machine.Bank) : (s.setBank b x).ld = s.ld := rfl
@[simp] theorem State.setBank_st (s : State) (b : Nat) (x : Sys2Proof.Machine.Bank) : (s.setBank b x).st = s.st := rfl
@[simp] theorem State.setBank_shims (s : State) (b : Nat) (x : Sys2Proof.Machine.Bank) : (s.setBank b x).shims = s.shims := rfl
@[simp] theorem State.setBank_cfg (s : State) (b : Nat) (x : Sys2Proof.Machine.Bank) : (s.setBank b x).cfg = s.cfg := rfl
@[simp] theorem State.setBank_hdm (s : State) (b : Nat) (x : Sys2Proof.Machine.Bank) : (s.setBank b x).hdm = s.hdm := rfl
@[simp] theorem State.setBank_ras (s : State) (b : Nat) (x : Sys2Proof.Machine.Bank) : (s.setBank b x).ras = s.ras := rfl
@[simp] theorem State.setBank_block (s : State) (b : Nat) (x : Sys2Proof.Machine.Bank) : (s.setBank b x).block = s.block := rfl
@[simp] theorem State.setBank_errLog (s : State) (b : Nat) (x : Sys2Proof.Machine.Bank) : (s.setBank b x).errLog = s.errLog := rfl
@[simp] theorem State.setBank_ideKeys (s : State) (b : Nat) (x : Sys2Proof.Machine.Bank) : (s.setBank b x).ideKeys = s.ideKeys := rfl
@[simp] theorem State.setBank_bsKeys (s : State) (b : Nat) (x : Sys2Proof.Machine.Bank) : (s.setBank b x).bsKeys = s.bsKeys := rfl
@[simp] theorem State.setBank_th (s : State) (b : Nat) (x : Sys2Proof.Machine.Bank) : (s.setBank b x).th = s.th := rfl
@[simp] theorem State.setBank_stop (s : State) (b : Nat) (x : Sys2Proof.Machine.Bank) : (s.setBank b x).stop = s.stop := rfl
@[simp] theorem State.setBank_nv (s : State) (b : Nat) (x : Sys2Proof.Machine.Bank) : (s.setBank b x).nv = s.nv := rfl
@[simp] theorem State.setBank_wear (s : State) (b : Nat) (x : Sys2Proof.Machine.Bank) : (s.setBank b x).wear = s.wear := rfl
@[simp] theorem State.setBank_sec (s : State) (b : Nat) (x : Sys2Proof.Machine.Bank) : (s.setBank b x).sec = s.sec := rfl
@[simp] theorem State.setBank_pwr (s : State) (b : Nat) (x : Sys2Proof.Machine.Bank) : (s.setBank b x).pwr = s.pwr := rfl
@[simp] theorem State.setBank_pins (s : State) (b : Nat) (x : Sys2Proof.Machine.Bank) : (s.setBank b x).pins = s.pins := rfl
@[simp] theorem State.setBank_sal (s : State) (b : Nat) (x : Sys2Proof.Machine.Bank) : (s.setBank b x).sal = s.sal := rfl
@[simp] theorem State.setBank_pub (s : State) (b : Nat) (x : Sys2Proof.Machine.Bank) : (s.setBank b x).pub = s.pub := rfl
@[simp] theorem State.setBank_reg (s : State) (b : Nat) (x : Sys2Proof.Machine.Bank) : (s.setBank b x).reg = s.reg := rfl
@[simp] theorem State.setBank_freeCount (s : State) (b : Nat) (x : Sys2Proof.Machine.Bank) : (s.setBank b x).freeCount = s.freeCount := rfl
@[simp] theorem State.setBank_out (s : State) (b : Nat) (x : Sys2Proof.Machine.Bank) : (s.setBank b x).out = s.out := rfl
@[simp] theorem State.setBank_stalled (s : State) (b : Nat) (x : Sys2Proof.Machine.Bank) : (s.setBank b x).stalled = s.stalled := rfl
@[simp] theorem State.setBank_pending (s : State) (b : Nat) (x : Sys2Proof.Machine.Bank) : (s.setBank b x).pending = s.pending := rfl
@[simp] theorem State.setBank_mem_bytes (s : State) (b : Nat) (x : Sys2Proof.Machine.Bank) : (s.setBank b x).mem.bytes = s.mem.bytes := rfl
@[simp] theorem State.setBank_mem_checks (s : State) (b : Nat) (x : Sys2Proof.Machine.Bank) : (s.setBank b x).mem.checks = s.mem.checks := rfl
@[simp] theorem State.setBank_mem_written (s : State) (b : Nat) (x : Sys2Proof.Machine.Bank) : (s.setBank b x).mem.written = s.mem.written := rfl
@[simp] theorem State.setBank_mem_press (s : State) (b : Nat) (x : Sys2Proof.Machine.Bank) : (s.setBank b x).mem.press = s.mem.press := rfl
@[simp] theorem State.setBank_mem_word2 (s : State) (b : Nat) (x : Sys2Proof.Machine.Bank) : (s.setBank b x).mem.word2 = s.mem.word2 := rfl
@[simp] theorem State.setBank_mem_word4 (s : State) (b : Nat) (x : Sys2Proof.Machine.Bank) : (s.setBank b x).mem.word4 = s.mem.word4 := rfl
@[simp] theorem State.setBank_mem_channel (s : State) (b : Nat) (x : Sys2Proof.Machine.Bank) : (s.setBank b x).mem.channel = s.mem.channel := rfl
@[simp] theorem State.setBank_mem_atBank (s : State) (b : Nat) (x : Sys2Proof.Machine.Bank) : (s.setBank b x).mem.atBank = s.mem.atBank := rfl
@[simp] theorem State.setBank_mem_lastServed (s : State) (b : Nat) (x : Sys2Proof.Machine.Bank) : (s.setBank b x).mem.lastServed = s.mem.lastServed := rfl
@[simp] theorem State.setBank_mem_hostReads (s : State) (b : Nat) (x : Sys2Proof.Machine.Bank) : (s.setBank b x).mem.hostReads = s.mem.hostReads := rfl
@[simp] theorem State.setBank_mem_preg (s : State) (b : Nat) (x : Sys2Proof.Machine.Bank) : (s.setBank b x).mem.preg = s.mem.preg := rfl
@[simp] theorem State.setBank_mem_rotation (s : State) (b : Nat) (x : Sys2Proof.Machine.Bank) : (s.setBank b x).mem.rotation = s.mem.rotation := rfl
@[simp] theorem State.setBank_mem_age (s : State) (b : Nat) (x : Sys2Proof.Machine.Bank) : (s.setBank b x).mem.age = s.mem.age := rfl
@[simp] theorem State.setBank_mem_cycle (s : State) (b : Nat) (x : Sys2Proof.Machine.Bank) : (s.setBank b x).mem.cycle = s.mem.cycle := rfl
@[simp] theorem State.setBank_mem_repairs (s : State) (b : Nat) (x : Sys2Proof.Machine.Bank) : (s.setBank b x).mem.repairs = s.mem.repairs := rfl
@[simp] theorem State.setBank_mem_trackers (s : State) (b : Nat) (x : Sys2Proof.Machine.Bank) : (s.setBank b x).mem.trackers = s.mem.trackers := rfl
@[simp] theorem State.setBank_mem_barred (s : State) (b : Nat) (x : Sys2Proof.Machine.Bank) : (s.setBank b x).mem.barred = s.mem.barred := rfl
@[simp] theorem State.setBank_mem_sramBad (s : State) (b : Nat) (x : Sys2Proof.Machine.Bank) : (s.setBank b x).mem.sramBad = s.mem.sramBad := rfl
@[simp] theorem State.setBank_rd (s : State) (b : Nat) (x : Sys2Proof.Machine.Bank) (idx sub : Nat) : (s.setBank b x).rd idx sub = s.rd idx sub := rfl

@[simp] theorem State.setQueue_dev (s : State) (q : Nat) (x : Sys2Proof.Machine.Queue) : (s.setQueue q x).dev = s.dev := rfl
@[simp] theorem State.setQueue_jrn (s : State) (q : Nat) (x : Sys2Proof.Machine.Queue) : (s.setQueue q x).jrn = s.jrn := rfl
@[simp] theorem State.setQueue_panels (s : State) (q : Nat) (x : Sys2Proof.Machine.Queue) : (s.setQueue q x).panels = s.panels := rfl
@[simp] theorem State.setQueue_arrivals (s : State) (q : Nat) (x : Sys2Proof.Machine.Queue) : (s.setQueue q x).arrivals = s.arrivals := rfl
@[simp] theorem State.setQueue_links (s : State) (q : Nat) (x : Sys2Proof.Machine.Queue) : (s.setQueue q x).links = s.links := rfl
@[simp] theorem State.setQueue_mem (s : State) (q : Nat) (x : Sys2Proof.Machine.Queue) : (s.setQueue q x).mem = s.mem := rfl
@[simp] theorem State.setQueue_throttle (s : State) (q : Nat) (x : Sys2Proof.Machine.Queue) : (s.setQueue q x).throttle = s.throttle := rfl
@[simp] theorem State.setQueue_clkLost (s : State) (q : Nat) (x : Sys2Proof.Machine.Queue) : (s.setQueue q x).clkLost = s.clkLost := rfl
@[simp] theorem State.setQueue_memKept (s : State) (q : Nat) (x : Sys2Proof.Machine.Queue) : (s.setQueue q x).memKept = s.memKept := rfl
@[simp] theorem State.setQueue_lifecycle (s : State) (q : Nat) (x : Sys2Proof.Machine.Queue) : (s.setQueue q x).lifecycle = s.lifecycle := rfl
@[simp] theorem State.setQueue_warmRuns (s : State) (q : Nat) (x : Sys2Proof.Machine.Queue) : (s.setQueue q x).warmRuns = s.warmRuns := rfl
@[simp] theorem State.setQueue_ddr (s : State) (q : Nat) (x : Sys2Proof.Machine.Queue) : (s.setQueue q x).ddr = s.ddr := rfl
@[simp] theorem State.setQueue_dir (s : State) (q : Nat) (x : Sys2Proof.Machine.Queue) : (s.setQueue q x).dir = s.dir := rfl
@[simp] theorem State.setQueue_lanes (s : State) (q : Nat) (x : Sys2Proof.Machine.Queue) : (s.setQueue q x).lanes = s.lanes := rfl
@[simp] theorem State.setQueue_testLanes (s : State) (q : Nat) (x : Sys2Proof.Machine.Queue) : (s.setQueue q x).testLanes = s.testLanes := rfl
@[simp] theorem State.setQueue_bootFn (s : State) (q : Nat) (x : Sys2Proof.Machine.Queue) : (s.setQueue q x).bootFn = s.bootFn := rfl
@[simp] theorem State.setQueue_ld (s : State) (q : Nat) (x : Sys2Proof.Machine.Queue) : (s.setQueue q x).ld = s.ld := rfl
@[simp] theorem State.setQueue_st (s : State) (q : Nat) (x : Sys2Proof.Machine.Queue) : (s.setQueue q x).st = s.st := rfl
@[simp] theorem State.setQueue_shims (s : State) (q : Nat) (x : Sys2Proof.Machine.Queue) : (s.setQueue q x).shims = s.shims := rfl
@[simp] theorem State.setQueue_cfg (s : State) (q : Nat) (x : Sys2Proof.Machine.Queue) : (s.setQueue q x).cfg = s.cfg := rfl
@[simp] theorem State.setQueue_hdm (s : State) (q : Nat) (x : Sys2Proof.Machine.Queue) : (s.setQueue q x).hdm = s.hdm := rfl
@[simp] theorem State.setQueue_ras (s : State) (q : Nat) (x : Sys2Proof.Machine.Queue) : (s.setQueue q x).ras = s.ras := rfl
@[simp] theorem State.setQueue_block (s : State) (q : Nat) (x : Sys2Proof.Machine.Queue) : (s.setQueue q x).block = s.block := rfl
@[simp] theorem State.setQueue_errLog (s : State) (q : Nat) (x : Sys2Proof.Machine.Queue) : (s.setQueue q x).errLog = s.errLog := rfl
@[simp] theorem State.setQueue_ideKeys (s : State) (q : Nat) (x : Sys2Proof.Machine.Queue) : (s.setQueue q x).ideKeys = s.ideKeys := rfl
@[simp] theorem State.setQueue_bsKeys (s : State) (q : Nat) (x : Sys2Proof.Machine.Queue) : (s.setQueue q x).bsKeys = s.bsKeys := rfl
@[simp] theorem State.setQueue_th (s : State) (q : Nat) (x : Sys2Proof.Machine.Queue) : (s.setQueue q x).th = s.th := rfl
@[simp] theorem State.setQueue_stop (s : State) (q : Nat) (x : Sys2Proof.Machine.Queue) : (s.setQueue q x).stop = s.stop := rfl
@[simp] theorem State.setQueue_nv (s : State) (q : Nat) (x : Sys2Proof.Machine.Queue) : (s.setQueue q x).nv = s.nv := rfl
@[simp] theorem State.setQueue_wear (s : State) (q : Nat) (x : Sys2Proof.Machine.Queue) : (s.setQueue q x).wear = s.wear := rfl
@[simp] theorem State.setQueue_sec (s : State) (q : Nat) (x : Sys2Proof.Machine.Queue) : (s.setQueue q x).sec = s.sec := rfl
@[simp] theorem State.setQueue_pwr (s : State) (q : Nat) (x : Sys2Proof.Machine.Queue) : (s.setQueue q x).pwr = s.pwr := rfl
@[simp] theorem State.setQueue_pins (s : State) (q : Nat) (x : Sys2Proof.Machine.Queue) : (s.setQueue q x).pins = s.pins := rfl
@[simp] theorem State.setQueue_sal (s : State) (q : Nat) (x : Sys2Proof.Machine.Queue) : (s.setQueue q x).sal = s.sal := rfl
@[simp] theorem State.setQueue_pub (s : State) (q : Nat) (x : Sys2Proof.Machine.Queue) : (s.setQueue q x).pub = s.pub := rfl
@[simp] theorem State.setQueue_reg (s : State) (q : Nat) (x : Sys2Proof.Machine.Queue) : (s.setQueue q x).reg = s.reg := rfl
@[simp] theorem State.setQueue_freeCount (s : State) (q : Nat) (x : Sys2Proof.Machine.Queue) : (s.setQueue q x).freeCount = s.freeCount := rfl
@[simp] theorem State.setQueue_out (s : State) (q : Nat) (x : Sys2Proof.Machine.Queue) : (s.setQueue q x).out = s.out := rfl
@[simp] theorem State.setQueue_stalled (s : State) (q : Nat) (x : Sys2Proof.Machine.Queue) : (s.setQueue q x).stalled = s.stalled := rfl
@[simp] theorem State.setQueue_pending (s : State) (q : Nat) (x : Sys2Proof.Machine.Queue) : (s.setQueue q x).pending = s.pending := rfl
@[simp] theorem State.setQueue_rd (s : State) (q : Nat) (x : Sys2Proof.Machine.Queue) (idx sub : Nat) : (s.setQueue q x).rd idx sub = s.rd idx sub := rfl

@[simp] theorem State.setCellLink_dev (s : State) (c : Nat) (x : Sys2Proof.Machine.CellLink) : (s.setCellLink c x).dev = s.dev := rfl
@[simp] theorem State.setCellLink_jrn (s : State) (c : Nat) (x : Sys2Proof.Machine.CellLink) : (s.setCellLink c x).jrn = s.jrn := rfl
@[simp] theorem State.setCellLink_panels (s : State) (c : Nat) (x : Sys2Proof.Machine.CellLink) : (s.setCellLink c x).panels = s.panels := rfl
@[simp] theorem State.setCellLink_arrivals (s : State) (c : Nat) (x : Sys2Proof.Machine.CellLink) : (s.setCellLink c x).arrivals = s.arrivals := rfl
@[simp] theorem State.setCellLink_links (s : State) (c : Nat) (x : Sys2Proof.Machine.CellLink) : (s.setCellLink c x).links = s.links := rfl
@[simp] theorem State.setCellLink_mem (s : State) (c : Nat) (x : Sys2Proof.Machine.CellLink) : (s.setCellLink c x).mem = s.mem := rfl
@[simp] theorem State.setCellLink_throttle (s : State) (c : Nat) (x : Sys2Proof.Machine.CellLink) : (s.setCellLink c x).throttle = s.throttle := rfl
@[simp] theorem State.setCellLink_clkLost (s : State) (c : Nat) (x : Sys2Proof.Machine.CellLink) : (s.setCellLink c x).clkLost = s.clkLost := rfl
@[simp] theorem State.setCellLink_memKept (s : State) (c : Nat) (x : Sys2Proof.Machine.CellLink) : (s.setCellLink c x).memKept = s.memKept := rfl
@[simp] theorem State.setCellLink_lifecycle (s : State) (c : Nat) (x : Sys2Proof.Machine.CellLink) : (s.setCellLink c x).lifecycle = s.lifecycle := rfl
@[simp] theorem State.setCellLink_warmRuns (s : State) (c : Nat) (x : Sys2Proof.Machine.CellLink) : (s.setCellLink c x).warmRuns = s.warmRuns := rfl
@[simp] theorem State.setCellLink_ddr (s : State) (c : Nat) (x : Sys2Proof.Machine.CellLink) : (s.setCellLink c x).ddr = s.ddr := rfl
@[simp] theorem State.setCellLink_dir (s : State) (c : Nat) (x : Sys2Proof.Machine.CellLink) : (s.setCellLink c x).dir = s.dir := rfl
@[simp] theorem State.setCellLink_lanes (s : State) (c : Nat) (x : Sys2Proof.Machine.CellLink) : (s.setCellLink c x).lanes = s.lanes := rfl
@[simp] theorem State.setCellLink_testLanes (s : State) (c : Nat) (x : Sys2Proof.Machine.CellLink) : (s.setCellLink c x).testLanes = s.testLanes := rfl
@[simp] theorem State.setCellLink_bootFn (s : State) (c : Nat) (x : Sys2Proof.Machine.CellLink) : (s.setCellLink c x).bootFn = s.bootFn := rfl
@[simp] theorem State.setCellLink_ld (s : State) (c : Nat) (x : Sys2Proof.Machine.CellLink) : (s.setCellLink c x).ld = s.ld := rfl
@[simp] theorem State.setCellLink_st (s : State) (c : Nat) (x : Sys2Proof.Machine.CellLink) : (s.setCellLink c x).st = s.st := rfl
@[simp] theorem State.setCellLink_shims (s : State) (c : Nat) (x : Sys2Proof.Machine.CellLink) : (s.setCellLink c x).shims = s.shims := rfl
@[simp] theorem State.setCellLink_cfg (s : State) (c : Nat) (x : Sys2Proof.Machine.CellLink) : (s.setCellLink c x).cfg = s.cfg := rfl
@[simp] theorem State.setCellLink_hdm (s : State) (c : Nat) (x : Sys2Proof.Machine.CellLink) : (s.setCellLink c x).hdm = s.hdm := rfl
@[simp] theorem State.setCellLink_ras (s : State) (c : Nat) (x : Sys2Proof.Machine.CellLink) : (s.setCellLink c x).ras = s.ras := rfl
@[simp] theorem State.setCellLink_block (s : State) (c : Nat) (x : Sys2Proof.Machine.CellLink) : (s.setCellLink c x).block = s.block := rfl
@[simp] theorem State.setCellLink_errLog (s : State) (c : Nat) (x : Sys2Proof.Machine.CellLink) : (s.setCellLink c x).errLog = s.errLog := rfl
@[simp] theorem State.setCellLink_ideKeys (s : State) (c : Nat) (x : Sys2Proof.Machine.CellLink) : (s.setCellLink c x).ideKeys = s.ideKeys := rfl
@[simp] theorem State.setCellLink_bsKeys (s : State) (c : Nat) (x : Sys2Proof.Machine.CellLink) : (s.setCellLink c x).bsKeys = s.bsKeys := rfl
@[simp] theorem State.setCellLink_th (s : State) (c : Nat) (x : Sys2Proof.Machine.CellLink) : (s.setCellLink c x).th = s.th := rfl
@[simp] theorem State.setCellLink_stop (s : State) (c : Nat) (x : Sys2Proof.Machine.CellLink) : (s.setCellLink c x).stop = s.stop := rfl
@[simp] theorem State.setCellLink_nv (s : State) (c : Nat) (x : Sys2Proof.Machine.CellLink) : (s.setCellLink c x).nv = s.nv := rfl
@[simp] theorem State.setCellLink_wear (s : State) (c : Nat) (x : Sys2Proof.Machine.CellLink) : (s.setCellLink c x).wear = s.wear := rfl
@[simp] theorem State.setCellLink_sec (s : State) (c : Nat) (x : Sys2Proof.Machine.CellLink) : (s.setCellLink c x).sec = s.sec := rfl
@[simp] theorem State.setCellLink_pwr (s : State) (c : Nat) (x : Sys2Proof.Machine.CellLink) : (s.setCellLink c x).pwr = s.pwr := rfl
@[simp] theorem State.setCellLink_pins (s : State) (c : Nat) (x : Sys2Proof.Machine.CellLink) : (s.setCellLink c x).pins = s.pins := rfl
@[simp] theorem State.setCellLink_sal (s : State) (c : Nat) (x : Sys2Proof.Machine.CellLink) : (s.setCellLink c x).sal = s.sal := rfl
@[simp] theorem State.setCellLink_pub (s : State) (c : Nat) (x : Sys2Proof.Machine.CellLink) : (s.setCellLink c x).pub = s.pub := rfl
@[simp] theorem State.setCellLink_reg (s : State) (c : Nat) (x : Sys2Proof.Machine.CellLink) : (s.setCellLink c x).reg = s.reg := rfl
@[simp] theorem State.setCellLink_freeCount (s : State) (c : Nat) (x : Sys2Proof.Machine.CellLink) : (s.setCellLink c x).freeCount = s.freeCount := rfl
@[simp] theorem State.setCellLink_out (s : State) (c : Nat) (x : Sys2Proof.Machine.CellLink) : (s.setCellLink c x).out = s.out := rfl
@[simp] theorem State.setCellLink_stalled (s : State) (c : Nat) (x : Sys2Proof.Machine.CellLink) : (s.setCellLink c x).stalled = s.stalled := rfl
@[simp] theorem State.setCellLink_pending (s : State) (c : Nat) (x : Sys2Proof.Machine.CellLink) : (s.setCellLink c x).pending = s.pending := rfl
@[simp] theorem State.setCellLink_rd (s : State) (c : Nat) (x : Sys2Proof.Machine.CellLink) (idx sub : Nat) : (s.setCellLink c x).rd idx sub = s.rd idx sub := rfl

@[simp] theorem State.setVector_dev (s : State) (v : Nat) (x : Sys2Proof.Machine.IntVector) : (s.setVector v x).dev = s.dev := rfl
@[simp] theorem State.setVector_jrn (s : State) (v : Nat) (x : Sys2Proof.Machine.IntVector) : (s.setVector v x).jrn = s.jrn := rfl
@[simp] theorem State.setVector_panels (s : State) (v : Nat) (x : Sys2Proof.Machine.IntVector) : (s.setVector v x).panels = s.panels := rfl
@[simp] theorem State.setVector_arrivals (s : State) (v : Nat) (x : Sys2Proof.Machine.IntVector) : (s.setVector v x).arrivals = s.arrivals := rfl
@[simp] theorem State.setVector_links (s : State) (v : Nat) (x : Sys2Proof.Machine.IntVector) : (s.setVector v x).links = s.links := rfl
@[simp] theorem State.setVector_mem (s : State) (v : Nat) (x : Sys2Proof.Machine.IntVector) : (s.setVector v x).mem = s.mem := rfl
@[simp] theorem State.setVector_throttle (s : State) (v : Nat) (x : Sys2Proof.Machine.IntVector) : (s.setVector v x).throttle = s.throttle := rfl
@[simp] theorem State.setVector_clkLost (s : State) (v : Nat) (x : Sys2Proof.Machine.IntVector) : (s.setVector v x).clkLost = s.clkLost := rfl
@[simp] theorem State.setVector_memKept (s : State) (v : Nat) (x : Sys2Proof.Machine.IntVector) : (s.setVector v x).memKept = s.memKept := rfl
@[simp] theorem State.setVector_lifecycle (s : State) (v : Nat) (x : Sys2Proof.Machine.IntVector) : (s.setVector v x).lifecycle = s.lifecycle := rfl
@[simp] theorem State.setVector_warmRuns (s : State) (v : Nat) (x : Sys2Proof.Machine.IntVector) : (s.setVector v x).warmRuns = s.warmRuns := rfl
@[simp] theorem State.setVector_ddr (s : State) (v : Nat) (x : Sys2Proof.Machine.IntVector) : (s.setVector v x).ddr = s.ddr := rfl
@[simp] theorem State.setVector_dir (s : State) (v : Nat) (x : Sys2Proof.Machine.IntVector) : (s.setVector v x).dir = s.dir := rfl
@[simp] theorem State.setVector_lanes (s : State) (v : Nat) (x : Sys2Proof.Machine.IntVector) : (s.setVector v x).lanes = s.lanes := rfl
@[simp] theorem State.setVector_testLanes (s : State) (v : Nat) (x : Sys2Proof.Machine.IntVector) : (s.setVector v x).testLanes = s.testLanes := rfl
@[simp] theorem State.setVector_bootFn (s : State) (v : Nat) (x : Sys2Proof.Machine.IntVector) : (s.setVector v x).bootFn = s.bootFn := rfl
@[simp] theorem State.setVector_ld (s : State) (v : Nat) (x : Sys2Proof.Machine.IntVector) : (s.setVector v x).ld = s.ld := rfl
@[simp] theorem State.setVector_st (s : State) (v : Nat) (x : Sys2Proof.Machine.IntVector) : (s.setVector v x).st = s.st := rfl
@[simp] theorem State.setVector_shims (s : State) (v : Nat) (x : Sys2Proof.Machine.IntVector) : (s.setVector v x).shims = s.shims := rfl
@[simp] theorem State.setVector_cfg (s : State) (v : Nat) (x : Sys2Proof.Machine.IntVector) : (s.setVector v x).cfg = s.cfg := rfl
@[simp] theorem State.setVector_hdm (s : State) (v : Nat) (x : Sys2Proof.Machine.IntVector) : (s.setVector v x).hdm = s.hdm := rfl
@[simp] theorem State.setVector_ras (s : State) (v : Nat) (x : Sys2Proof.Machine.IntVector) : (s.setVector v x).ras = s.ras := rfl
@[simp] theorem State.setVector_block (s : State) (v : Nat) (x : Sys2Proof.Machine.IntVector) : (s.setVector v x).block = s.block := rfl
@[simp] theorem State.setVector_errLog (s : State) (v : Nat) (x : Sys2Proof.Machine.IntVector) : (s.setVector v x).errLog = s.errLog := rfl
@[simp] theorem State.setVector_ideKeys (s : State) (v : Nat) (x : Sys2Proof.Machine.IntVector) : (s.setVector v x).ideKeys = s.ideKeys := rfl
@[simp] theorem State.setVector_bsKeys (s : State) (v : Nat) (x : Sys2Proof.Machine.IntVector) : (s.setVector v x).bsKeys = s.bsKeys := rfl
@[simp] theorem State.setVector_th (s : State) (v : Nat) (x : Sys2Proof.Machine.IntVector) : (s.setVector v x).th = s.th := rfl
@[simp] theorem State.setVector_stop (s : State) (v : Nat) (x : Sys2Proof.Machine.IntVector) : (s.setVector v x).stop = s.stop := rfl
@[simp] theorem State.setVector_nv (s : State) (v : Nat) (x : Sys2Proof.Machine.IntVector) : (s.setVector v x).nv = s.nv := rfl
@[simp] theorem State.setVector_wear (s : State) (v : Nat) (x : Sys2Proof.Machine.IntVector) : (s.setVector v x).wear = s.wear := rfl
@[simp] theorem State.setVector_sec (s : State) (v : Nat) (x : Sys2Proof.Machine.IntVector) : (s.setVector v x).sec = s.sec := rfl
@[simp] theorem State.setVector_pwr (s : State) (v : Nat) (x : Sys2Proof.Machine.IntVector) : (s.setVector v x).pwr = s.pwr := rfl
@[simp] theorem State.setVector_pins (s : State) (v : Nat) (x : Sys2Proof.Machine.IntVector) : (s.setVector v x).pins = s.pins := rfl
@[simp] theorem State.setVector_sal (s : State) (v : Nat) (x : Sys2Proof.Machine.IntVector) : (s.setVector v x).sal = s.sal := rfl
@[simp] theorem State.setVector_pub (s : State) (v : Nat) (x : Sys2Proof.Machine.IntVector) : (s.setVector v x).pub = s.pub := rfl
@[simp] theorem State.setVector_reg (s : State) (v : Nat) (x : Sys2Proof.Machine.IntVector) : (s.setVector v x).reg = s.reg := rfl
@[simp] theorem State.setVector_freeCount (s : State) (v : Nat) (x : Sys2Proof.Machine.IntVector) : (s.setVector v x).freeCount = s.freeCount := rfl
@[simp] theorem State.setVector_out (s : State) (v : Nat) (x : Sys2Proof.Machine.IntVector) : (s.setVector v x).out = s.out := rfl
@[simp] theorem State.setVector_stalled (s : State) (v : Nat) (x : Sys2Proof.Machine.IntVector) : (s.setVector v x).stalled = s.stalled := rfl
@[simp] theorem State.setVector_pending (s : State) (v : Nat) (x : Sys2Proof.Machine.IntVector) : (s.setVector v x).pending = s.pending := rfl
@[simp] theorem State.setVector_rd (s : State) (v : Nat) (x : Sys2Proof.Machine.IntVector) (idx sub : Nat) : (s.setVector v x).rd idx sub = s.rd idx sub := rfl

@[simp] theorem State.setPanelEnq_dev (s : State) (p : Nat) (x : Option Sys2Proof.Machine.PanelEnq) : (s.setPanelEnq p x).dev = s.dev := rfl
@[simp] theorem State.setPanelEnq_jrn (s : State) (p : Nat) (x : Option Sys2Proof.Machine.PanelEnq) : (s.setPanelEnq p x).jrn = s.jrn := rfl
@[simp] theorem State.setPanelEnq_panels (s : State) (p : Nat) (x : Option Sys2Proof.Machine.PanelEnq) : (s.setPanelEnq p x).panels = s.panels := rfl
@[simp] theorem State.setPanelEnq_arrivals (s : State) (p : Nat) (x : Option Sys2Proof.Machine.PanelEnq) : (s.setPanelEnq p x).arrivals = s.arrivals := rfl
@[simp] theorem State.setPanelEnq_links (s : State) (p : Nat) (x : Option Sys2Proof.Machine.PanelEnq) : (s.setPanelEnq p x).links = s.links := rfl
@[simp] theorem State.setPanelEnq_mem (s : State) (p : Nat) (x : Option Sys2Proof.Machine.PanelEnq) : (s.setPanelEnq p x).mem = s.mem := rfl
@[simp] theorem State.setPanelEnq_throttle (s : State) (p : Nat) (x : Option Sys2Proof.Machine.PanelEnq) : (s.setPanelEnq p x).throttle = s.throttle := rfl
@[simp] theorem State.setPanelEnq_clkLost (s : State) (p : Nat) (x : Option Sys2Proof.Machine.PanelEnq) : (s.setPanelEnq p x).clkLost = s.clkLost := rfl
@[simp] theorem State.setPanelEnq_memKept (s : State) (p : Nat) (x : Option Sys2Proof.Machine.PanelEnq) : (s.setPanelEnq p x).memKept = s.memKept := rfl
@[simp] theorem State.setPanelEnq_lifecycle (s : State) (p : Nat) (x : Option Sys2Proof.Machine.PanelEnq) : (s.setPanelEnq p x).lifecycle = s.lifecycle := rfl
@[simp] theorem State.setPanelEnq_warmRuns (s : State) (p : Nat) (x : Option Sys2Proof.Machine.PanelEnq) : (s.setPanelEnq p x).warmRuns = s.warmRuns := rfl
@[simp] theorem State.setPanelEnq_ddr (s : State) (p : Nat) (x : Option Sys2Proof.Machine.PanelEnq) : (s.setPanelEnq p x).ddr = s.ddr := rfl
@[simp] theorem State.setPanelEnq_dir (s : State) (p : Nat) (x : Option Sys2Proof.Machine.PanelEnq) : (s.setPanelEnq p x).dir = s.dir := rfl
@[simp] theorem State.setPanelEnq_lanes (s : State) (p : Nat) (x : Option Sys2Proof.Machine.PanelEnq) : (s.setPanelEnq p x).lanes = s.lanes := rfl
@[simp] theorem State.setPanelEnq_testLanes (s : State) (p : Nat) (x : Option Sys2Proof.Machine.PanelEnq) : (s.setPanelEnq p x).testLanes = s.testLanes := rfl
@[simp] theorem State.setPanelEnq_bootFn (s : State) (p : Nat) (x : Option Sys2Proof.Machine.PanelEnq) : (s.setPanelEnq p x).bootFn = s.bootFn := rfl
@[simp] theorem State.setPanelEnq_ld (s : State) (p : Nat) (x : Option Sys2Proof.Machine.PanelEnq) : (s.setPanelEnq p x).ld = s.ld := rfl
@[simp] theorem State.setPanelEnq_st (s : State) (p : Nat) (x : Option Sys2Proof.Machine.PanelEnq) : (s.setPanelEnq p x).st = s.st := rfl
@[simp] theorem State.setPanelEnq_shims (s : State) (p : Nat) (x : Option Sys2Proof.Machine.PanelEnq) : (s.setPanelEnq p x).shims = s.shims := rfl
@[simp] theorem State.setPanelEnq_cfg (s : State) (p : Nat) (x : Option Sys2Proof.Machine.PanelEnq) : (s.setPanelEnq p x).cfg = s.cfg := rfl
@[simp] theorem State.setPanelEnq_hdm (s : State) (p : Nat) (x : Option Sys2Proof.Machine.PanelEnq) : (s.setPanelEnq p x).hdm = s.hdm := rfl
@[simp] theorem State.setPanelEnq_ras (s : State) (p : Nat) (x : Option Sys2Proof.Machine.PanelEnq) : (s.setPanelEnq p x).ras = s.ras := rfl
@[simp] theorem State.setPanelEnq_block (s : State) (p : Nat) (x : Option Sys2Proof.Machine.PanelEnq) : (s.setPanelEnq p x).block = s.block := rfl
@[simp] theorem State.setPanelEnq_errLog (s : State) (p : Nat) (x : Option Sys2Proof.Machine.PanelEnq) : (s.setPanelEnq p x).errLog = s.errLog := rfl
@[simp] theorem State.setPanelEnq_ideKeys (s : State) (p : Nat) (x : Option Sys2Proof.Machine.PanelEnq) : (s.setPanelEnq p x).ideKeys = s.ideKeys := rfl
@[simp] theorem State.setPanelEnq_bsKeys (s : State) (p : Nat) (x : Option Sys2Proof.Machine.PanelEnq) : (s.setPanelEnq p x).bsKeys = s.bsKeys := rfl
@[simp] theorem State.setPanelEnq_th (s : State) (p : Nat) (x : Option Sys2Proof.Machine.PanelEnq) : (s.setPanelEnq p x).th = s.th := rfl
@[simp] theorem State.setPanelEnq_stop (s : State) (p : Nat) (x : Option Sys2Proof.Machine.PanelEnq) : (s.setPanelEnq p x).stop = s.stop := rfl
@[simp] theorem State.setPanelEnq_nv (s : State) (p : Nat) (x : Option Sys2Proof.Machine.PanelEnq) : (s.setPanelEnq p x).nv = s.nv := rfl
@[simp] theorem State.setPanelEnq_wear (s : State) (p : Nat) (x : Option Sys2Proof.Machine.PanelEnq) : (s.setPanelEnq p x).wear = s.wear := rfl
@[simp] theorem State.setPanelEnq_sec (s : State) (p : Nat) (x : Option Sys2Proof.Machine.PanelEnq) : (s.setPanelEnq p x).sec = s.sec := rfl
@[simp] theorem State.setPanelEnq_pwr (s : State) (p : Nat) (x : Option Sys2Proof.Machine.PanelEnq) : (s.setPanelEnq p x).pwr = s.pwr := rfl
@[simp] theorem State.setPanelEnq_pins (s : State) (p : Nat) (x : Option Sys2Proof.Machine.PanelEnq) : (s.setPanelEnq p x).pins = s.pins := rfl
@[simp] theorem State.setPanelEnq_sal (s : State) (p : Nat) (x : Option Sys2Proof.Machine.PanelEnq) : (s.setPanelEnq p x).sal = s.sal := rfl
@[simp] theorem State.setPanelEnq_pub (s : State) (p : Nat) (x : Option Sys2Proof.Machine.PanelEnq) : (s.setPanelEnq p x).pub = s.pub := rfl
@[simp] theorem State.setPanelEnq_reg (s : State) (p : Nat) (x : Option Sys2Proof.Machine.PanelEnq) : (s.setPanelEnq p x).reg = s.reg := rfl
@[simp] theorem State.setPanelEnq_freeCount (s : State) (p : Nat) (x : Option Sys2Proof.Machine.PanelEnq) : (s.setPanelEnq p x).freeCount = s.freeCount := rfl
@[simp] theorem State.setPanelEnq_out (s : State) (p : Nat) (x : Option Sys2Proof.Machine.PanelEnq) : (s.setPanelEnq p x).out = s.out := rfl
@[simp] theorem State.setPanelEnq_stalled (s : State) (p : Nat) (x : Option Sys2Proof.Machine.PanelEnq) : (s.setPanelEnq p x).stalled = s.stalled := rfl
@[simp] theorem State.setPanelEnq_pending (s : State) (p : Nat) (x : Option Sys2Proof.Machine.PanelEnq) : (s.setPanelEnq p x).pending = s.pending := rfl
@[simp] theorem State.setPanelEnq_rd (s : State) (p : Nat) (x : Option Sys2Proof.Machine.PanelEnq) (idx sub : Nat) : (s.setPanelEnq p x).rd idx sub = s.rd idx sub := rfl

@[simp] theorem State.setPanelDeq_dev (s : State) (p : Nat) (q : Option Nat) : (s.setPanelDeq p q).dev = s.dev := rfl
@[simp] theorem State.setPanelDeq_jrn (s : State) (p : Nat) (q : Option Nat) : (s.setPanelDeq p q).jrn = s.jrn := rfl
@[simp] theorem State.setPanelDeq_panels (s : State) (p : Nat) (q : Option Nat) : (s.setPanelDeq p q).panels = s.panels := rfl
@[simp] theorem State.setPanelDeq_arrivals (s : State) (p : Nat) (q : Option Nat) : (s.setPanelDeq p q).arrivals = s.arrivals := rfl
@[simp] theorem State.setPanelDeq_links (s : State) (p : Nat) (q : Option Nat) : (s.setPanelDeq p q).links = s.links := rfl
@[simp] theorem State.setPanelDeq_mem (s : State) (p : Nat) (q : Option Nat) : (s.setPanelDeq p q).mem = s.mem := rfl
@[simp] theorem State.setPanelDeq_throttle (s : State) (p : Nat) (q : Option Nat) : (s.setPanelDeq p q).throttle = s.throttle := rfl
@[simp] theorem State.setPanelDeq_clkLost (s : State) (p : Nat) (q : Option Nat) : (s.setPanelDeq p q).clkLost = s.clkLost := rfl
@[simp] theorem State.setPanelDeq_memKept (s : State) (p : Nat) (q : Option Nat) : (s.setPanelDeq p q).memKept = s.memKept := rfl
@[simp] theorem State.setPanelDeq_lifecycle (s : State) (p : Nat) (q : Option Nat) : (s.setPanelDeq p q).lifecycle = s.lifecycle := rfl
@[simp] theorem State.setPanelDeq_warmRuns (s : State) (p : Nat) (q : Option Nat) : (s.setPanelDeq p q).warmRuns = s.warmRuns := rfl
@[simp] theorem State.setPanelDeq_ddr (s : State) (p : Nat) (q : Option Nat) : (s.setPanelDeq p q).ddr = s.ddr := rfl
@[simp] theorem State.setPanelDeq_dir (s : State) (p : Nat) (q : Option Nat) : (s.setPanelDeq p q).dir = s.dir := rfl
@[simp] theorem State.setPanelDeq_lanes (s : State) (p : Nat) (q : Option Nat) : (s.setPanelDeq p q).lanes = s.lanes := rfl
@[simp] theorem State.setPanelDeq_testLanes (s : State) (p : Nat) (q : Option Nat) : (s.setPanelDeq p q).testLanes = s.testLanes := rfl
@[simp] theorem State.setPanelDeq_bootFn (s : State) (p : Nat) (q : Option Nat) : (s.setPanelDeq p q).bootFn = s.bootFn := rfl
@[simp] theorem State.setPanelDeq_ld (s : State) (p : Nat) (q : Option Nat) : (s.setPanelDeq p q).ld = s.ld := rfl
@[simp] theorem State.setPanelDeq_st (s : State) (p : Nat) (q : Option Nat) : (s.setPanelDeq p q).st = s.st := rfl
@[simp] theorem State.setPanelDeq_shims (s : State) (p : Nat) (q : Option Nat) : (s.setPanelDeq p q).shims = s.shims := rfl
@[simp] theorem State.setPanelDeq_cfg (s : State) (p : Nat) (q : Option Nat) : (s.setPanelDeq p q).cfg = s.cfg := rfl
@[simp] theorem State.setPanelDeq_hdm (s : State) (p : Nat) (q : Option Nat) : (s.setPanelDeq p q).hdm = s.hdm := rfl
@[simp] theorem State.setPanelDeq_ras (s : State) (p : Nat) (q : Option Nat) : (s.setPanelDeq p q).ras = s.ras := rfl
@[simp] theorem State.setPanelDeq_block (s : State) (p : Nat) (q : Option Nat) : (s.setPanelDeq p q).block = s.block := rfl
@[simp] theorem State.setPanelDeq_errLog (s : State) (p : Nat) (q : Option Nat) : (s.setPanelDeq p q).errLog = s.errLog := rfl
@[simp] theorem State.setPanelDeq_ideKeys (s : State) (p : Nat) (q : Option Nat) : (s.setPanelDeq p q).ideKeys = s.ideKeys := rfl
@[simp] theorem State.setPanelDeq_bsKeys (s : State) (p : Nat) (q : Option Nat) : (s.setPanelDeq p q).bsKeys = s.bsKeys := rfl
@[simp] theorem State.setPanelDeq_th (s : State) (p : Nat) (q : Option Nat) : (s.setPanelDeq p q).th = s.th := rfl
@[simp] theorem State.setPanelDeq_stop (s : State) (p : Nat) (q : Option Nat) : (s.setPanelDeq p q).stop = s.stop := rfl
@[simp] theorem State.setPanelDeq_nv (s : State) (p : Nat) (q : Option Nat) : (s.setPanelDeq p q).nv = s.nv := rfl
@[simp] theorem State.setPanelDeq_wear (s : State) (p : Nat) (q : Option Nat) : (s.setPanelDeq p q).wear = s.wear := rfl
@[simp] theorem State.setPanelDeq_sec (s : State) (p : Nat) (q : Option Nat) : (s.setPanelDeq p q).sec = s.sec := rfl
@[simp] theorem State.setPanelDeq_pwr (s : State) (p : Nat) (q : Option Nat) : (s.setPanelDeq p q).pwr = s.pwr := rfl
@[simp] theorem State.setPanelDeq_pins (s : State) (p : Nat) (q : Option Nat) : (s.setPanelDeq p q).pins = s.pins := rfl
@[simp] theorem State.setPanelDeq_sal (s : State) (p : Nat) (q : Option Nat) : (s.setPanelDeq p q).sal = s.sal := rfl
@[simp] theorem State.setPanelDeq_pub (s : State) (p : Nat) (q : Option Nat) : (s.setPanelDeq p q).pub = s.pub := rfl
@[simp] theorem State.setPanelDeq_reg (s : State) (p : Nat) (q : Option Nat) : (s.setPanelDeq p q).reg = s.reg := rfl
@[simp] theorem State.setPanelDeq_freeCount (s : State) (p : Nat) (q : Option Nat) : (s.setPanelDeq p q).freeCount = s.freeCount := rfl
@[simp] theorem State.setPanelDeq_out (s : State) (p : Nat) (q : Option Nat) : (s.setPanelDeq p q).out = s.out := rfl
@[simp] theorem State.setPanelDeq_stalled (s : State) (p : Nat) (q : Option Nat) : (s.setPanelDeq p q).stalled = s.stalled := rfl
@[simp] theorem State.setPanelDeq_pending (s : State) (p : Nat) (q : Option Nat) : (s.setPanelDeq p q).pending = s.pending := rfl
@[simp] theorem State.setPanelDeq_rd (s : State) (p : Nat) (q : Option Nat) (idx sub : Nat) : (s.setPanelDeq p q).rd idx sub = s.rd idx sub := rfl

@[simp] theorem State.setMover_dev (s : State) (m : Nat) (x : Sys2Proof.Machine.Mover) : (s.setMover m x).dev = s.dev := rfl
@[simp] theorem State.setMover_jrn (s : State) (m : Nat) (x : Sys2Proof.Machine.Mover) : (s.setMover m x).jrn = s.jrn := rfl
@[simp] theorem State.setMover_panels (s : State) (m : Nat) (x : Sys2Proof.Machine.Mover) : (s.setMover m x).panels = s.panels := rfl
@[simp] theorem State.setMover_arrivals (s : State) (m : Nat) (x : Sys2Proof.Machine.Mover) : (s.setMover m x).arrivals = s.arrivals := rfl
@[simp] theorem State.setMover_links (s : State) (m : Nat) (x : Sys2Proof.Machine.Mover) : (s.setMover m x).links = s.links := rfl
@[simp] theorem State.setMover_mem (s : State) (m : Nat) (x : Sys2Proof.Machine.Mover) : (s.setMover m x).mem = s.mem := rfl
@[simp] theorem State.setMover_throttle (s : State) (m : Nat) (x : Sys2Proof.Machine.Mover) : (s.setMover m x).throttle = s.throttle := rfl
@[simp] theorem State.setMover_clkLost (s : State) (m : Nat) (x : Sys2Proof.Machine.Mover) : (s.setMover m x).clkLost = s.clkLost := rfl
@[simp] theorem State.setMover_memKept (s : State) (m : Nat) (x : Sys2Proof.Machine.Mover) : (s.setMover m x).memKept = s.memKept := rfl
@[simp] theorem State.setMover_lifecycle (s : State) (m : Nat) (x : Sys2Proof.Machine.Mover) : (s.setMover m x).lifecycle = s.lifecycle := rfl
@[simp] theorem State.setMover_warmRuns (s : State) (m : Nat) (x : Sys2Proof.Machine.Mover) : (s.setMover m x).warmRuns = s.warmRuns := rfl
@[simp] theorem State.setMover_ddr (s : State) (m : Nat) (x : Sys2Proof.Machine.Mover) : (s.setMover m x).ddr = s.ddr := rfl
@[simp] theorem State.setMover_dir (s : State) (m : Nat) (x : Sys2Proof.Machine.Mover) : (s.setMover m x).dir = s.dir := rfl
@[simp] theorem State.setMover_lanes (s : State) (m : Nat) (x : Sys2Proof.Machine.Mover) : (s.setMover m x).lanes = s.lanes := rfl
@[simp] theorem State.setMover_testLanes (s : State) (m : Nat) (x : Sys2Proof.Machine.Mover) : (s.setMover m x).testLanes = s.testLanes := rfl
@[simp] theorem State.setMover_bootFn (s : State) (m : Nat) (x : Sys2Proof.Machine.Mover) : (s.setMover m x).bootFn = s.bootFn := rfl
@[simp] theorem State.setMover_ld (s : State) (m : Nat) (x : Sys2Proof.Machine.Mover) : (s.setMover m x).ld = s.ld := rfl
@[simp] theorem State.setMover_st (s : State) (m : Nat) (x : Sys2Proof.Machine.Mover) : (s.setMover m x).st = s.st := rfl
@[simp] theorem State.setMover_shims (s : State) (m : Nat) (x : Sys2Proof.Machine.Mover) : (s.setMover m x).shims = s.shims := rfl
@[simp] theorem State.setMover_cfg (s : State) (m : Nat) (x : Sys2Proof.Machine.Mover) : (s.setMover m x).cfg = s.cfg := rfl
@[simp] theorem State.setMover_hdm (s : State) (m : Nat) (x : Sys2Proof.Machine.Mover) : (s.setMover m x).hdm = s.hdm := rfl
@[simp] theorem State.setMover_ras (s : State) (m : Nat) (x : Sys2Proof.Machine.Mover) : (s.setMover m x).ras = s.ras := rfl
@[simp] theorem State.setMover_block (s : State) (m : Nat) (x : Sys2Proof.Machine.Mover) : (s.setMover m x).block = s.block := rfl
@[simp] theorem State.setMover_errLog (s : State) (m : Nat) (x : Sys2Proof.Machine.Mover) : (s.setMover m x).errLog = s.errLog := rfl
@[simp] theorem State.setMover_ideKeys (s : State) (m : Nat) (x : Sys2Proof.Machine.Mover) : (s.setMover m x).ideKeys = s.ideKeys := rfl
@[simp] theorem State.setMover_bsKeys (s : State) (m : Nat) (x : Sys2Proof.Machine.Mover) : (s.setMover m x).bsKeys = s.bsKeys := rfl
@[simp] theorem State.setMover_th (s : State) (m : Nat) (x : Sys2Proof.Machine.Mover) : (s.setMover m x).th = s.th := rfl
@[simp] theorem State.setMover_stop (s : State) (m : Nat) (x : Sys2Proof.Machine.Mover) : (s.setMover m x).stop = s.stop := rfl
@[simp] theorem State.setMover_nv (s : State) (m : Nat) (x : Sys2Proof.Machine.Mover) : (s.setMover m x).nv = s.nv := rfl
@[simp] theorem State.setMover_wear (s : State) (m : Nat) (x : Sys2Proof.Machine.Mover) : (s.setMover m x).wear = s.wear := rfl
@[simp] theorem State.setMover_sec (s : State) (m : Nat) (x : Sys2Proof.Machine.Mover) : (s.setMover m x).sec = s.sec := rfl
@[simp] theorem State.setMover_pwr (s : State) (m : Nat) (x : Sys2Proof.Machine.Mover) : (s.setMover m x).pwr = s.pwr := rfl
@[simp] theorem State.setMover_pins (s : State) (m : Nat) (x : Sys2Proof.Machine.Mover) : (s.setMover m x).pins = s.pins := rfl
@[simp] theorem State.setMover_sal (s : State) (m : Nat) (x : Sys2Proof.Machine.Mover) : (s.setMover m x).sal = s.sal := rfl
@[simp] theorem State.setMover_pub (s : State) (m : Nat) (x : Sys2Proof.Machine.Mover) : (s.setMover m x).pub = s.pub := rfl
@[simp] theorem State.setMover_reg (s : State) (m : Nat) (x : Sys2Proof.Machine.Mover) : (s.setMover m x).reg = s.reg := rfl
@[simp] theorem State.setMover_freeCount (s : State) (m : Nat) (x : Sys2Proof.Machine.Mover) : (s.setMover m x).freeCount = s.freeCount := rfl
@[simp] theorem State.setMover_out (s : State) (m : Nat) (x : Sys2Proof.Machine.Mover) : (s.setMover m x).out = s.out := rfl
@[simp] theorem State.setMover_stalled (s : State) (m : Nat) (x : Sys2Proof.Machine.Mover) : (s.setMover m x).stalled = s.stalled := rfl
@[simp] theorem State.setMover_pending (s : State) (m : Nat) (x : Sys2Proof.Machine.Mover) : (s.setMover m x).pending = s.pending := rfl
@[simp] theorem State.setMover_rd (s : State) (m : Nat) (x : Sys2Proof.Machine.Mover) (idx sub : Nat) : (s.setMover m x).rd idx sub = s.rd idx sub := rfl

@[simp] theorem State.setTxn_dev (s : State) (x : Sys2Proof.Machine.DirTxn) : (s.setTxn x).dev = s.dev := rfl
@[simp] theorem State.setTxn_jrn (s : State) (x : Sys2Proof.Machine.DirTxn) : (s.setTxn x).jrn = s.jrn := rfl
@[simp] theorem State.setTxn_panels (s : State) (x : Sys2Proof.Machine.DirTxn) : (s.setTxn x).panels = s.panels := rfl
@[simp] theorem State.setTxn_arrivals (s : State) (x : Sys2Proof.Machine.DirTxn) : (s.setTxn x).arrivals = s.arrivals := rfl
@[simp] theorem State.setTxn_links (s : State) (x : Sys2Proof.Machine.DirTxn) : (s.setTxn x).links = s.links := rfl
@[simp] theorem State.setTxn_mem (s : State) (x : Sys2Proof.Machine.DirTxn) : (s.setTxn x).mem = s.mem := rfl
@[simp] theorem State.setTxn_qm (s : State) (x : Sys2Proof.Machine.DirTxn) : (s.setTxn x).qm = s.qm := rfl
@[simp] theorem State.setTxn_throttle (s : State) (x : Sys2Proof.Machine.DirTxn) : (s.setTxn x).throttle = s.throttle := rfl
@[simp] theorem State.setTxn_clkLost (s : State) (x : Sys2Proof.Machine.DirTxn) : (s.setTxn x).clkLost = s.clkLost := rfl
@[simp] theorem State.setTxn_memKept (s : State) (x : Sys2Proof.Machine.DirTxn) : (s.setTxn x).memKept = s.memKept := rfl
@[simp] theorem State.setTxn_lifecycle (s : State) (x : Sys2Proof.Machine.DirTxn) : (s.setTxn x).lifecycle = s.lifecycle := rfl
@[simp] theorem State.setTxn_warmRuns (s : State) (x : Sys2Proof.Machine.DirTxn) : (s.setTxn x).warmRuns = s.warmRuns := rfl
@[simp] theorem State.setTxn_ddr (s : State) (x : Sys2Proof.Machine.DirTxn) : (s.setTxn x).ddr = s.ddr := rfl
@[simp] theorem State.setTxn_lanes (s : State) (x : Sys2Proof.Machine.DirTxn) : (s.setTxn x).lanes = s.lanes := rfl
@[simp] theorem State.setTxn_testLanes (s : State) (x : Sys2Proof.Machine.DirTxn) : (s.setTxn x).testLanes = s.testLanes := rfl
@[simp] theorem State.setTxn_bootFn (s : State) (x : Sys2Proof.Machine.DirTxn) : (s.setTxn x).bootFn = s.bootFn := rfl
@[simp] theorem State.setTxn_ld (s : State) (x : Sys2Proof.Machine.DirTxn) : (s.setTxn x).ld = s.ld := rfl
@[simp] theorem State.setTxn_st (s : State) (x : Sys2Proof.Machine.DirTxn) : (s.setTxn x).st = s.st := rfl
@[simp] theorem State.setTxn_shims (s : State) (x : Sys2Proof.Machine.DirTxn) : (s.setTxn x).shims = s.shims := rfl
@[simp] theorem State.setTxn_cfg (s : State) (x : Sys2Proof.Machine.DirTxn) : (s.setTxn x).cfg = s.cfg := rfl
@[simp] theorem State.setTxn_hdm (s : State) (x : Sys2Proof.Machine.DirTxn) : (s.setTxn x).hdm = s.hdm := rfl
@[simp] theorem State.setTxn_ras (s : State) (x : Sys2Proof.Machine.DirTxn) : (s.setTxn x).ras = s.ras := rfl
@[simp] theorem State.setTxn_block (s : State) (x : Sys2Proof.Machine.DirTxn) : (s.setTxn x).block = s.block := rfl
@[simp] theorem State.setTxn_errLog (s : State) (x : Sys2Proof.Machine.DirTxn) : (s.setTxn x).errLog = s.errLog := rfl
@[simp] theorem State.setTxn_ideKeys (s : State) (x : Sys2Proof.Machine.DirTxn) : (s.setTxn x).ideKeys = s.ideKeys := rfl
@[simp] theorem State.setTxn_bsKeys (s : State) (x : Sys2Proof.Machine.DirTxn) : (s.setTxn x).bsKeys = s.bsKeys := rfl
@[simp] theorem State.setTxn_th (s : State) (x : Sys2Proof.Machine.DirTxn) : (s.setTxn x).th = s.th := rfl
@[simp] theorem State.setTxn_stop (s : State) (x : Sys2Proof.Machine.DirTxn) : (s.setTxn x).stop = s.stop := rfl
@[simp] theorem State.setTxn_nv (s : State) (x : Sys2Proof.Machine.DirTxn) : (s.setTxn x).nv = s.nv := rfl
@[simp] theorem State.setTxn_wear (s : State) (x : Sys2Proof.Machine.DirTxn) : (s.setTxn x).wear = s.wear := rfl
@[simp] theorem State.setTxn_sec (s : State) (x : Sys2Proof.Machine.DirTxn) : (s.setTxn x).sec = s.sec := rfl
@[simp] theorem State.setTxn_pwr (s : State) (x : Sys2Proof.Machine.DirTxn) : (s.setTxn x).pwr = s.pwr := rfl
@[simp] theorem State.setTxn_pins (s : State) (x : Sys2Proof.Machine.DirTxn) : (s.setTxn x).pins = s.pins := rfl
@[simp] theorem State.setTxn_sal (s : State) (x : Sys2Proof.Machine.DirTxn) : (s.setTxn x).sal = s.sal := rfl
@[simp] theorem State.setTxn_pub (s : State) (x : Sys2Proof.Machine.DirTxn) : (s.setTxn x).pub = s.pub := rfl
@[simp] theorem State.setTxn_reg (s : State) (x : Sys2Proof.Machine.DirTxn) : (s.setTxn x).reg = s.reg := rfl
@[simp] theorem State.setTxn_freeCount (s : State) (x : Sys2Proof.Machine.DirTxn) : (s.setTxn x).freeCount = s.freeCount := rfl
@[simp] theorem State.setTxn_out (s : State) (x : Sys2Proof.Machine.DirTxn) : (s.setTxn x).out = s.out := rfl
@[simp] theorem State.setTxn_stalled (s : State) (x : Sys2Proof.Machine.DirTxn) : (s.setTxn x).stalled = s.stalled := rfl
@[simp] theorem State.setTxn_pending (s : State) (x : Sys2Proof.Machine.DirTxn) : (s.setTxn x).pending = s.pending := rfl
@[simp] theorem State.setTxn_rd (s : State) (x : Sys2Proof.Machine.DirTxn) (idx sub : Nat) : (s.setTxn x).rd idx sub = s.rd idx sub := rfl

@[simp] theorem State.setChan_dev (s : State) (c : Nat) (x : Sys2Proof.Machine.DdrChan) : (s.setChan c x).dev = s.dev := rfl
@[simp] theorem State.setChan_jrn (s : State) (c : Nat) (x : Sys2Proof.Machine.DdrChan) : (s.setChan c x).jrn = s.jrn := rfl
@[simp] theorem State.setChan_panels (s : State) (c : Nat) (x : Sys2Proof.Machine.DdrChan) : (s.setChan c x).panels = s.panels := rfl
@[simp] theorem State.setChan_arrivals (s : State) (c : Nat) (x : Sys2Proof.Machine.DdrChan) : (s.setChan c x).arrivals = s.arrivals := rfl
@[simp] theorem State.setChan_links (s : State) (c : Nat) (x : Sys2Proof.Machine.DdrChan) : (s.setChan c x).links = s.links := rfl
@[simp] theorem State.setChan_mem (s : State) (c : Nat) (x : Sys2Proof.Machine.DdrChan) : (s.setChan c x).mem = s.mem := rfl
@[simp] theorem State.setChan_qm (s : State) (c : Nat) (x : Sys2Proof.Machine.DdrChan) : (s.setChan c x).qm = s.qm := rfl
@[simp] theorem State.setChan_throttle (s : State) (c : Nat) (x : Sys2Proof.Machine.DdrChan) : (s.setChan c x).throttle = s.throttle := rfl
@[simp] theorem State.setChan_clkLost (s : State) (c : Nat) (x : Sys2Proof.Machine.DdrChan) : (s.setChan c x).clkLost = s.clkLost := rfl
@[simp] theorem State.setChan_memKept (s : State) (c : Nat) (x : Sys2Proof.Machine.DdrChan) : (s.setChan c x).memKept = s.memKept := rfl
@[simp] theorem State.setChan_lifecycle (s : State) (c : Nat) (x : Sys2Proof.Machine.DdrChan) : (s.setChan c x).lifecycle = s.lifecycle := rfl
@[simp] theorem State.setChan_warmRuns (s : State) (c : Nat) (x : Sys2Proof.Machine.DdrChan) : (s.setChan c x).warmRuns = s.warmRuns := rfl
@[simp] theorem State.setChan_dir (s : State) (c : Nat) (x : Sys2Proof.Machine.DdrChan) : (s.setChan c x).dir = s.dir := rfl
@[simp] theorem State.setChan_lanes (s : State) (c : Nat) (x : Sys2Proof.Machine.DdrChan) : (s.setChan c x).lanes = s.lanes := rfl
@[simp] theorem State.setChan_testLanes (s : State) (c : Nat) (x : Sys2Proof.Machine.DdrChan) : (s.setChan c x).testLanes = s.testLanes := rfl
@[simp] theorem State.setChan_bootFn (s : State) (c : Nat) (x : Sys2Proof.Machine.DdrChan) : (s.setChan c x).bootFn = s.bootFn := rfl
@[simp] theorem State.setChan_ld (s : State) (c : Nat) (x : Sys2Proof.Machine.DdrChan) : (s.setChan c x).ld = s.ld := rfl
@[simp] theorem State.setChan_st (s : State) (c : Nat) (x : Sys2Proof.Machine.DdrChan) : (s.setChan c x).st = s.st := rfl
@[simp] theorem State.setChan_shims (s : State) (c : Nat) (x : Sys2Proof.Machine.DdrChan) : (s.setChan c x).shims = s.shims := rfl
@[simp] theorem State.setChan_cfg (s : State) (c : Nat) (x : Sys2Proof.Machine.DdrChan) : (s.setChan c x).cfg = s.cfg := rfl
@[simp] theorem State.setChan_hdm (s : State) (c : Nat) (x : Sys2Proof.Machine.DdrChan) : (s.setChan c x).hdm = s.hdm := rfl
@[simp] theorem State.setChan_ras (s : State) (c : Nat) (x : Sys2Proof.Machine.DdrChan) : (s.setChan c x).ras = s.ras := rfl
@[simp] theorem State.setChan_block (s : State) (c : Nat) (x : Sys2Proof.Machine.DdrChan) : (s.setChan c x).block = s.block := rfl
@[simp] theorem State.setChan_errLog (s : State) (c : Nat) (x : Sys2Proof.Machine.DdrChan) : (s.setChan c x).errLog = s.errLog := rfl
@[simp] theorem State.setChan_ideKeys (s : State) (c : Nat) (x : Sys2Proof.Machine.DdrChan) : (s.setChan c x).ideKeys = s.ideKeys := rfl
@[simp] theorem State.setChan_bsKeys (s : State) (c : Nat) (x : Sys2Proof.Machine.DdrChan) : (s.setChan c x).bsKeys = s.bsKeys := rfl
@[simp] theorem State.setChan_th (s : State) (c : Nat) (x : Sys2Proof.Machine.DdrChan) : (s.setChan c x).th = s.th := rfl
@[simp] theorem State.setChan_stop (s : State) (c : Nat) (x : Sys2Proof.Machine.DdrChan) : (s.setChan c x).stop = s.stop := rfl
@[simp] theorem State.setChan_nv (s : State) (c : Nat) (x : Sys2Proof.Machine.DdrChan) : (s.setChan c x).nv = s.nv := rfl
@[simp] theorem State.setChan_wear (s : State) (c : Nat) (x : Sys2Proof.Machine.DdrChan) : (s.setChan c x).wear = s.wear := rfl
@[simp] theorem State.setChan_sec (s : State) (c : Nat) (x : Sys2Proof.Machine.DdrChan) : (s.setChan c x).sec = s.sec := rfl
@[simp] theorem State.setChan_pwr (s : State) (c : Nat) (x : Sys2Proof.Machine.DdrChan) : (s.setChan c x).pwr = s.pwr := rfl
@[simp] theorem State.setChan_pins (s : State) (c : Nat) (x : Sys2Proof.Machine.DdrChan) : (s.setChan c x).pins = s.pins := rfl
@[simp] theorem State.setChan_sal (s : State) (c : Nat) (x : Sys2Proof.Machine.DdrChan) : (s.setChan c x).sal = s.sal := rfl
@[simp] theorem State.setChan_pub (s : State) (c : Nat) (x : Sys2Proof.Machine.DdrChan) : (s.setChan c x).pub = s.pub := rfl
@[simp] theorem State.setChan_reg (s : State) (c : Nat) (x : Sys2Proof.Machine.DdrChan) : (s.setChan c x).reg = s.reg := rfl
@[simp] theorem State.setChan_freeCount (s : State) (c : Nat) (x : Sys2Proof.Machine.DdrChan) : (s.setChan c x).freeCount = s.freeCount := rfl
@[simp] theorem State.setChan_out (s : State) (c : Nat) (x : Sys2Proof.Machine.DdrChan) : (s.setChan c x).out = s.out := rfl
@[simp] theorem State.setChan_stalled (s : State) (c : Nat) (x : Sys2Proof.Machine.DdrChan) : (s.setChan c x).stalled = s.stalled := rfl
@[simp] theorem State.setChan_pending (s : State) (c : Nat) (x : Sys2Proof.Machine.DdrChan) : (s.setChan c x).pending = s.pending := rfl
@[simp] theorem State.setChan_rd (s : State) (c : Nat) (x : Sys2Proof.Machine.DdrChan) (idx sub : Nat) : (s.setChan c x).rd idx sub = s.rd idx sub := rfl

@[simp] theorem State.setLine_dev (s : State) (line data err : Nat) : (s.setLine line data err).dev = s.dev := rfl
@[simp] theorem State.setLine_jrn (s : State) (line data err : Nat) : (s.setLine line data err).jrn = s.jrn := rfl
@[simp] theorem State.setLine_panels (s : State) (line data err : Nat) : (s.setLine line data err).panels = s.panels := rfl
@[simp] theorem State.setLine_arrivals (s : State) (line data err : Nat) : (s.setLine line data err).arrivals = s.arrivals := rfl
@[simp] theorem State.setLine_links (s : State) (line data err : Nat) : (s.setLine line data err).links = s.links := rfl
@[simp] theorem State.setLine_mem (s : State) (line data err : Nat) : (s.setLine line data err).mem = s.mem := rfl
@[simp] theorem State.setLine_qm (s : State) (line data err : Nat) : (s.setLine line data err).qm = s.qm := rfl
@[simp] theorem State.setLine_throttle (s : State) (line data err : Nat) : (s.setLine line data err).throttle = s.throttle := rfl
@[simp] theorem State.setLine_clkLost (s : State) (line data err : Nat) : (s.setLine line data err).clkLost = s.clkLost := rfl
@[simp] theorem State.setLine_memKept (s : State) (line data err : Nat) : (s.setLine line data err).memKept = s.memKept := rfl
@[simp] theorem State.setLine_lifecycle (s : State) (line data err : Nat) : (s.setLine line data err).lifecycle = s.lifecycle := rfl
@[simp] theorem State.setLine_warmRuns (s : State) (line data err : Nat) : (s.setLine line data err).warmRuns = s.warmRuns := rfl
@[simp] theorem State.setLine_dir (s : State) (line data err : Nat) : (s.setLine line data err).dir = s.dir := rfl
@[simp] theorem State.setLine_lanes (s : State) (line data err : Nat) : (s.setLine line data err).lanes = s.lanes := rfl
@[simp] theorem State.setLine_testLanes (s : State) (line data err : Nat) : (s.setLine line data err).testLanes = s.testLanes := rfl
@[simp] theorem State.setLine_bootFn (s : State) (line data err : Nat) : (s.setLine line data err).bootFn = s.bootFn := rfl
@[simp] theorem State.setLine_ld (s : State) (line data err : Nat) : (s.setLine line data err).ld = s.ld := rfl
@[simp] theorem State.setLine_st (s : State) (line data err : Nat) : (s.setLine line data err).st = s.st := rfl
@[simp] theorem State.setLine_shims (s : State) (line data err : Nat) : (s.setLine line data err).shims = s.shims := rfl
@[simp] theorem State.setLine_cfg (s : State) (line data err : Nat) : (s.setLine line data err).cfg = s.cfg := rfl
@[simp] theorem State.setLine_hdm (s : State) (line data err : Nat) : (s.setLine line data err).hdm = s.hdm := rfl
@[simp] theorem State.setLine_ras (s : State) (line data err : Nat) : (s.setLine line data err).ras = s.ras := rfl
@[simp] theorem State.setLine_block (s : State) (line data err : Nat) : (s.setLine line data err).block = s.block := rfl
@[simp] theorem State.setLine_errLog (s : State) (line data err : Nat) : (s.setLine line data err).errLog = s.errLog := rfl
@[simp] theorem State.setLine_ideKeys (s : State) (line data err : Nat) : (s.setLine line data err).ideKeys = s.ideKeys := rfl
@[simp] theorem State.setLine_bsKeys (s : State) (line data err : Nat) : (s.setLine line data err).bsKeys = s.bsKeys := rfl
@[simp] theorem State.setLine_th (s : State) (line data err : Nat) : (s.setLine line data err).th = s.th := rfl
@[simp] theorem State.setLine_stop (s : State) (line data err : Nat) : (s.setLine line data err).stop = s.stop := rfl
@[simp] theorem State.setLine_nv (s : State) (line data err : Nat) : (s.setLine line data err).nv = s.nv := rfl
@[simp] theorem State.setLine_wear (s : State) (line data err : Nat) : (s.setLine line data err).wear = s.wear := rfl
@[simp] theorem State.setLine_sec (s : State) (line data err : Nat) : (s.setLine line data err).sec = s.sec := rfl
@[simp] theorem State.setLine_pwr (s : State) (line data err : Nat) : (s.setLine line data err).pwr = s.pwr := rfl
@[simp] theorem State.setLine_pins (s : State) (line data err : Nat) : (s.setLine line data err).pins = s.pins := rfl
@[simp] theorem State.setLine_sal (s : State) (line data err : Nat) : (s.setLine line data err).sal = s.sal := rfl
@[simp] theorem State.setLine_pub (s : State) (line data err : Nat) : (s.setLine line data err).pub = s.pub := rfl
@[simp] theorem State.setLine_reg (s : State) (line data err : Nat) : (s.setLine line data err).reg = s.reg := rfl
@[simp] theorem State.setLine_freeCount (s : State) (line data err : Nat) : (s.setLine line data err).freeCount = s.freeCount := rfl
@[simp] theorem State.setLine_out (s : State) (line data err : Nat) : (s.setLine line data err).out = s.out := rfl
@[simp] theorem State.setLine_stalled (s : State) (line data err : Nat) : (s.setLine line data err).stalled = s.stalled := rfl
@[simp] theorem State.setLine_pending (s : State) (line data err : Nat) : (s.setLine line data err).pending = s.pending := rfl
@[simp] theorem State.setLine_rd (s : State) (line data err idx sub : Nat) : (s.setLine line data err).rd idx sub = s.rd idx sub := rfl

@[simp] theorem State.setLane_dev (s : State) (k : Nat) (x : Sys2Proof.Machine.Lane) : (s.setLane k x).dev = s.dev := rfl
@[simp] theorem State.setLane_jrn (s : State) (k : Nat) (x : Sys2Proof.Machine.Lane) : (s.setLane k x).jrn = s.jrn := rfl
@[simp] theorem State.setLane_panels (s : State) (k : Nat) (x : Sys2Proof.Machine.Lane) : (s.setLane k x).panels = s.panels := rfl
@[simp] theorem State.setLane_arrivals (s : State) (k : Nat) (x : Sys2Proof.Machine.Lane) : (s.setLane k x).arrivals = s.arrivals := rfl
@[simp] theorem State.setLane_links (s : State) (k : Nat) (x : Sys2Proof.Machine.Lane) : (s.setLane k x).links = s.links := rfl
@[simp] theorem State.setLane_mem (s : State) (k : Nat) (x : Sys2Proof.Machine.Lane) : (s.setLane k x).mem = s.mem := rfl
@[simp] theorem State.setLane_qm (s : State) (k : Nat) (x : Sys2Proof.Machine.Lane) : (s.setLane k x).qm = s.qm := rfl
@[simp] theorem State.setLane_throttle (s : State) (k : Nat) (x : Sys2Proof.Machine.Lane) : (s.setLane k x).throttle = s.throttle := rfl
@[simp] theorem State.setLane_clkLost (s : State) (k : Nat) (x : Sys2Proof.Machine.Lane) : (s.setLane k x).clkLost = s.clkLost := rfl
@[simp] theorem State.setLane_memKept (s : State) (k : Nat) (x : Sys2Proof.Machine.Lane) : (s.setLane k x).memKept = s.memKept := rfl
@[simp] theorem State.setLane_lifecycle (s : State) (k : Nat) (x : Sys2Proof.Machine.Lane) : (s.setLane k x).lifecycle = s.lifecycle := rfl
@[simp] theorem State.setLane_warmRuns (s : State) (k : Nat) (x : Sys2Proof.Machine.Lane) : (s.setLane k x).warmRuns = s.warmRuns := rfl
@[simp] theorem State.setLane_ddr (s : State) (k : Nat) (x : Sys2Proof.Machine.Lane) : (s.setLane k x).ddr = s.ddr := rfl
@[simp] theorem State.setLane_dir (s : State) (k : Nat) (x : Sys2Proof.Machine.Lane) : (s.setLane k x).dir = s.dir := rfl
@[simp] theorem State.setLane_testLanes (s : State) (k : Nat) (x : Sys2Proof.Machine.Lane) : (s.setLane k x).testLanes = s.testLanes := rfl
@[simp] theorem State.setLane_bootFn (s : State) (k : Nat) (x : Sys2Proof.Machine.Lane) : (s.setLane k x).bootFn = s.bootFn := rfl
@[simp] theorem State.setLane_ld (s : State) (k : Nat) (x : Sys2Proof.Machine.Lane) : (s.setLane k x).ld = s.ld := rfl
@[simp] theorem State.setLane_st (s : State) (k : Nat) (x : Sys2Proof.Machine.Lane) : (s.setLane k x).st = s.st := rfl
@[simp] theorem State.setLane_shims (s : State) (k : Nat) (x : Sys2Proof.Machine.Lane) : (s.setLane k x).shims = s.shims := rfl
@[simp] theorem State.setLane_cfg (s : State) (k : Nat) (x : Sys2Proof.Machine.Lane) : (s.setLane k x).cfg = s.cfg := rfl
@[simp] theorem State.setLane_hdm (s : State) (k : Nat) (x : Sys2Proof.Machine.Lane) : (s.setLane k x).hdm = s.hdm := rfl
@[simp] theorem State.setLane_ras (s : State) (k : Nat) (x : Sys2Proof.Machine.Lane) : (s.setLane k x).ras = s.ras := rfl
@[simp] theorem State.setLane_block (s : State) (k : Nat) (x : Sys2Proof.Machine.Lane) : (s.setLane k x).block = s.block := rfl
@[simp] theorem State.setLane_errLog (s : State) (k : Nat) (x : Sys2Proof.Machine.Lane) : (s.setLane k x).errLog = s.errLog := rfl
@[simp] theorem State.setLane_ideKeys (s : State) (k : Nat) (x : Sys2Proof.Machine.Lane) : (s.setLane k x).ideKeys = s.ideKeys := rfl
@[simp] theorem State.setLane_bsKeys (s : State) (k : Nat) (x : Sys2Proof.Machine.Lane) : (s.setLane k x).bsKeys = s.bsKeys := rfl
@[simp] theorem State.setLane_th (s : State) (k : Nat) (x : Sys2Proof.Machine.Lane) : (s.setLane k x).th = s.th := rfl
@[simp] theorem State.setLane_stop (s : State) (k : Nat) (x : Sys2Proof.Machine.Lane) : (s.setLane k x).stop = s.stop := rfl
@[simp] theorem State.setLane_nv (s : State) (k : Nat) (x : Sys2Proof.Machine.Lane) : (s.setLane k x).nv = s.nv := rfl
@[simp] theorem State.setLane_wear (s : State) (k : Nat) (x : Sys2Proof.Machine.Lane) : (s.setLane k x).wear = s.wear := rfl
@[simp] theorem State.setLane_sec (s : State) (k : Nat) (x : Sys2Proof.Machine.Lane) : (s.setLane k x).sec = s.sec := rfl
@[simp] theorem State.setLane_pwr (s : State) (k : Nat) (x : Sys2Proof.Machine.Lane) : (s.setLane k x).pwr = s.pwr := rfl
@[simp] theorem State.setLane_pins (s : State) (k : Nat) (x : Sys2Proof.Machine.Lane) : (s.setLane k x).pins = s.pins := rfl
@[simp] theorem State.setLane_sal (s : State) (k : Nat) (x : Sys2Proof.Machine.Lane) : (s.setLane k x).sal = s.sal := rfl
@[simp] theorem State.setLane_pub (s : State) (k : Nat) (x : Sys2Proof.Machine.Lane) : (s.setLane k x).pub = s.pub := rfl
@[simp] theorem State.setLane_reg (s : State) (k : Nat) (x : Sys2Proof.Machine.Lane) : (s.setLane k x).reg = s.reg := rfl
@[simp] theorem State.setLane_freeCount (s : State) (k : Nat) (x : Sys2Proof.Machine.Lane) : (s.setLane k x).freeCount = s.freeCount := rfl
@[simp] theorem State.setLane_out (s : State) (k : Nat) (x : Sys2Proof.Machine.Lane) : (s.setLane k x).out = s.out := rfl
@[simp] theorem State.setLane_stalled (s : State) (k : Nat) (x : Sys2Proof.Machine.Lane) : (s.setLane k x).stalled = s.stalled := rfl
@[simp] theorem State.setLane_pending (s : State) (k : Nat) (x : Sys2Proof.Machine.Lane) : (s.setLane k x).pending = s.pending := rfl
@[simp] theorem State.setLane_rd (s : State) (k : Nat) (x : Sys2Proof.Machine.Lane) (idx sub : Nat) : (s.setLane k x).rd idx sub = s.rd idx sub := rfl

@[simp] theorem State.setLace_dev (s : State) (link : Nat) (x : Sys2Proof.Machine.Lace) : (s.setLace link x).dev = s.dev := rfl
@[simp] theorem State.setLace_jrn (s : State) (link : Nat) (x : Sys2Proof.Machine.Lace) : (s.setLace link x).jrn = s.jrn := rfl
@[simp] theorem State.setLace_panels (s : State) (link : Nat) (x : Sys2Proof.Machine.Lace) : (s.setLace link x).panels = s.panels := rfl
@[simp] theorem State.setLace_arrivals (s : State) (link : Nat) (x : Sys2Proof.Machine.Lace) : (s.setLace link x).arrivals = s.arrivals := rfl
@[simp] theorem State.setLace_mem (s : State) (link : Nat) (x : Sys2Proof.Machine.Lace) : (s.setLace link x).mem = s.mem := rfl
@[simp] theorem State.setLace_qm (s : State) (link : Nat) (x : Sys2Proof.Machine.Lace) : (s.setLace link x).qm = s.qm := rfl
@[simp] theorem State.setLace_throttle (s : State) (link : Nat) (x : Sys2Proof.Machine.Lace) : (s.setLace link x).throttle = s.throttle := rfl
@[simp] theorem State.setLace_clkLost (s : State) (link : Nat) (x : Sys2Proof.Machine.Lace) : (s.setLace link x).clkLost = s.clkLost := rfl
@[simp] theorem State.setLace_memKept (s : State) (link : Nat) (x : Sys2Proof.Machine.Lace) : (s.setLace link x).memKept = s.memKept := rfl
@[simp] theorem State.setLace_lifecycle (s : State) (link : Nat) (x : Sys2Proof.Machine.Lace) : (s.setLace link x).lifecycle = s.lifecycle := rfl
@[simp] theorem State.setLace_warmRuns (s : State) (link : Nat) (x : Sys2Proof.Machine.Lace) : (s.setLace link x).warmRuns = s.warmRuns := rfl
@[simp] theorem State.setLace_ddr (s : State) (link : Nat) (x : Sys2Proof.Machine.Lace) : (s.setLace link x).ddr = s.ddr := rfl
@[simp] theorem State.setLace_dir (s : State) (link : Nat) (x : Sys2Proof.Machine.Lace) : (s.setLace link x).dir = s.dir := rfl
@[simp] theorem State.setLace_lanes (s : State) (link : Nat) (x : Sys2Proof.Machine.Lace) : (s.setLace link x).lanes = s.lanes := rfl
@[simp] theorem State.setLace_testLanes (s : State) (link : Nat) (x : Sys2Proof.Machine.Lace) : (s.setLace link x).testLanes = s.testLanes := rfl
@[simp] theorem State.setLace_bootFn (s : State) (link : Nat) (x : Sys2Proof.Machine.Lace) : (s.setLace link x).bootFn = s.bootFn := rfl
@[simp] theorem State.setLace_ld (s : State) (link : Nat) (x : Sys2Proof.Machine.Lace) : (s.setLace link x).ld = s.ld := rfl
@[simp] theorem State.setLace_st (s : State) (link : Nat) (x : Sys2Proof.Machine.Lace) : (s.setLace link x).st = s.st := rfl
@[simp] theorem State.setLace_shims (s : State) (link : Nat) (x : Sys2Proof.Machine.Lace) : (s.setLace link x).shims = s.shims := rfl
@[simp] theorem State.setLace_cfg (s : State) (link : Nat) (x : Sys2Proof.Machine.Lace) : (s.setLace link x).cfg = s.cfg := rfl
@[simp] theorem State.setLace_hdm (s : State) (link : Nat) (x : Sys2Proof.Machine.Lace) : (s.setLace link x).hdm = s.hdm := rfl
@[simp] theorem State.setLace_ras (s : State) (link : Nat) (x : Sys2Proof.Machine.Lace) : (s.setLace link x).ras = s.ras := rfl
@[simp] theorem State.setLace_block (s : State) (link : Nat) (x : Sys2Proof.Machine.Lace) : (s.setLace link x).block = s.block := rfl
@[simp] theorem State.setLace_errLog (s : State) (link : Nat) (x : Sys2Proof.Machine.Lace) : (s.setLace link x).errLog = s.errLog := rfl
@[simp] theorem State.setLace_ideKeys (s : State) (link : Nat) (x : Sys2Proof.Machine.Lace) : (s.setLace link x).ideKeys = s.ideKeys := rfl
@[simp] theorem State.setLace_bsKeys (s : State) (link : Nat) (x : Sys2Proof.Machine.Lace) : (s.setLace link x).bsKeys = s.bsKeys := rfl
@[simp] theorem State.setLace_th (s : State) (link : Nat) (x : Sys2Proof.Machine.Lace) : (s.setLace link x).th = s.th := rfl
@[simp] theorem State.setLace_stop (s : State) (link : Nat) (x : Sys2Proof.Machine.Lace) : (s.setLace link x).stop = s.stop := rfl
@[simp] theorem State.setLace_nv (s : State) (link : Nat) (x : Sys2Proof.Machine.Lace) : (s.setLace link x).nv = s.nv := rfl
@[simp] theorem State.setLace_wear (s : State) (link : Nat) (x : Sys2Proof.Machine.Lace) : (s.setLace link x).wear = s.wear := rfl
@[simp] theorem State.setLace_sec (s : State) (link : Nat) (x : Sys2Proof.Machine.Lace) : (s.setLace link x).sec = s.sec := rfl
@[simp] theorem State.setLace_pwr (s : State) (link : Nat) (x : Sys2Proof.Machine.Lace) : (s.setLace link x).pwr = s.pwr := rfl
@[simp] theorem State.setLace_pins (s : State) (link : Nat) (x : Sys2Proof.Machine.Lace) : (s.setLace link x).pins = s.pins := rfl
@[simp] theorem State.setLace_sal (s : State) (link : Nat) (x : Sys2Proof.Machine.Lace) : (s.setLace link x).sal = s.sal := rfl
@[simp] theorem State.setLace_pub (s : State) (link : Nat) (x : Sys2Proof.Machine.Lace) : (s.setLace link x).pub = s.pub := rfl
@[simp] theorem State.setLace_reg (s : State) (link : Nat) (x : Sys2Proof.Machine.Lace) : (s.setLace link x).reg = s.reg := rfl
@[simp] theorem State.setLace_freeCount (s : State) (link : Nat) (x : Sys2Proof.Machine.Lace) : (s.setLace link x).freeCount = s.freeCount := rfl
@[simp] theorem State.setLace_out (s : State) (link : Nat) (x : Sys2Proof.Machine.Lace) : (s.setLace link x).out = s.out := rfl
@[simp] theorem State.setLace_stalled (s : State) (link : Nat) (x : Sys2Proof.Machine.Lace) : (s.setLace link x).stalled = s.stalled := rfl
@[simp] theorem State.setLace_pending (s : State) (link : Nat) (x : Sys2Proof.Machine.Lace) : (s.setLace link x).pending = s.pending := rfl
@[simp] theorem State.setLace_rd (s : State) (link : Nat) (x : Sys2Proof.Machine.Lace) (idx sub : Nat) : (s.setLace link x).rd idx sub = s.rd idx sub := rfl

@[simp] theorem State.setPin_dev (s : State) (n : Nat) (x : Sys2Proof.Machine.Pin) : (s.setPin n x).dev = s.dev := rfl
@[simp] theorem State.setPin_jrn (s : State) (n : Nat) (x : Sys2Proof.Machine.Pin) : (s.setPin n x).jrn = s.jrn := rfl
@[simp] theorem State.setPin_panels (s : State) (n : Nat) (x : Sys2Proof.Machine.Pin) : (s.setPin n x).panels = s.panels := rfl
@[simp] theorem State.setPin_arrivals (s : State) (n : Nat) (x : Sys2Proof.Machine.Pin) : (s.setPin n x).arrivals = s.arrivals := rfl
@[simp] theorem State.setPin_links (s : State) (n : Nat) (x : Sys2Proof.Machine.Pin) : (s.setPin n x).links = s.links := rfl
@[simp] theorem State.setPin_mem (s : State) (n : Nat) (x : Sys2Proof.Machine.Pin) : (s.setPin n x).mem = s.mem := rfl
@[simp] theorem State.setPin_qm (s : State) (n : Nat) (x : Sys2Proof.Machine.Pin) : (s.setPin n x).qm = s.qm := rfl
@[simp] theorem State.setPin_throttle (s : State) (n : Nat) (x : Sys2Proof.Machine.Pin) : (s.setPin n x).throttle = s.throttle := rfl
@[simp] theorem State.setPin_clkLost (s : State) (n : Nat) (x : Sys2Proof.Machine.Pin) : (s.setPin n x).clkLost = s.clkLost := rfl
@[simp] theorem State.setPin_memKept (s : State) (n : Nat) (x : Sys2Proof.Machine.Pin) : (s.setPin n x).memKept = s.memKept := rfl
@[simp] theorem State.setPin_lifecycle (s : State) (n : Nat) (x : Sys2Proof.Machine.Pin) : (s.setPin n x).lifecycle = s.lifecycle := rfl
@[simp] theorem State.setPin_warmRuns (s : State) (n : Nat) (x : Sys2Proof.Machine.Pin) : (s.setPin n x).warmRuns = s.warmRuns := rfl
@[simp] theorem State.setPin_ddr (s : State) (n : Nat) (x : Sys2Proof.Machine.Pin) : (s.setPin n x).ddr = s.ddr := rfl
@[simp] theorem State.setPin_dir (s : State) (n : Nat) (x : Sys2Proof.Machine.Pin) : (s.setPin n x).dir = s.dir := rfl
@[simp] theorem State.setPin_lanes (s : State) (n : Nat) (x : Sys2Proof.Machine.Pin) : (s.setPin n x).lanes = s.lanes := rfl
@[simp] theorem State.setPin_testLanes (s : State) (n : Nat) (x : Sys2Proof.Machine.Pin) : (s.setPin n x).testLanes = s.testLanes := rfl
@[simp] theorem State.setPin_bootFn (s : State) (n : Nat) (x : Sys2Proof.Machine.Pin) : (s.setPin n x).bootFn = s.bootFn := rfl
@[simp] theorem State.setPin_ld (s : State) (n : Nat) (x : Sys2Proof.Machine.Pin) : (s.setPin n x).ld = s.ld := rfl
@[simp] theorem State.setPin_st (s : State) (n : Nat) (x : Sys2Proof.Machine.Pin) : (s.setPin n x).st = s.st := rfl
@[simp] theorem State.setPin_shims (s : State) (n : Nat) (x : Sys2Proof.Machine.Pin) : (s.setPin n x).shims = s.shims := rfl
@[simp] theorem State.setPin_cfg (s : State) (n : Nat) (x : Sys2Proof.Machine.Pin) : (s.setPin n x).cfg = s.cfg := rfl
@[simp] theorem State.setPin_hdm (s : State) (n : Nat) (x : Sys2Proof.Machine.Pin) : (s.setPin n x).hdm = s.hdm := rfl
@[simp] theorem State.setPin_ras (s : State) (n : Nat) (x : Sys2Proof.Machine.Pin) : (s.setPin n x).ras = s.ras := rfl
@[simp] theorem State.setPin_block (s : State) (n : Nat) (x : Sys2Proof.Machine.Pin) : (s.setPin n x).block = s.block := rfl
@[simp] theorem State.setPin_errLog (s : State) (n : Nat) (x : Sys2Proof.Machine.Pin) : (s.setPin n x).errLog = s.errLog := rfl
@[simp] theorem State.setPin_ideKeys (s : State) (n : Nat) (x : Sys2Proof.Machine.Pin) : (s.setPin n x).ideKeys = s.ideKeys := rfl
@[simp] theorem State.setPin_bsKeys (s : State) (n : Nat) (x : Sys2Proof.Machine.Pin) : (s.setPin n x).bsKeys = s.bsKeys := rfl
@[simp] theorem State.setPin_th (s : State) (n : Nat) (x : Sys2Proof.Machine.Pin) : (s.setPin n x).th = s.th := rfl
@[simp] theorem State.setPin_stop (s : State) (n : Nat) (x : Sys2Proof.Machine.Pin) : (s.setPin n x).stop = s.stop := rfl
@[simp] theorem State.setPin_nv (s : State) (n : Nat) (x : Sys2Proof.Machine.Pin) : (s.setPin n x).nv = s.nv := rfl
@[simp] theorem State.setPin_wear (s : State) (n : Nat) (x : Sys2Proof.Machine.Pin) : (s.setPin n x).wear = s.wear := rfl
@[simp] theorem State.setPin_sec (s : State) (n : Nat) (x : Sys2Proof.Machine.Pin) : (s.setPin n x).sec = s.sec := rfl
@[simp] theorem State.setPin_pwr (s : State) (n : Nat) (x : Sys2Proof.Machine.Pin) : (s.setPin n x).pwr = s.pwr := rfl
@[simp] theorem State.setPin_sal (s : State) (n : Nat) (x : Sys2Proof.Machine.Pin) : (s.setPin n x).sal = s.sal := rfl
@[simp] theorem State.setPin_pub (s : State) (n : Nat) (x : Sys2Proof.Machine.Pin) : (s.setPin n x).pub = s.pub := rfl
@[simp] theorem State.setPin_reg (s : State) (n : Nat) (x : Sys2Proof.Machine.Pin) : (s.setPin n x).reg = s.reg := rfl
@[simp] theorem State.setPin_freeCount (s : State) (n : Nat) (x : Sys2Proof.Machine.Pin) : (s.setPin n x).freeCount = s.freeCount := rfl
@[simp] theorem State.setPin_out (s : State) (n : Nat) (x : Sys2Proof.Machine.Pin) : (s.setPin n x).out = s.out := rfl
@[simp] theorem State.setPin_stalled (s : State) (n : Nat) (x : Sys2Proof.Machine.Pin) : (s.setPin n x).stalled = s.stalled := rfl
@[simp] theorem State.setPin_pending (s : State) (n : Nat) (x : Sys2Proof.Machine.Pin) : (s.setPin n x).pending = s.pending := rfl
@[simp] theorem State.setPin_pins_frozen (s : State) (n : Nat) (x : Sys2Proof.Machine.Pin) : (s.setPin n x).pins.frozen = s.pins.frozen := rfl
@[simp] theorem State.setPin_pins_ir (s : State) (n : Nat) (x : Sys2Proof.Machine.Pin) : (s.setPin n x).pins.ir = s.pins.ir := rfl
@[simp] theorem State.setPin_pins_halted (s : State) (n : Nat) (x : Sys2Proof.Machine.Pin) : (s.setPin n x).pins.halted = s.pins.halted := rfl
@[simp] theorem State.setPin_pins_syncAt (s : State) (n : Nat) (x : Sys2Proof.Machine.Pin) : (s.setPin n x).pins.syncAt = s.pins.syncAt := rfl
@[simp] theorem State.setPin_rd (s : State) (n : Nat) (x : Sys2Proof.Machine.Pin) (idx sub : Nat) : (s.setPin n x).rd idx sub = s.rd idx sub := rfl

@[simp] theorem State.setTarget_dev (s : State) (t : Nat) (x : Sys2Proof.Machine.Target) : (s.setTarget t x).dev = s.dev := rfl
@[simp] theorem State.setTarget_jrn (s : State) (t : Nat) (x : Sys2Proof.Machine.Target) : (s.setTarget t x).jrn = s.jrn := rfl
@[simp] theorem State.setTarget_panels (s : State) (t : Nat) (x : Sys2Proof.Machine.Target) : (s.setTarget t x).panels = s.panels := rfl
@[simp] theorem State.setTarget_arrivals (s : State) (t : Nat) (x : Sys2Proof.Machine.Target) : (s.setTarget t x).arrivals = s.arrivals := rfl
@[simp] theorem State.setTarget_links (s : State) (t : Nat) (x : Sys2Proof.Machine.Target) : (s.setTarget t x).links = s.links := rfl
@[simp] theorem State.setTarget_mem (s : State) (t : Nat) (x : Sys2Proof.Machine.Target) : (s.setTarget t x).mem = s.mem := rfl
@[simp] theorem State.setTarget_qm (s : State) (t : Nat) (x : Sys2Proof.Machine.Target) : (s.setTarget t x).qm = s.qm := rfl
@[simp] theorem State.setTarget_throttle (s : State) (t : Nat) (x : Sys2Proof.Machine.Target) : (s.setTarget t x).throttle = s.throttle := rfl
@[simp] theorem State.setTarget_clkLost (s : State) (t : Nat) (x : Sys2Proof.Machine.Target) : (s.setTarget t x).clkLost = s.clkLost := rfl
@[simp] theorem State.setTarget_memKept (s : State) (t : Nat) (x : Sys2Proof.Machine.Target) : (s.setTarget t x).memKept = s.memKept := rfl
@[simp] theorem State.setTarget_lifecycle (s : State) (t : Nat) (x : Sys2Proof.Machine.Target) : (s.setTarget t x).lifecycle = s.lifecycle := rfl
@[simp] theorem State.setTarget_warmRuns (s : State) (t : Nat) (x : Sys2Proof.Machine.Target) : (s.setTarget t x).warmRuns = s.warmRuns := rfl
@[simp] theorem State.setTarget_ddr (s : State) (t : Nat) (x : Sys2Proof.Machine.Target) : (s.setTarget t x).ddr = s.ddr := rfl
@[simp] theorem State.setTarget_dir (s : State) (t : Nat) (x : Sys2Proof.Machine.Target) : (s.setTarget t x).dir = s.dir := rfl
@[simp] theorem State.setTarget_lanes (s : State) (t : Nat) (x : Sys2Proof.Machine.Target) : (s.setTarget t x).lanes = s.lanes := rfl
@[simp] theorem State.setTarget_testLanes (s : State) (t : Nat) (x : Sys2Proof.Machine.Target) : (s.setTarget t x).testLanes = s.testLanes := rfl
@[simp] theorem State.setTarget_bootFn (s : State) (t : Nat) (x : Sys2Proof.Machine.Target) : (s.setTarget t x).bootFn = s.bootFn := rfl
@[simp] theorem State.setTarget_ld (s : State) (t : Nat) (x : Sys2Proof.Machine.Target) : (s.setTarget t x).ld = s.ld := rfl
@[simp] theorem State.setTarget_st (s : State) (t : Nat) (x : Sys2Proof.Machine.Target) : (s.setTarget t x).st = s.st := rfl
@[simp] theorem State.setTarget_shims (s : State) (t : Nat) (x : Sys2Proof.Machine.Target) : (s.setTarget t x).shims = s.shims := rfl
@[simp] theorem State.setTarget_cfg (s : State) (t : Nat) (x : Sys2Proof.Machine.Target) : (s.setTarget t x).cfg = s.cfg := rfl
@[simp] theorem State.setTarget_hdm (s : State) (t : Nat) (x : Sys2Proof.Machine.Target) : (s.setTarget t x).hdm = s.hdm := rfl
@[simp] theorem State.setTarget_ras (s : State) (t : Nat) (x : Sys2Proof.Machine.Target) : (s.setTarget t x).ras = s.ras := rfl
@[simp] theorem State.setTarget_block (s : State) (t : Nat) (x : Sys2Proof.Machine.Target) : (s.setTarget t x).block = s.block := rfl
@[simp] theorem State.setTarget_errLog (s : State) (t : Nat) (x : Sys2Proof.Machine.Target) : (s.setTarget t x).errLog = s.errLog := rfl
@[simp] theorem State.setTarget_ideKeys (s : State) (t : Nat) (x : Sys2Proof.Machine.Target) : (s.setTarget t x).ideKeys = s.ideKeys := rfl
@[simp] theorem State.setTarget_bsKeys (s : State) (t : Nat) (x : Sys2Proof.Machine.Target) : (s.setTarget t x).bsKeys = s.bsKeys := rfl
@[simp] theorem State.setTarget_th (s : State) (t : Nat) (x : Sys2Proof.Machine.Target) : (s.setTarget t x).th = s.th := rfl
@[simp] theorem State.setTarget_stop (s : State) (t : Nat) (x : Sys2Proof.Machine.Target) : (s.setTarget t x).stop = s.stop := rfl
@[simp] theorem State.setTarget_nv (s : State) (t : Nat) (x : Sys2Proof.Machine.Target) : (s.setTarget t x).nv = s.nv := rfl
@[simp] theorem State.setTarget_wear (s : State) (t : Nat) (x : Sys2Proof.Machine.Target) : (s.setTarget t x).wear = s.wear := rfl
@[simp] theorem State.setTarget_sec (s : State) (t : Nat) (x : Sys2Proof.Machine.Target) : (s.setTarget t x).sec = s.sec := rfl
@[simp] theorem State.setTarget_pwr (s : State) (t : Nat) (x : Sys2Proof.Machine.Target) : (s.setTarget t x).pwr = s.pwr := rfl
@[simp] theorem State.setTarget_pins (s : State) (t : Nat) (x : Sys2Proof.Machine.Target) : (s.setTarget t x).pins = s.pins := rfl
@[simp] theorem State.setTarget_pub (s : State) (t : Nat) (x : Sys2Proof.Machine.Target) : (s.setTarget t x).pub = s.pub := rfl
@[simp] theorem State.setTarget_reg (s : State) (t : Nat) (x : Sys2Proof.Machine.Target) : (s.setTarget t x).reg = s.reg := rfl
@[simp] theorem State.setTarget_freeCount (s : State) (t : Nat) (x : Sys2Proof.Machine.Target) : (s.setTarget t x).freeCount = s.freeCount := rfl
@[simp] theorem State.setTarget_out (s : State) (t : Nat) (x : Sys2Proof.Machine.Target) : (s.setTarget t x).out = s.out := rfl
@[simp] theorem State.setTarget_stalled (s : State) (t : Nat) (x : Sys2Proof.Machine.Target) : (s.setTarget t x).stalled = s.stalled := rfl
@[simp] theorem State.setTarget_pending (s : State) (t : Nat) (x : Sys2Proof.Machine.Target) : (s.setTarget t x).pending = s.pending := rfl
@[simp] theorem State.setTarget_rd (s : State) (t : Nat) (x : Sys2Proof.Machine.Target) (idx sub : Nat) : (s.setTarget t x).rd idx sub = s.rd idx sub := rfl

@[simp] theorem State.setHeld_dev (s : State) (t : Nat) (l : List Sys2Proof.Machine.SalynReq) : (s.setHeld t l).dev = s.dev := rfl
@[simp] theorem State.setHeld_jrn (s : State) (t : Nat) (l : List Sys2Proof.Machine.SalynReq) : (s.setHeld t l).jrn = s.jrn := rfl
@[simp] theorem State.setHeld_panels (s : State) (t : Nat) (l : List Sys2Proof.Machine.SalynReq) : (s.setHeld t l).panels = s.panels := rfl
@[simp] theorem State.setHeld_arrivals (s : State) (t : Nat) (l : List Sys2Proof.Machine.SalynReq) : (s.setHeld t l).arrivals = s.arrivals := rfl
@[simp] theorem State.setHeld_links (s : State) (t : Nat) (l : List Sys2Proof.Machine.SalynReq) : (s.setHeld t l).links = s.links := rfl
@[simp] theorem State.setHeld_mem (s : State) (t : Nat) (l : List Sys2Proof.Machine.SalynReq) : (s.setHeld t l).mem = s.mem := rfl
@[simp] theorem State.setHeld_qm (s : State) (t : Nat) (l : List Sys2Proof.Machine.SalynReq) : (s.setHeld t l).qm = s.qm := rfl
@[simp] theorem State.setHeld_throttle (s : State) (t : Nat) (l : List Sys2Proof.Machine.SalynReq) : (s.setHeld t l).throttle = s.throttle := rfl
@[simp] theorem State.setHeld_clkLost (s : State) (t : Nat) (l : List Sys2Proof.Machine.SalynReq) : (s.setHeld t l).clkLost = s.clkLost := rfl
@[simp] theorem State.setHeld_memKept (s : State) (t : Nat) (l : List Sys2Proof.Machine.SalynReq) : (s.setHeld t l).memKept = s.memKept := rfl
@[simp] theorem State.setHeld_lifecycle (s : State) (t : Nat) (l : List Sys2Proof.Machine.SalynReq) : (s.setHeld t l).lifecycle = s.lifecycle := rfl
@[simp] theorem State.setHeld_warmRuns (s : State) (t : Nat) (l : List Sys2Proof.Machine.SalynReq) : (s.setHeld t l).warmRuns = s.warmRuns := rfl
@[simp] theorem State.setHeld_ddr (s : State) (t : Nat) (l : List Sys2Proof.Machine.SalynReq) : (s.setHeld t l).ddr = s.ddr := rfl
@[simp] theorem State.setHeld_dir (s : State) (t : Nat) (l : List Sys2Proof.Machine.SalynReq) : (s.setHeld t l).dir = s.dir := rfl
@[simp] theorem State.setHeld_lanes (s : State) (t : Nat) (l : List Sys2Proof.Machine.SalynReq) : (s.setHeld t l).lanes = s.lanes := rfl
@[simp] theorem State.setHeld_testLanes (s : State) (t : Nat) (l : List Sys2Proof.Machine.SalynReq) : (s.setHeld t l).testLanes = s.testLanes := rfl
@[simp] theorem State.setHeld_bootFn (s : State) (t : Nat) (l : List Sys2Proof.Machine.SalynReq) : (s.setHeld t l).bootFn = s.bootFn := rfl
@[simp] theorem State.setHeld_ld (s : State) (t : Nat) (l : List Sys2Proof.Machine.SalynReq) : (s.setHeld t l).ld = s.ld := rfl
@[simp] theorem State.setHeld_st (s : State) (t : Nat) (l : List Sys2Proof.Machine.SalynReq) : (s.setHeld t l).st = s.st := rfl
@[simp] theorem State.setHeld_shims (s : State) (t : Nat) (l : List Sys2Proof.Machine.SalynReq) : (s.setHeld t l).shims = s.shims := rfl
@[simp] theorem State.setHeld_cfg (s : State) (t : Nat) (l : List Sys2Proof.Machine.SalynReq) : (s.setHeld t l).cfg = s.cfg := rfl
@[simp] theorem State.setHeld_hdm (s : State) (t : Nat) (l : List Sys2Proof.Machine.SalynReq) : (s.setHeld t l).hdm = s.hdm := rfl
@[simp] theorem State.setHeld_ras (s : State) (t : Nat) (l : List Sys2Proof.Machine.SalynReq) : (s.setHeld t l).ras = s.ras := rfl
@[simp] theorem State.setHeld_block (s : State) (t : Nat) (l : List Sys2Proof.Machine.SalynReq) : (s.setHeld t l).block = s.block := rfl
@[simp] theorem State.setHeld_errLog (s : State) (t : Nat) (l : List Sys2Proof.Machine.SalynReq) : (s.setHeld t l).errLog = s.errLog := rfl
@[simp] theorem State.setHeld_ideKeys (s : State) (t : Nat) (l : List Sys2Proof.Machine.SalynReq) : (s.setHeld t l).ideKeys = s.ideKeys := rfl
@[simp] theorem State.setHeld_bsKeys (s : State) (t : Nat) (l : List Sys2Proof.Machine.SalynReq) : (s.setHeld t l).bsKeys = s.bsKeys := rfl
@[simp] theorem State.setHeld_th (s : State) (t : Nat) (l : List Sys2Proof.Machine.SalynReq) : (s.setHeld t l).th = s.th := rfl
@[simp] theorem State.setHeld_stop (s : State) (t : Nat) (l : List Sys2Proof.Machine.SalynReq) : (s.setHeld t l).stop = s.stop := rfl
@[simp] theorem State.setHeld_nv (s : State) (t : Nat) (l : List Sys2Proof.Machine.SalynReq) : (s.setHeld t l).nv = s.nv := rfl
@[simp] theorem State.setHeld_wear (s : State) (t : Nat) (l : List Sys2Proof.Machine.SalynReq) : (s.setHeld t l).wear = s.wear := rfl
@[simp] theorem State.setHeld_sec (s : State) (t : Nat) (l : List Sys2Proof.Machine.SalynReq) : (s.setHeld t l).sec = s.sec := rfl
@[simp] theorem State.setHeld_pwr (s : State) (t : Nat) (l : List Sys2Proof.Machine.SalynReq) : (s.setHeld t l).pwr = s.pwr := rfl
@[simp] theorem State.setHeld_pins (s : State) (t : Nat) (l : List Sys2Proof.Machine.SalynReq) : (s.setHeld t l).pins = s.pins := rfl
@[simp] theorem State.setHeld_pub (s : State) (t : Nat) (l : List Sys2Proof.Machine.SalynReq) : (s.setHeld t l).pub = s.pub := rfl
@[simp] theorem State.setHeld_reg (s : State) (t : Nat) (l : List Sys2Proof.Machine.SalynReq) : (s.setHeld t l).reg = s.reg := rfl
@[simp] theorem State.setHeld_freeCount (s : State) (t : Nat) (l : List Sys2Proof.Machine.SalynReq) : (s.setHeld t l).freeCount = s.freeCount := rfl
@[simp] theorem State.setHeld_out (s : State) (t : Nat) (l : List Sys2Proof.Machine.SalynReq) : (s.setHeld t l).out = s.out := rfl
@[simp] theorem State.setHeld_stalled (s : State) (t : Nat) (l : List Sys2Proof.Machine.SalynReq) : (s.setHeld t l).stalled = s.stalled := rfl
@[simp] theorem State.setHeld_pending (s : State) (t : Nat) (l : List Sys2Proof.Machine.SalynReq) : (s.setHeld t l).pending = s.pending := rfl
@[simp] theorem State.setHeld_rd (s : State) (t : Nat) (l : List Sys2Proof.Machine.SalynReq) (idx sub : Nat) : (s.setHeld t l).rd idx sub = s.rd idx sub := rfl

@[simp] theorem State.setTestGroup_dev (s : State) (g : Nat) (x : Sys2Proof.Machine.TestGroup) : (s.setTestGroup g x).dev = s.dev := rfl
@[simp] theorem State.setTestGroup_jrn (s : State) (g : Nat) (x : Sys2Proof.Machine.TestGroup) : (s.setTestGroup g x).jrn = s.jrn := rfl
@[simp] theorem State.setTestGroup_panels (s : State) (g : Nat) (x : Sys2Proof.Machine.TestGroup) : (s.setTestGroup g x).panels = s.panels := rfl
@[simp] theorem State.setTestGroup_arrivals (s : State) (g : Nat) (x : Sys2Proof.Machine.TestGroup) : (s.setTestGroup g x).arrivals = s.arrivals := rfl
@[simp] theorem State.setTestGroup_links (s : State) (g : Nat) (x : Sys2Proof.Machine.TestGroup) : (s.setTestGroup g x).links = s.links := rfl
@[simp] theorem State.setTestGroup_mem (s : State) (g : Nat) (x : Sys2Proof.Machine.TestGroup) : (s.setTestGroup g x).mem = s.mem := rfl
@[simp] theorem State.setTestGroup_qm (s : State) (g : Nat) (x : Sys2Proof.Machine.TestGroup) : (s.setTestGroup g x).qm = s.qm := rfl
@[simp] theorem State.setTestGroup_throttle (s : State) (g : Nat) (x : Sys2Proof.Machine.TestGroup) : (s.setTestGroup g x).throttle = s.throttle := rfl
@[simp] theorem State.setTestGroup_clkLost (s : State) (g : Nat) (x : Sys2Proof.Machine.TestGroup) : (s.setTestGroup g x).clkLost = s.clkLost := rfl
@[simp] theorem State.setTestGroup_memKept (s : State) (g : Nat) (x : Sys2Proof.Machine.TestGroup) : (s.setTestGroup g x).memKept = s.memKept := rfl
@[simp] theorem State.setTestGroup_lifecycle (s : State) (g : Nat) (x : Sys2Proof.Machine.TestGroup) : (s.setTestGroup g x).lifecycle = s.lifecycle := rfl
@[simp] theorem State.setTestGroup_warmRuns (s : State) (g : Nat) (x : Sys2Proof.Machine.TestGroup) : (s.setTestGroup g x).warmRuns = s.warmRuns := rfl
@[simp] theorem State.setTestGroup_ddr (s : State) (g : Nat) (x : Sys2Proof.Machine.TestGroup) : (s.setTestGroup g x).ddr = s.ddr := rfl
@[simp] theorem State.setTestGroup_dir (s : State) (g : Nat) (x : Sys2Proof.Machine.TestGroup) : (s.setTestGroup g x).dir = s.dir := rfl
@[simp] theorem State.setTestGroup_lanes (s : State) (g : Nat) (x : Sys2Proof.Machine.TestGroup) : (s.setTestGroup g x).lanes = s.lanes := rfl
@[simp] theorem State.setTestGroup_testLanes (s : State) (g : Nat) (x : Sys2Proof.Machine.TestGroup) : (s.setTestGroup g x).testLanes = s.testLanes := rfl
@[simp] theorem State.setTestGroup_bootFn (s : State) (g : Nat) (x : Sys2Proof.Machine.TestGroup) : (s.setTestGroup g x).bootFn = s.bootFn := rfl
@[simp] theorem State.setTestGroup_ld (s : State) (g : Nat) (x : Sys2Proof.Machine.TestGroup) : (s.setTestGroup g x).ld = s.ld := rfl
@[simp] theorem State.setTestGroup_shims (s : State) (g : Nat) (x : Sys2Proof.Machine.TestGroup) : (s.setTestGroup g x).shims = s.shims := rfl
@[simp] theorem State.setTestGroup_cfg (s : State) (g : Nat) (x : Sys2Proof.Machine.TestGroup) : (s.setTestGroup g x).cfg = s.cfg := rfl
@[simp] theorem State.setTestGroup_hdm (s : State) (g : Nat) (x : Sys2Proof.Machine.TestGroup) : (s.setTestGroup g x).hdm = s.hdm := rfl
@[simp] theorem State.setTestGroup_ras (s : State) (g : Nat) (x : Sys2Proof.Machine.TestGroup) : (s.setTestGroup g x).ras = s.ras := rfl
@[simp] theorem State.setTestGroup_block (s : State) (g : Nat) (x : Sys2Proof.Machine.TestGroup) : (s.setTestGroup g x).block = s.block := rfl
@[simp] theorem State.setTestGroup_errLog (s : State) (g : Nat) (x : Sys2Proof.Machine.TestGroup) : (s.setTestGroup g x).errLog = s.errLog := rfl
@[simp] theorem State.setTestGroup_ideKeys (s : State) (g : Nat) (x : Sys2Proof.Machine.TestGroup) : (s.setTestGroup g x).ideKeys = s.ideKeys := rfl
@[simp] theorem State.setTestGroup_bsKeys (s : State) (g : Nat) (x : Sys2Proof.Machine.TestGroup) : (s.setTestGroup g x).bsKeys = s.bsKeys := rfl
@[simp] theorem State.setTestGroup_th (s : State) (g : Nat) (x : Sys2Proof.Machine.TestGroup) : (s.setTestGroup g x).th = s.th := rfl
@[simp] theorem State.setTestGroup_stop (s : State) (g : Nat) (x : Sys2Proof.Machine.TestGroup) : (s.setTestGroup g x).stop = s.stop := rfl
@[simp] theorem State.setTestGroup_nv (s : State) (g : Nat) (x : Sys2Proof.Machine.TestGroup) : (s.setTestGroup g x).nv = s.nv := rfl
@[simp] theorem State.setTestGroup_wear (s : State) (g : Nat) (x : Sys2Proof.Machine.TestGroup) : (s.setTestGroup g x).wear = s.wear := rfl
@[simp] theorem State.setTestGroup_sec (s : State) (g : Nat) (x : Sys2Proof.Machine.TestGroup) : (s.setTestGroup g x).sec = s.sec := rfl
@[simp] theorem State.setTestGroup_pwr (s : State) (g : Nat) (x : Sys2Proof.Machine.TestGroup) : (s.setTestGroup g x).pwr = s.pwr := rfl
@[simp] theorem State.setTestGroup_pins (s : State) (g : Nat) (x : Sys2Proof.Machine.TestGroup) : (s.setTestGroup g x).pins = s.pins := rfl
@[simp] theorem State.setTestGroup_sal (s : State) (g : Nat) (x : Sys2Proof.Machine.TestGroup) : (s.setTestGroup g x).sal = s.sal := rfl
@[simp] theorem State.setTestGroup_pub (s : State) (g : Nat) (x : Sys2Proof.Machine.TestGroup) : (s.setTestGroup g x).pub = s.pub := rfl
@[simp] theorem State.setTestGroup_reg (s : State) (g : Nat) (x : Sys2Proof.Machine.TestGroup) : (s.setTestGroup g x).reg = s.reg := rfl
@[simp] theorem State.setTestGroup_freeCount (s : State) (g : Nat) (x : Sys2Proof.Machine.TestGroup) : (s.setTestGroup g x).freeCount = s.freeCount := rfl
@[simp] theorem State.setTestGroup_out (s : State) (g : Nat) (x : Sys2Proof.Machine.TestGroup) : (s.setTestGroup g x).out = s.out := rfl
@[simp] theorem State.setTestGroup_stalled (s : State) (g : Nat) (x : Sys2Proof.Machine.TestGroup) : (s.setTestGroup g x).stalled = s.stalled := rfl
@[simp] theorem State.setTestGroup_pending (s : State) (g : Nat) (x : Sys2Proof.Machine.TestGroup) : (s.setTestGroup g x).pending = s.pending := rfl
@[simp] theorem State.setTestGroup_rd (s : State) (g : Nat) (x : Sys2Proof.Machine.TestGroup) (idx sub : Nat) : (s.setTestGroup g x).rd idx sub = s.rd idx sub := rfl

@[simp] theorem State.setPort_dev (s : State) (port tile : Nat) (l : List Sys2Proof.Machine.PortReq) : (s.setPort port tile l).dev = s.dev := rfl
@[simp] theorem State.setPort_jrn (s : State) (port tile : Nat) (l : List Sys2Proof.Machine.PortReq) : (s.setPort port tile l).jrn = s.jrn := rfl
@[simp] theorem State.setPort_panels (s : State) (port tile : Nat) (l : List Sys2Proof.Machine.PortReq) : (s.setPort port tile l).panels = s.panels := rfl
@[simp] theorem State.setPort_arrivals (s : State) (port tile : Nat) (l : List Sys2Proof.Machine.PortReq) : (s.setPort port tile l).arrivals = s.arrivals := rfl
@[simp] theorem State.setPort_links (s : State) (port tile : Nat) (l : List Sys2Proof.Machine.PortReq) : (s.setPort port tile l).links = s.links := rfl
@[simp] theorem State.setPort_qm (s : State) (port tile : Nat) (l : List Sys2Proof.Machine.PortReq) : (s.setPort port tile l).qm = s.qm := rfl
@[simp] theorem State.setPort_throttle (s : State) (port tile : Nat) (l : List Sys2Proof.Machine.PortReq) : (s.setPort port tile l).throttle = s.throttle := rfl
@[simp] theorem State.setPort_clkLost (s : State) (port tile : Nat) (l : List Sys2Proof.Machine.PortReq) : (s.setPort port tile l).clkLost = s.clkLost := rfl
@[simp] theorem State.setPort_memKept (s : State) (port tile : Nat) (l : List Sys2Proof.Machine.PortReq) : (s.setPort port tile l).memKept = s.memKept := rfl
@[simp] theorem State.setPort_lifecycle (s : State) (port tile : Nat) (l : List Sys2Proof.Machine.PortReq) : (s.setPort port tile l).lifecycle = s.lifecycle := rfl
@[simp] theorem State.setPort_warmRuns (s : State) (port tile : Nat) (l : List Sys2Proof.Machine.PortReq) : (s.setPort port tile l).warmRuns = s.warmRuns := rfl
@[simp] theorem State.setPort_ddr (s : State) (port tile : Nat) (l : List Sys2Proof.Machine.PortReq) : (s.setPort port tile l).ddr = s.ddr := rfl
@[simp] theorem State.setPort_dir (s : State) (port tile : Nat) (l : List Sys2Proof.Machine.PortReq) : (s.setPort port tile l).dir = s.dir := rfl
@[simp] theorem State.setPort_lanes (s : State) (port tile : Nat) (l : List Sys2Proof.Machine.PortReq) : (s.setPort port tile l).lanes = s.lanes := rfl
@[simp] theorem State.setPort_testLanes (s : State) (port tile : Nat) (l : List Sys2Proof.Machine.PortReq) : (s.setPort port tile l).testLanes = s.testLanes := rfl
@[simp] theorem State.setPort_bootFn (s : State) (port tile : Nat) (l : List Sys2Proof.Machine.PortReq) : (s.setPort port tile l).bootFn = s.bootFn := rfl
@[simp] theorem State.setPort_ld (s : State) (port tile : Nat) (l : List Sys2Proof.Machine.PortReq) : (s.setPort port tile l).ld = s.ld := rfl
@[simp] theorem State.setPort_st (s : State) (port tile : Nat) (l : List Sys2Proof.Machine.PortReq) : (s.setPort port tile l).st = s.st := rfl
@[simp] theorem State.setPort_shims (s : State) (port tile : Nat) (l : List Sys2Proof.Machine.PortReq) : (s.setPort port tile l).shims = s.shims := rfl
@[simp] theorem State.setPort_cfg (s : State) (port tile : Nat) (l : List Sys2Proof.Machine.PortReq) : (s.setPort port tile l).cfg = s.cfg := rfl
@[simp] theorem State.setPort_hdm (s : State) (port tile : Nat) (l : List Sys2Proof.Machine.PortReq) : (s.setPort port tile l).hdm = s.hdm := rfl
@[simp] theorem State.setPort_ras (s : State) (port tile : Nat) (l : List Sys2Proof.Machine.PortReq) : (s.setPort port tile l).ras = s.ras := rfl
@[simp] theorem State.setPort_block (s : State) (port tile : Nat) (l : List Sys2Proof.Machine.PortReq) : (s.setPort port tile l).block = s.block := rfl
@[simp] theorem State.setPort_errLog (s : State) (port tile : Nat) (l : List Sys2Proof.Machine.PortReq) : (s.setPort port tile l).errLog = s.errLog := rfl
@[simp] theorem State.setPort_ideKeys (s : State) (port tile : Nat) (l : List Sys2Proof.Machine.PortReq) : (s.setPort port tile l).ideKeys = s.ideKeys := rfl
@[simp] theorem State.setPort_bsKeys (s : State) (port tile : Nat) (l : List Sys2Proof.Machine.PortReq) : (s.setPort port tile l).bsKeys = s.bsKeys := rfl
@[simp] theorem State.setPort_th (s : State) (port tile : Nat) (l : List Sys2Proof.Machine.PortReq) : (s.setPort port tile l).th = s.th := rfl
@[simp] theorem State.setPort_stop (s : State) (port tile : Nat) (l : List Sys2Proof.Machine.PortReq) : (s.setPort port tile l).stop = s.stop := rfl
@[simp] theorem State.setPort_nv (s : State) (port tile : Nat) (l : List Sys2Proof.Machine.PortReq) : (s.setPort port tile l).nv = s.nv := rfl
@[simp] theorem State.setPort_wear (s : State) (port tile : Nat) (l : List Sys2Proof.Machine.PortReq) : (s.setPort port tile l).wear = s.wear := rfl
@[simp] theorem State.setPort_sec (s : State) (port tile : Nat) (l : List Sys2Proof.Machine.PortReq) : (s.setPort port tile l).sec = s.sec := rfl
@[simp] theorem State.setPort_pwr (s : State) (port tile : Nat) (l : List Sys2Proof.Machine.PortReq) : (s.setPort port tile l).pwr = s.pwr := rfl
@[simp] theorem State.setPort_pins (s : State) (port tile : Nat) (l : List Sys2Proof.Machine.PortReq) : (s.setPort port tile l).pins = s.pins := rfl
@[simp] theorem State.setPort_sal (s : State) (port tile : Nat) (l : List Sys2Proof.Machine.PortReq) : (s.setPort port tile l).sal = s.sal := rfl
@[simp] theorem State.setPort_pub (s : State) (port tile : Nat) (l : List Sys2Proof.Machine.PortReq) : (s.setPort port tile l).pub = s.pub := rfl
@[simp] theorem State.setPort_reg (s : State) (port tile : Nat) (l : List Sys2Proof.Machine.PortReq) : (s.setPort port tile l).reg = s.reg := rfl
@[simp] theorem State.setPort_freeCount (s : State) (port tile : Nat) (l : List Sys2Proof.Machine.PortReq) : (s.setPort port tile l).freeCount = s.freeCount := rfl
@[simp] theorem State.setPort_out (s : State) (port tile : Nat) (l : List Sys2Proof.Machine.PortReq) : (s.setPort port tile l).out = s.out := rfl
@[simp] theorem State.setPort_stalled (s : State) (port tile : Nat) (l : List Sys2Proof.Machine.PortReq) : (s.setPort port tile l).stalled = s.stalled := rfl
@[simp] theorem State.setPort_pending (s : State) (port tile : Nat) (l : List Sys2Proof.Machine.PortReq) : (s.setPort port tile l).pending = s.pending := rfl
@[simp] theorem State.setPort_rd (s : State) (port tile : Nat) (l : List Sys2Proof.Machine.PortReq) (idx sub : Nat) : (s.setPort port tile l).rd idx sub = s.rd idx sub := rfl

@[simp] theorem State.setPreg_dev (s : State) (tile v : Nat) : (s.setPreg tile v).dev = s.dev := rfl
@[simp] theorem State.setPreg_jrn (s : State) (tile v : Nat) : (s.setPreg tile v).jrn = s.jrn := rfl
@[simp] theorem State.setPreg_panels (s : State) (tile v : Nat) : (s.setPreg tile v).panels = s.panels := rfl
@[simp] theorem State.setPreg_arrivals (s : State) (tile v : Nat) : (s.setPreg tile v).arrivals = s.arrivals := rfl
@[simp] theorem State.setPreg_links (s : State) (tile v : Nat) : (s.setPreg tile v).links = s.links := rfl
@[simp] theorem State.setPreg_qm (s : State) (tile v : Nat) : (s.setPreg tile v).qm = s.qm := rfl
@[simp] theorem State.setPreg_throttle (s : State) (tile v : Nat) : (s.setPreg tile v).throttle = s.throttle := rfl
@[simp] theorem State.setPreg_clkLost (s : State) (tile v : Nat) : (s.setPreg tile v).clkLost = s.clkLost := rfl
@[simp] theorem State.setPreg_memKept (s : State) (tile v : Nat) : (s.setPreg tile v).memKept = s.memKept := rfl
@[simp] theorem State.setPreg_lifecycle (s : State) (tile v : Nat) : (s.setPreg tile v).lifecycle = s.lifecycle := rfl
@[simp] theorem State.setPreg_warmRuns (s : State) (tile v : Nat) : (s.setPreg tile v).warmRuns = s.warmRuns := rfl
@[simp] theorem State.setPreg_ddr (s : State) (tile v : Nat) : (s.setPreg tile v).ddr = s.ddr := rfl
@[simp] theorem State.setPreg_dir (s : State) (tile v : Nat) : (s.setPreg tile v).dir = s.dir := rfl
@[simp] theorem State.setPreg_lanes (s : State) (tile v : Nat) : (s.setPreg tile v).lanes = s.lanes := rfl
@[simp] theorem State.setPreg_testLanes (s : State) (tile v : Nat) : (s.setPreg tile v).testLanes = s.testLanes := rfl
@[simp] theorem State.setPreg_bootFn (s : State) (tile v : Nat) : (s.setPreg tile v).bootFn = s.bootFn := rfl
@[simp] theorem State.setPreg_ld (s : State) (tile v : Nat) : (s.setPreg tile v).ld = s.ld := rfl
@[simp] theorem State.setPreg_st (s : State) (tile v : Nat) : (s.setPreg tile v).st = s.st := rfl
@[simp] theorem State.setPreg_shims (s : State) (tile v : Nat) : (s.setPreg tile v).shims = s.shims := rfl
@[simp] theorem State.setPreg_cfg (s : State) (tile v : Nat) : (s.setPreg tile v).cfg = s.cfg := rfl
@[simp] theorem State.setPreg_hdm (s : State) (tile v : Nat) : (s.setPreg tile v).hdm = s.hdm := rfl
@[simp] theorem State.setPreg_ras (s : State) (tile v : Nat) : (s.setPreg tile v).ras = s.ras := rfl
@[simp] theorem State.setPreg_block (s : State) (tile v : Nat) : (s.setPreg tile v).block = s.block := rfl
@[simp] theorem State.setPreg_errLog (s : State) (tile v : Nat) : (s.setPreg tile v).errLog = s.errLog := rfl
@[simp] theorem State.setPreg_ideKeys (s : State) (tile v : Nat) : (s.setPreg tile v).ideKeys = s.ideKeys := rfl
@[simp] theorem State.setPreg_bsKeys (s : State) (tile v : Nat) : (s.setPreg tile v).bsKeys = s.bsKeys := rfl
@[simp] theorem State.setPreg_th (s : State) (tile v : Nat) : (s.setPreg tile v).th = s.th := rfl
@[simp] theorem State.setPreg_stop (s : State) (tile v : Nat) : (s.setPreg tile v).stop = s.stop := rfl
@[simp] theorem State.setPreg_nv (s : State) (tile v : Nat) : (s.setPreg tile v).nv = s.nv := rfl
@[simp] theorem State.setPreg_wear (s : State) (tile v : Nat) : (s.setPreg tile v).wear = s.wear := rfl
@[simp] theorem State.setPreg_sec (s : State) (tile v : Nat) : (s.setPreg tile v).sec = s.sec := rfl
@[simp] theorem State.setPreg_pwr (s : State) (tile v : Nat) : (s.setPreg tile v).pwr = s.pwr := rfl
@[simp] theorem State.setPreg_pins (s : State) (tile v : Nat) : (s.setPreg tile v).pins = s.pins := rfl
@[simp] theorem State.setPreg_sal (s : State) (tile v : Nat) : (s.setPreg tile v).sal = s.sal := rfl
@[simp] theorem State.setPreg_pub (s : State) (tile v : Nat) : (s.setPreg tile v).pub = s.pub := rfl
@[simp] theorem State.setPreg_reg (s : State) (tile v : Nat) : (s.setPreg tile v).reg = s.reg := rfl
@[simp] theorem State.setPreg_freeCount (s : State) (tile v : Nat) : (s.setPreg tile v).freeCount = s.freeCount := rfl
@[simp] theorem State.setPreg_out (s : State) (tile v : Nat) : (s.setPreg tile v).out = s.out := rfl
@[simp] theorem State.setPreg_stalled (s : State) (tile v : Nat) : (s.setPreg tile v).stalled = s.stalled := rfl
@[simp] theorem State.setPreg_pending (s : State) (tile v : Nat) : (s.setPreg tile v).pending = s.pending := rfl
@[simp] theorem State.setPreg_mem_bytes (s : State) (tile v : Nat) : (s.setPreg tile v).mem.bytes = s.mem.bytes := rfl
@[simp] theorem State.setPreg_mem_checks (s : State) (tile v : Nat) : (s.setPreg tile v).mem.checks = s.mem.checks := rfl
@[simp] theorem State.setPreg_mem_written (s : State) (tile v : Nat) : (s.setPreg tile v).mem.written = s.mem.written := rfl
@[simp] theorem State.setPreg_mem_banks (s : State) (tile v : Nat) : (s.setPreg tile v).mem.banks = s.mem.banks := rfl
@[simp] theorem State.setPreg_mem_press (s : State) (tile v : Nat) : (s.setPreg tile v).mem.press = s.mem.press := rfl
@[simp] theorem State.setPreg_mem_word2 (s : State) (tile v : Nat) : (s.setPreg tile v).mem.word2 = s.mem.word2 := rfl
@[simp] theorem State.setPreg_mem_word4 (s : State) (tile v : Nat) : (s.setPreg tile v).mem.word4 = s.mem.word4 := rfl
@[simp] theorem State.setPreg_mem_channel (s : State) (tile v : Nat) : (s.setPreg tile v).mem.channel = s.mem.channel := rfl
@[simp] theorem State.setPreg_mem_atBank (s : State) (tile v : Nat) : (s.setPreg tile v).mem.atBank = s.mem.atBank := rfl
@[simp] theorem State.setPreg_mem_lastServed (s : State) (tile v : Nat) : (s.setPreg tile v).mem.lastServed = s.mem.lastServed := rfl
@[simp] theorem State.setPreg_mem_hostReads (s : State) (tile v : Nat) : (s.setPreg tile v).mem.hostReads = s.mem.hostReads := rfl
@[simp] theorem State.setPreg_mem_rotation (s : State) (tile v : Nat) : (s.setPreg tile v).mem.rotation = s.mem.rotation := rfl
@[simp] theorem State.setPreg_mem_age (s : State) (tile v : Nat) : (s.setPreg tile v).mem.age = s.mem.age := rfl
@[simp] theorem State.setPreg_mem_cycle (s : State) (tile v : Nat) : (s.setPreg tile v).mem.cycle = s.mem.cycle := rfl
@[simp] theorem State.setPreg_mem_repairs (s : State) (tile v : Nat) : (s.setPreg tile v).mem.repairs = s.mem.repairs := rfl
@[simp] theorem State.setPreg_mem_trackers (s : State) (tile v : Nat) : (s.setPreg tile v).mem.trackers = s.mem.trackers := rfl
@[simp] theorem State.setPreg_mem_barred (s : State) (tile v : Nat) : (s.setPreg tile v).mem.barred = s.mem.barred := rfl
@[simp] theorem State.setPreg_mem_sramBad (s : State) (tile v : Nat) : (s.setPreg tile v).mem.sramBad = s.mem.sramBad := rfl
@[simp] theorem State.setPreg_rd (s : State) (tile v idx sub : Nat) : (s.setPreg tile v).rd idx sub = s.rd idx sub := rfl

@[simp] theorem State.setAtBank_dev (s : State) (bank : Nat) (l : List Sys2Proof.Machine.BaseReq) : (s.setAtBank bank l).dev = s.dev := rfl
@[simp] theorem State.setAtBank_jrn (s : State) (bank : Nat) (l : List Sys2Proof.Machine.BaseReq) : (s.setAtBank bank l).jrn = s.jrn := rfl
@[simp] theorem State.setAtBank_panels (s : State) (bank : Nat) (l : List Sys2Proof.Machine.BaseReq) : (s.setAtBank bank l).panels = s.panels := rfl
@[simp] theorem State.setAtBank_arrivals (s : State) (bank : Nat) (l : List Sys2Proof.Machine.BaseReq) : (s.setAtBank bank l).arrivals = s.arrivals := rfl
@[simp] theorem State.setAtBank_links (s : State) (bank : Nat) (l : List Sys2Proof.Machine.BaseReq) : (s.setAtBank bank l).links = s.links := rfl
@[simp] theorem State.setAtBank_qm (s : State) (bank : Nat) (l : List Sys2Proof.Machine.BaseReq) : (s.setAtBank bank l).qm = s.qm := rfl
@[simp] theorem State.setAtBank_throttle (s : State) (bank : Nat) (l : List Sys2Proof.Machine.BaseReq) : (s.setAtBank bank l).throttle = s.throttle := rfl
@[simp] theorem State.setAtBank_clkLost (s : State) (bank : Nat) (l : List Sys2Proof.Machine.BaseReq) : (s.setAtBank bank l).clkLost = s.clkLost := rfl
@[simp] theorem State.setAtBank_memKept (s : State) (bank : Nat) (l : List Sys2Proof.Machine.BaseReq) : (s.setAtBank bank l).memKept = s.memKept := rfl
@[simp] theorem State.setAtBank_lifecycle (s : State) (bank : Nat) (l : List Sys2Proof.Machine.BaseReq) : (s.setAtBank bank l).lifecycle = s.lifecycle := rfl
@[simp] theorem State.setAtBank_warmRuns (s : State) (bank : Nat) (l : List Sys2Proof.Machine.BaseReq) : (s.setAtBank bank l).warmRuns = s.warmRuns := rfl
@[simp] theorem State.setAtBank_ddr (s : State) (bank : Nat) (l : List Sys2Proof.Machine.BaseReq) : (s.setAtBank bank l).ddr = s.ddr := rfl
@[simp] theorem State.setAtBank_dir (s : State) (bank : Nat) (l : List Sys2Proof.Machine.BaseReq) : (s.setAtBank bank l).dir = s.dir := rfl
@[simp] theorem State.setAtBank_lanes (s : State) (bank : Nat) (l : List Sys2Proof.Machine.BaseReq) : (s.setAtBank bank l).lanes = s.lanes := rfl
@[simp] theorem State.setAtBank_testLanes (s : State) (bank : Nat) (l : List Sys2Proof.Machine.BaseReq) : (s.setAtBank bank l).testLanes = s.testLanes := rfl
@[simp] theorem State.setAtBank_bootFn (s : State) (bank : Nat) (l : List Sys2Proof.Machine.BaseReq) : (s.setAtBank bank l).bootFn = s.bootFn := rfl
@[simp] theorem State.setAtBank_ld (s : State) (bank : Nat) (l : List Sys2Proof.Machine.BaseReq) : (s.setAtBank bank l).ld = s.ld := rfl
@[simp] theorem State.setAtBank_st (s : State) (bank : Nat) (l : List Sys2Proof.Machine.BaseReq) : (s.setAtBank bank l).st = s.st := rfl
@[simp] theorem State.setAtBank_shims (s : State) (bank : Nat) (l : List Sys2Proof.Machine.BaseReq) : (s.setAtBank bank l).shims = s.shims := rfl
@[simp] theorem State.setAtBank_cfg (s : State) (bank : Nat) (l : List Sys2Proof.Machine.BaseReq) : (s.setAtBank bank l).cfg = s.cfg := rfl
@[simp] theorem State.setAtBank_hdm (s : State) (bank : Nat) (l : List Sys2Proof.Machine.BaseReq) : (s.setAtBank bank l).hdm = s.hdm := rfl
@[simp] theorem State.setAtBank_ras (s : State) (bank : Nat) (l : List Sys2Proof.Machine.BaseReq) : (s.setAtBank bank l).ras = s.ras := rfl
@[simp] theorem State.setAtBank_block (s : State) (bank : Nat) (l : List Sys2Proof.Machine.BaseReq) : (s.setAtBank bank l).block = s.block := rfl
@[simp] theorem State.setAtBank_errLog (s : State) (bank : Nat) (l : List Sys2Proof.Machine.BaseReq) : (s.setAtBank bank l).errLog = s.errLog := rfl
@[simp] theorem State.setAtBank_ideKeys (s : State) (bank : Nat) (l : List Sys2Proof.Machine.BaseReq) : (s.setAtBank bank l).ideKeys = s.ideKeys := rfl
@[simp] theorem State.setAtBank_bsKeys (s : State) (bank : Nat) (l : List Sys2Proof.Machine.BaseReq) : (s.setAtBank bank l).bsKeys = s.bsKeys := rfl
@[simp] theorem State.setAtBank_th (s : State) (bank : Nat) (l : List Sys2Proof.Machine.BaseReq) : (s.setAtBank bank l).th = s.th := rfl
@[simp] theorem State.setAtBank_stop (s : State) (bank : Nat) (l : List Sys2Proof.Machine.BaseReq) : (s.setAtBank bank l).stop = s.stop := rfl
@[simp] theorem State.setAtBank_nv (s : State) (bank : Nat) (l : List Sys2Proof.Machine.BaseReq) : (s.setAtBank bank l).nv = s.nv := rfl
@[simp] theorem State.setAtBank_wear (s : State) (bank : Nat) (l : List Sys2Proof.Machine.BaseReq) : (s.setAtBank bank l).wear = s.wear := rfl
@[simp] theorem State.setAtBank_sec (s : State) (bank : Nat) (l : List Sys2Proof.Machine.BaseReq) : (s.setAtBank bank l).sec = s.sec := rfl
@[simp] theorem State.setAtBank_pwr (s : State) (bank : Nat) (l : List Sys2Proof.Machine.BaseReq) : (s.setAtBank bank l).pwr = s.pwr := rfl
@[simp] theorem State.setAtBank_pins (s : State) (bank : Nat) (l : List Sys2Proof.Machine.BaseReq) : (s.setAtBank bank l).pins = s.pins := rfl
@[simp] theorem State.setAtBank_sal (s : State) (bank : Nat) (l : List Sys2Proof.Machine.BaseReq) : (s.setAtBank bank l).sal = s.sal := rfl
@[simp] theorem State.setAtBank_pub (s : State) (bank : Nat) (l : List Sys2Proof.Machine.BaseReq) : (s.setAtBank bank l).pub = s.pub := rfl
@[simp] theorem State.setAtBank_reg (s : State) (bank : Nat) (l : List Sys2Proof.Machine.BaseReq) : (s.setAtBank bank l).reg = s.reg := rfl
@[simp] theorem State.setAtBank_freeCount (s : State) (bank : Nat) (l : List Sys2Proof.Machine.BaseReq) : (s.setAtBank bank l).freeCount = s.freeCount := rfl
@[simp] theorem State.setAtBank_out (s : State) (bank : Nat) (l : List Sys2Proof.Machine.BaseReq) : (s.setAtBank bank l).out = s.out := rfl
@[simp] theorem State.setAtBank_stalled (s : State) (bank : Nat) (l : List Sys2Proof.Machine.BaseReq) : (s.setAtBank bank l).stalled = s.stalled := rfl
@[simp] theorem State.setAtBank_pending (s : State) (bank : Nat) (l : List Sys2Proof.Machine.BaseReq) : (s.setAtBank bank l).pending = s.pending := rfl
@[simp] theorem State.setAtBank_mem_bytes (s : State) (bank : Nat) (l : List Sys2Proof.Machine.BaseReq) : (s.setAtBank bank l).mem.bytes = s.mem.bytes := rfl
@[simp] theorem State.setAtBank_mem_checks (s : State) (bank : Nat) (l : List Sys2Proof.Machine.BaseReq) : (s.setAtBank bank l).mem.checks = s.mem.checks := rfl
@[simp] theorem State.setAtBank_mem_written (s : State) (bank : Nat) (l : List Sys2Proof.Machine.BaseReq) : (s.setAtBank bank l).mem.written = s.mem.written := rfl
@[simp] theorem State.setAtBank_mem_banks (s : State) (bank : Nat) (l : List Sys2Proof.Machine.BaseReq) : (s.setAtBank bank l).mem.banks = s.mem.banks := rfl
@[simp] theorem State.setAtBank_mem_press (s : State) (bank : Nat) (l : List Sys2Proof.Machine.BaseReq) : (s.setAtBank bank l).mem.press = s.mem.press := rfl
@[simp] theorem State.setAtBank_mem_word2 (s : State) (bank : Nat) (l : List Sys2Proof.Machine.BaseReq) : (s.setAtBank bank l).mem.word2 = s.mem.word2 := rfl
@[simp] theorem State.setAtBank_mem_word4 (s : State) (bank : Nat) (l : List Sys2Proof.Machine.BaseReq) : (s.setAtBank bank l).mem.word4 = s.mem.word4 := rfl
@[simp] theorem State.setAtBank_mem_channel (s : State) (bank : Nat) (l : List Sys2Proof.Machine.BaseReq) : (s.setAtBank bank l).mem.channel = s.mem.channel := rfl
@[simp] theorem State.setAtBank_mem_lastServed (s : State) (bank : Nat) (l : List Sys2Proof.Machine.BaseReq) : (s.setAtBank bank l).mem.lastServed = s.mem.lastServed := rfl
@[simp] theorem State.setAtBank_mem_hostReads (s : State) (bank : Nat) (l : List Sys2Proof.Machine.BaseReq) : (s.setAtBank bank l).mem.hostReads = s.mem.hostReads := rfl
@[simp] theorem State.setAtBank_mem_preg (s : State) (bank : Nat) (l : List Sys2Proof.Machine.BaseReq) : (s.setAtBank bank l).mem.preg = s.mem.preg := rfl
@[simp] theorem State.setAtBank_mem_rotation (s : State) (bank : Nat) (l : List Sys2Proof.Machine.BaseReq) : (s.setAtBank bank l).mem.rotation = s.mem.rotation := rfl
@[simp] theorem State.setAtBank_mem_age (s : State) (bank : Nat) (l : List Sys2Proof.Machine.BaseReq) : (s.setAtBank bank l).mem.age = s.mem.age := rfl
@[simp] theorem State.setAtBank_mem_cycle (s : State) (bank : Nat) (l : List Sys2Proof.Machine.BaseReq) : (s.setAtBank bank l).mem.cycle = s.mem.cycle := rfl
@[simp] theorem State.setAtBank_mem_repairs (s : State) (bank : Nat) (l : List Sys2Proof.Machine.BaseReq) : (s.setAtBank bank l).mem.repairs = s.mem.repairs := rfl
@[simp] theorem State.setAtBank_mem_trackers (s : State) (bank : Nat) (l : List Sys2Proof.Machine.BaseReq) : (s.setAtBank bank l).mem.trackers = s.mem.trackers := rfl
@[simp] theorem State.setAtBank_mem_barred (s : State) (bank : Nat) (l : List Sys2Proof.Machine.BaseReq) : (s.setAtBank bank l).mem.barred = s.mem.barred := rfl
@[simp] theorem State.setAtBank_mem_sramBad (s : State) (bank : Nat) (l : List Sys2Proof.Machine.BaseReq) : (s.setAtBank bank l).mem.sramBad = s.mem.sramBad := rfl
@[simp] theorem State.setAtBank_rd (s : State) (bank : Nat) (l : List Sys2Proof.Machine.BaseReq) (idx sub : Nat) : (s.setAtBank bank l).rd idx sub = s.rd idx sub := rfl

@[simp] theorem State.setChannel_dev (s : State) (g : Nat) (l : List Sys2Proof.Machine.BaseReq) : (s.setChannel g l).dev = s.dev := rfl
@[simp] theorem State.setChannel_jrn (s : State) (g : Nat) (l : List Sys2Proof.Machine.BaseReq) : (s.setChannel g l).jrn = s.jrn := rfl
@[simp] theorem State.setChannel_panels (s : State) (g : Nat) (l : List Sys2Proof.Machine.BaseReq) : (s.setChannel g l).panels = s.panels := rfl
@[simp] theorem State.setChannel_arrivals (s : State) (g : Nat) (l : List Sys2Proof.Machine.BaseReq) : (s.setChannel g l).arrivals = s.arrivals := rfl
@[simp] theorem State.setChannel_links (s : State) (g : Nat) (l : List Sys2Proof.Machine.BaseReq) : (s.setChannel g l).links = s.links := rfl
@[simp] theorem State.setChannel_qm (s : State) (g : Nat) (l : List Sys2Proof.Machine.BaseReq) : (s.setChannel g l).qm = s.qm := rfl
@[simp] theorem State.setChannel_throttle (s : State) (g : Nat) (l : List Sys2Proof.Machine.BaseReq) : (s.setChannel g l).throttle = s.throttle := rfl
@[simp] theorem State.setChannel_clkLost (s : State) (g : Nat) (l : List Sys2Proof.Machine.BaseReq) : (s.setChannel g l).clkLost = s.clkLost := rfl
@[simp] theorem State.setChannel_memKept (s : State) (g : Nat) (l : List Sys2Proof.Machine.BaseReq) : (s.setChannel g l).memKept = s.memKept := rfl
@[simp] theorem State.setChannel_lifecycle (s : State) (g : Nat) (l : List Sys2Proof.Machine.BaseReq) : (s.setChannel g l).lifecycle = s.lifecycle := rfl
@[simp] theorem State.setChannel_warmRuns (s : State) (g : Nat) (l : List Sys2Proof.Machine.BaseReq) : (s.setChannel g l).warmRuns = s.warmRuns := rfl
@[simp] theorem State.setChannel_ddr (s : State) (g : Nat) (l : List Sys2Proof.Machine.BaseReq) : (s.setChannel g l).ddr = s.ddr := rfl
@[simp] theorem State.setChannel_dir (s : State) (g : Nat) (l : List Sys2Proof.Machine.BaseReq) : (s.setChannel g l).dir = s.dir := rfl
@[simp] theorem State.setChannel_lanes (s : State) (g : Nat) (l : List Sys2Proof.Machine.BaseReq) : (s.setChannel g l).lanes = s.lanes := rfl
@[simp] theorem State.setChannel_testLanes (s : State) (g : Nat) (l : List Sys2Proof.Machine.BaseReq) : (s.setChannel g l).testLanes = s.testLanes := rfl
@[simp] theorem State.setChannel_bootFn (s : State) (g : Nat) (l : List Sys2Proof.Machine.BaseReq) : (s.setChannel g l).bootFn = s.bootFn := rfl
@[simp] theorem State.setChannel_ld (s : State) (g : Nat) (l : List Sys2Proof.Machine.BaseReq) : (s.setChannel g l).ld = s.ld := rfl
@[simp] theorem State.setChannel_st (s : State) (g : Nat) (l : List Sys2Proof.Machine.BaseReq) : (s.setChannel g l).st = s.st := rfl
@[simp] theorem State.setChannel_shims (s : State) (g : Nat) (l : List Sys2Proof.Machine.BaseReq) : (s.setChannel g l).shims = s.shims := rfl
@[simp] theorem State.setChannel_cfg (s : State) (g : Nat) (l : List Sys2Proof.Machine.BaseReq) : (s.setChannel g l).cfg = s.cfg := rfl
@[simp] theorem State.setChannel_hdm (s : State) (g : Nat) (l : List Sys2Proof.Machine.BaseReq) : (s.setChannel g l).hdm = s.hdm := rfl
@[simp] theorem State.setChannel_ras (s : State) (g : Nat) (l : List Sys2Proof.Machine.BaseReq) : (s.setChannel g l).ras = s.ras := rfl
@[simp] theorem State.setChannel_block (s : State) (g : Nat) (l : List Sys2Proof.Machine.BaseReq) : (s.setChannel g l).block = s.block := rfl
@[simp] theorem State.setChannel_errLog (s : State) (g : Nat) (l : List Sys2Proof.Machine.BaseReq) : (s.setChannel g l).errLog = s.errLog := rfl
@[simp] theorem State.setChannel_ideKeys (s : State) (g : Nat) (l : List Sys2Proof.Machine.BaseReq) : (s.setChannel g l).ideKeys = s.ideKeys := rfl
@[simp] theorem State.setChannel_bsKeys (s : State) (g : Nat) (l : List Sys2Proof.Machine.BaseReq) : (s.setChannel g l).bsKeys = s.bsKeys := rfl
@[simp] theorem State.setChannel_th (s : State) (g : Nat) (l : List Sys2Proof.Machine.BaseReq) : (s.setChannel g l).th = s.th := rfl
@[simp] theorem State.setChannel_stop (s : State) (g : Nat) (l : List Sys2Proof.Machine.BaseReq) : (s.setChannel g l).stop = s.stop := rfl
@[simp] theorem State.setChannel_nv (s : State) (g : Nat) (l : List Sys2Proof.Machine.BaseReq) : (s.setChannel g l).nv = s.nv := rfl
@[simp] theorem State.setChannel_wear (s : State) (g : Nat) (l : List Sys2Proof.Machine.BaseReq) : (s.setChannel g l).wear = s.wear := rfl
@[simp] theorem State.setChannel_sec (s : State) (g : Nat) (l : List Sys2Proof.Machine.BaseReq) : (s.setChannel g l).sec = s.sec := rfl
@[simp] theorem State.setChannel_pwr (s : State) (g : Nat) (l : List Sys2Proof.Machine.BaseReq) : (s.setChannel g l).pwr = s.pwr := rfl
@[simp] theorem State.setChannel_pins (s : State) (g : Nat) (l : List Sys2Proof.Machine.BaseReq) : (s.setChannel g l).pins = s.pins := rfl
@[simp] theorem State.setChannel_sal (s : State) (g : Nat) (l : List Sys2Proof.Machine.BaseReq) : (s.setChannel g l).sal = s.sal := rfl
@[simp] theorem State.setChannel_pub (s : State) (g : Nat) (l : List Sys2Proof.Machine.BaseReq) : (s.setChannel g l).pub = s.pub := rfl
@[simp] theorem State.setChannel_reg (s : State) (g : Nat) (l : List Sys2Proof.Machine.BaseReq) : (s.setChannel g l).reg = s.reg := rfl
@[simp] theorem State.setChannel_freeCount (s : State) (g : Nat) (l : List Sys2Proof.Machine.BaseReq) : (s.setChannel g l).freeCount = s.freeCount := rfl
@[simp] theorem State.setChannel_out (s : State) (g : Nat) (l : List Sys2Proof.Machine.BaseReq) : (s.setChannel g l).out = s.out := rfl
@[simp] theorem State.setChannel_stalled (s : State) (g : Nat) (l : List Sys2Proof.Machine.BaseReq) : (s.setChannel g l).stalled = s.stalled := rfl
@[simp] theorem State.setChannel_pending (s : State) (g : Nat) (l : List Sys2Proof.Machine.BaseReq) : (s.setChannel g l).pending = s.pending := rfl
@[simp] theorem State.setChannel_mem_bytes (s : State) (g : Nat) (l : List Sys2Proof.Machine.BaseReq) : (s.setChannel g l).mem.bytes = s.mem.bytes := rfl
@[simp] theorem State.setChannel_mem_checks (s : State) (g : Nat) (l : List Sys2Proof.Machine.BaseReq) : (s.setChannel g l).mem.checks = s.mem.checks := rfl
@[simp] theorem State.setChannel_mem_written (s : State) (g : Nat) (l : List Sys2Proof.Machine.BaseReq) : (s.setChannel g l).mem.written = s.mem.written := rfl
@[simp] theorem State.setChannel_mem_banks (s : State) (g : Nat) (l : List Sys2Proof.Machine.BaseReq) : (s.setChannel g l).mem.banks = s.mem.banks := rfl
@[simp] theorem State.setChannel_mem_press (s : State) (g : Nat) (l : List Sys2Proof.Machine.BaseReq) : (s.setChannel g l).mem.press = s.mem.press := rfl
@[simp] theorem State.setChannel_mem_word2 (s : State) (g : Nat) (l : List Sys2Proof.Machine.BaseReq) : (s.setChannel g l).mem.word2 = s.mem.word2 := rfl
@[simp] theorem State.setChannel_mem_word4 (s : State) (g : Nat) (l : List Sys2Proof.Machine.BaseReq) : (s.setChannel g l).mem.word4 = s.mem.word4 := rfl
@[simp] theorem State.setChannel_mem_atBank (s : State) (g : Nat) (l : List Sys2Proof.Machine.BaseReq) : (s.setChannel g l).mem.atBank = s.mem.atBank := rfl
@[simp] theorem State.setChannel_mem_lastServed (s : State) (g : Nat) (l : List Sys2Proof.Machine.BaseReq) : (s.setChannel g l).mem.lastServed = s.mem.lastServed := rfl
@[simp] theorem State.setChannel_mem_hostReads (s : State) (g : Nat) (l : List Sys2Proof.Machine.BaseReq) : (s.setChannel g l).mem.hostReads = s.mem.hostReads := rfl
@[simp] theorem State.setChannel_mem_preg (s : State) (g : Nat) (l : List Sys2Proof.Machine.BaseReq) : (s.setChannel g l).mem.preg = s.mem.preg := rfl
@[simp] theorem State.setChannel_mem_rotation (s : State) (g : Nat) (l : List Sys2Proof.Machine.BaseReq) : (s.setChannel g l).mem.rotation = s.mem.rotation := rfl
@[simp] theorem State.setChannel_mem_age (s : State) (g : Nat) (l : List Sys2Proof.Machine.BaseReq) : (s.setChannel g l).mem.age = s.mem.age := rfl
@[simp] theorem State.setChannel_mem_cycle (s : State) (g : Nat) (l : List Sys2Proof.Machine.BaseReq) : (s.setChannel g l).mem.cycle = s.mem.cycle := rfl
@[simp] theorem State.setChannel_mem_repairs (s : State) (g : Nat) (l : List Sys2Proof.Machine.BaseReq) : (s.setChannel g l).mem.repairs = s.mem.repairs := rfl
@[simp] theorem State.setChannel_mem_trackers (s : State) (g : Nat) (l : List Sys2Proof.Machine.BaseReq) : (s.setChannel g l).mem.trackers = s.mem.trackers := rfl
@[simp] theorem State.setChannel_mem_barred (s : State) (g : Nat) (l : List Sys2Proof.Machine.BaseReq) : (s.setChannel g l).mem.barred = s.mem.barred := rfl
@[simp] theorem State.setChannel_mem_sramBad (s : State) (g : Nat) (l : List Sys2Proof.Machine.BaseReq) : (s.setChannel g l).mem.sramBad = s.mem.sramBad := rfl
@[simp] theorem State.setChannel_rd (s : State) (g : Nat) (l : List Sys2Proof.Machine.BaseReq) (idx sub : Nat) : (s.setChannel g l).rd idx sub = s.rd idx sub := rfl

@[simp] theorem State.setTracker_dev (s : State) (g : Nat) (t : List Sys2Proof.Machine.Track) : (s.setTracker g t).dev = s.dev := rfl
@[simp] theorem State.setTracker_jrn (s : State) (g : Nat) (t : List Sys2Proof.Machine.Track) : (s.setTracker g t).jrn = s.jrn := rfl
@[simp] theorem State.setTracker_panels (s : State) (g : Nat) (t : List Sys2Proof.Machine.Track) : (s.setTracker g t).panels = s.panels := rfl
@[simp] theorem State.setTracker_arrivals (s : State) (g : Nat) (t : List Sys2Proof.Machine.Track) : (s.setTracker g t).arrivals = s.arrivals := rfl
@[simp] theorem State.setTracker_links (s : State) (g : Nat) (t : List Sys2Proof.Machine.Track) : (s.setTracker g t).links = s.links := rfl
@[simp] theorem State.setTracker_qm (s : State) (g : Nat) (t : List Sys2Proof.Machine.Track) : (s.setTracker g t).qm = s.qm := rfl
@[simp] theorem State.setTracker_throttle (s : State) (g : Nat) (t : List Sys2Proof.Machine.Track) : (s.setTracker g t).throttle = s.throttle := rfl
@[simp] theorem State.setTracker_clkLost (s : State) (g : Nat) (t : List Sys2Proof.Machine.Track) : (s.setTracker g t).clkLost = s.clkLost := rfl
@[simp] theorem State.setTracker_memKept (s : State) (g : Nat) (t : List Sys2Proof.Machine.Track) : (s.setTracker g t).memKept = s.memKept := rfl
@[simp] theorem State.setTracker_lifecycle (s : State) (g : Nat) (t : List Sys2Proof.Machine.Track) : (s.setTracker g t).lifecycle = s.lifecycle := rfl
@[simp] theorem State.setTracker_warmRuns (s : State) (g : Nat) (t : List Sys2Proof.Machine.Track) : (s.setTracker g t).warmRuns = s.warmRuns := rfl
@[simp] theorem State.setTracker_ddr (s : State) (g : Nat) (t : List Sys2Proof.Machine.Track) : (s.setTracker g t).ddr = s.ddr := rfl
@[simp] theorem State.setTracker_dir (s : State) (g : Nat) (t : List Sys2Proof.Machine.Track) : (s.setTracker g t).dir = s.dir := rfl
@[simp] theorem State.setTracker_lanes (s : State) (g : Nat) (t : List Sys2Proof.Machine.Track) : (s.setTracker g t).lanes = s.lanes := rfl
@[simp] theorem State.setTracker_testLanes (s : State) (g : Nat) (t : List Sys2Proof.Machine.Track) : (s.setTracker g t).testLanes = s.testLanes := rfl
@[simp] theorem State.setTracker_bootFn (s : State) (g : Nat) (t : List Sys2Proof.Machine.Track) : (s.setTracker g t).bootFn = s.bootFn := rfl
@[simp] theorem State.setTracker_ld (s : State) (g : Nat) (t : List Sys2Proof.Machine.Track) : (s.setTracker g t).ld = s.ld := rfl
@[simp] theorem State.setTracker_st (s : State) (g : Nat) (t : List Sys2Proof.Machine.Track) : (s.setTracker g t).st = s.st := rfl
@[simp] theorem State.setTracker_shims (s : State) (g : Nat) (t : List Sys2Proof.Machine.Track) : (s.setTracker g t).shims = s.shims := rfl
@[simp] theorem State.setTracker_cfg (s : State) (g : Nat) (t : List Sys2Proof.Machine.Track) : (s.setTracker g t).cfg = s.cfg := rfl
@[simp] theorem State.setTracker_hdm (s : State) (g : Nat) (t : List Sys2Proof.Machine.Track) : (s.setTracker g t).hdm = s.hdm := rfl
@[simp] theorem State.setTracker_ras (s : State) (g : Nat) (t : List Sys2Proof.Machine.Track) : (s.setTracker g t).ras = s.ras := rfl
@[simp] theorem State.setTracker_block (s : State) (g : Nat) (t : List Sys2Proof.Machine.Track) : (s.setTracker g t).block = s.block := rfl
@[simp] theorem State.setTracker_errLog (s : State) (g : Nat) (t : List Sys2Proof.Machine.Track) : (s.setTracker g t).errLog = s.errLog := rfl
@[simp] theorem State.setTracker_ideKeys (s : State) (g : Nat) (t : List Sys2Proof.Machine.Track) : (s.setTracker g t).ideKeys = s.ideKeys := rfl
@[simp] theorem State.setTracker_bsKeys (s : State) (g : Nat) (t : List Sys2Proof.Machine.Track) : (s.setTracker g t).bsKeys = s.bsKeys := rfl
@[simp] theorem State.setTracker_th (s : State) (g : Nat) (t : List Sys2Proof.Machine.Track) : (s.setTracker g t).th = s.th := rfl
@[simp] theorem State.setTracker_stop (s : State) (g : Nat) (t : List Sys2Proof.Machine.Track) : (s.setTracker g t).stop = s.stop := rfl
@[simp] theorem State.setTracker_nv (s : State) (g : Nat) (t : List Sys2Proof.Machine.Track) : (s.setTracker g t).nv = s.nv := rfl
@[simp] theorem State.setTracker_wear (s : State) (g : Nat) (t : List Sys2Proof.Machine.Track) : (s.setTracker g t).wear = s.wear := rfl
@[simp] theorem State.setTracker_sec (s : State) (g : Nat) (t : List Sys2Proof.Machine.Track) : (s.setTracker g t).sec = s.sec := rfl
@[simp] theorem State.setTracker_pwr (s : State) (g : Nat) (t : List Sys2Proof.Machine.Track) : (s.setTracker g t).pwr = s.pwr := rfl
@[simp] theorem State.setTracker_pins (s : State) (g : Nat) (t : List Sys2Proof.Machine.Track) : (s.setTracker g t).pins = s.pins := rfl
@[simp] theorem State.setTracker_sal (s : State) (g : Nat) (t : List Sys2Proof.Machine.Track) : (s.setTracker g t).sal = s.sal := rfl
@[simp] theorem State.setTracker_pub (s : State) (g : Nat) (t : List Sys2Proof.Machine.Track) : (s.setTracker g t).pub = s.pub := rfl
@[simp] theorem State.setTracker_reg (s : State) (g : Nat) (t : List Sys2Proof.Machine.Track) : (s.setTracker g t).reg = s.reg := rfl
@[simp] theorem State.setTracker_freeCount (s : State) (g : Nat) (t : List Sys2Proof.Machine.Track) : (s.setTracker g t).freeCount = s.freeCount := rfl
@[simp] theorem State.setTracker_out (s : State) (g : Nat) (t : List Sys2Proof.Machine.Track) : (s.setTracker g t).out = s.out := rfl
@[simp] theorem State.setTracker_stalled (s : State) (g : Nat) (t : List Sys2Proof.Machine.Track) : (s.setTracker g t).stalled = s.stalled := rfl
@[simp] theorem State.setTracker_pending (s : State) (g : Nat) (t : List Sys2Proof.Machine.Track) : (s.setTracker g t).pending = s.pending := rfl
@[simp] theorem State.setTracker_mem_bytes (s : State) (g : Nat) (t : List Sys2Proof.Machine.Track) : (s.setTracker g t).mem.bytes = s.mem.bytes := rfl
@[simp] theorem State.setTracker_mem_checks (s : State) (g : Nat) (t : List Sys2Proof.Machine.Track) : (s.setTracker g t).mem.checks = s.mem.checks := rfl
@[simp] theorem State.setTracker_mem_written (s : State) (g : Nat) (t : List Sys2Proof.Machine.Track) : (s.setTracker g t).mem.written = s.mem.written := rfl
@[simp] theorem State.setTracker_mem_banks (s : State) (g : Nat) (t : List Sys2Proof.Machine.Track) : (s.setTracker g t).mem.banks = s.mem.banks := rfl
@[simp] theorem State.setTracker_mem_press (s : State) (g : Nat) (t : List Sys2Proof.Machine.Track) : (s.setTracker g t).mem.press = s.mem.press := rfl
@[simp] theorem State.setTracker_mem_word2 (s : State) (g : Nat) (t : List Sys2Proof.Machine.Track) : (s.setTracker g t).mem.word2 = s.mem.word2 := rfl
@[simp] theorem State.setTracker_mem_word4 (s : State) (g : Nat) (t : List Sys2Proof.Machine.Track) : (s.setTracker g t).mem.word4 = s.mem.word4 := rfl
@[simp] theorem State.setTracker_mem_channel (s : State) (g : Nat) (t : List Sys2Proof.Machine.Track) : (s.setTracker g t).mem.channel = s.mem.channel := rfl
@[simp] theorem State.setTracker_mem_atBank (s : State) (g : Nat) (t : List Sys2Proof.Machine.Track) : (s.setTracker g t).mem.atBank = s.mem.atBank := rfl
@[simp] theorem State.setTracker_mem_lastServed (s : State) (g : Nat) (t : List Sys2Proof.Machine.Track) : (s.setTracker g t).mem.lastServed = s.mem.lastServed := rfl
@[simp] theorem State.setTracker_mem_hostReads (s : State) (g : Nat) (t : List Sys2Proof.Machine.Track) : (s.setTracker g t).mem.hostReads = s.mem.hostReads := rfl
@[simp] theorem State.setTracker_mem_preg (s : State) (g : Nat) (t : List Sys2Proof.Machine.Track) : (s.setTracker g t).mem.preg = s.mem.preg := rfl
@[simp] theorem State.setTracker_mem_rotation (s : State) (g : Nat) (t : List Sys2Proof.Machine.Track) : (s.setTracker g t).mem.rotation = s.mem.rotation := rfl
@[simp] theorem State.setTracker_mem_age (s : State) (g : Nat) (t : List Sys2Proof.Machine.Track) : (s.setTracker g t).mem.age = s.mem.age := rfl
@[simp] theorem State.setTracker_mem_cycle (s : State) (g : Nat) (t : List Sys2Proof.Machine.Track) : (s.setTracker g t).mem.cycle = s.mem.cycle := rfl
@[simp] theorem State.setTracker_mem_repairs (s : State) (g : Nat) (t : List Sys2Proof.Machine.Track) : (s.setTracker g t).mem.repairs = s.mem.repairs := rfl
@[simp] theorem State.setTracker_mem_barred (s : State) (g : Nat) (t : List Sys2Proof.Machine.Track) : (s.setTracker g t).mem.barred = s.mem.barred := rfl
@[simp] theorem State.setTracker_mem_sramBad (s : State) (g : Nat) (t : List Sys2Proof.Machine.Track) : (s.setTracker g t).mem.sramBad = s.mem.sramBad := rfl
@[simp] theorem State.setTracker_rd (s : State) (g : Nat) (t : List Sys2Proof.Machine.Track) (idx sub : Nat) : (s.setTracker g t).rd idx sub = s.rd idx sub := rfl

/-! Reads of what was written. -/

theorem State.rd_wr (s : State) (idx sub v i j : Nat) :
    (s.wr idx sub v).rd i j = if objKey i j = objKey idx sub then v else s.rd i j :=
  Tab.look_put ..

@[simp] theorem State.rd_wr_same (s : State) (idx sub v : Nat) : (s.wr idx sub v).rd idx sub = v :=
  Tab.look_put_same ..

theorem State.rd_wr_ne (s : State) {idx sub i j : Nat} (v : Nat) (h : objKey i j ≠ objKey idx sub) :
    (s.wr idx sub v).rd i j = s.rd i j :=
  Tab.look_put_ne _ _ _ h

@[simp] theorem State.rd_bump_same (s : State) (idx sub n : Nat) :
    (s.bump idx sub n).rd idx sub = satAdd maxU32 (s.rd idx sub) n :=
  Tab.look_put_same ..

theorem State.rd_bump_ne (s : State) {idx sub i j : Nat} (n : Nat) (h : objKey i j ≠ objKey idx sub) :
    (s.bump idx sub n).rd i j = s.rd i j :=
  Tab.look_put_ne _ _ _ h

@[simp] theorem State.emit_out (s : State) (o : Out) : (s.emit o).out = s.out ++ [o] := rfl

@[simp] theorem State.drawn_freeCount (s : State) : s.drawn.freeCount = s.freeCount + 1 := rfl

@[simp] theorem State.goto_dev_state (s : State) (d : DevState) : (s.goto d).dev.state = d := rfl

@[simp] theorem State.hold_eventAt_same (s : State) (source subsys ev inst : Nat) :
    (s.eventAt source subsys ev inst).hold source = (s.hold source).post subsys ev inst :=
  Tab.look_put_same ..

theorem State.hold_eventAt_ne (s : State) {source k : Nat} (subsys ev inst : Nat) (h : k ≠ source) :
    (s.eventAt source subsys ev inst).hold k = s.hold k :=
  Tab.look_put_ne _ _ _ h

@[simp] theorem State.hold_event_same (s : State) (subsys ev inst : Nat) :
    (s.event subsys ev inst).hold subsys = (s.hold subsys).post subsys ev inst :=
  Tab.look_put_same ..

theorem State.hold_event_ne (s : State) {subsys k : Nat} (ev inst : Nat) (h : k ≠ subsys) :
    (s.event subsys ev inst).hold k = s.hold k :=
  Tab.look_put_ne _ _ _ h

@[simp] theorem State.hold_wr (s : State) (idx sub v k : Nat) : (s.wr idx sub v).hold k = s.hold k := rfl

@[simp] theorem State.hold_bump (s : State) (idx sub n k : Nat) : (s.bump idx sub n).hold k = s.hold k := rfl

@[simp] theorem State.hold_emit (s : State) (o : Out) (k : Nat) : (s.emit o).hold k = s.hold k := rfl

@[simp] theorem State.setJhold_same (s : State) (code : Nat) (h : JHold) : (s.setJhold code h).jhold code = h :=
  Tab.look_put_same ..

theorem State.setJhold_ne (s : State) {code k : Nat} (h : JHold) (hk : k ≠ code) :
    (s.setJhold code h).jhold k = s.jhold k :=
  Tab.look_put_ne _ _ _ hk

@[simp] theorem State.panel_setPanel_same (s : State) (p : Nat) (x : Panel) : (s.setPanel p x).panel p = x :=
  Tab.look_put_same ..

theorem State.panel_setPanel_ne (s : State) {p q : Nat} (x : Panel) (h : q ≠ p) :
    (s.setPanel p x).panel q = s.panel q :=
  Tab.look_put_ne _ _ _ h

@[simp] theorem State.link_setLink_same (s : State) (l : Nat) (x : Link) : (s.setLink l x).link l = x :=
  Tab.look_put_same ..

theorem State.link_setLink_ne (s : State) {l k : Nat} (x : Link) (h : k ≠ l) : (s.setLink l x).link k = s.link k :=
  Tab.look_put_ne _ _ _ h

@[simp] theorem State.bank_setBank_same (s : State) (b : Nat) (x : Bank) : (s.setBank b x).bank b = x :=
  Tab.look_put_same ..

theorem State.bank_setBank_ne (s : State) {b k : Nat} (x : Bank) (h : k ≠ b) : (s.setBank b x).bank k = s.bank k :=
  Tab.look_put_ne _ _ _ h

@[simp] theorem State.queue_setQueue_same (s : State) (q : Nat) (x : Queue) : (s.setQueue q x).queue q = x :=
  Tab.look_put_same ..

theorem State.queue_setQueue_ne (s : State) {q k : Nat} (x : Queue) (h : k ≠ q) :
    (s.setQueue q x).queue k = s.queue k :=
  Tab.look_put_ne _ _ _ h

@[simp] theorem State.mover_setMover_same (s : State) (m : Nat) (x : Mover) : (s.setMover m x).mover m = x :=
  Tab.look_put_same ..

theorem State.mover_setMover_ne (s : State) {m k : Nat} (x : Mover) (h : k ≠ m) :
    (s.setMover m x).mover k = s.mover k :=
  Tab.look_put_ne _ _ _ h

@[simp] theorem State.lane_setLane_same (s : State) (k : Nat) (x : Lane) : (s.setLane k x).lane k = x :=
  Tab.look_put_same ..

theorem State.lane_setLane_ne (s : State) {k j : Nat} (x : Lane) (h : j ≠ k) : (s.setLane k x).lane j = s.lane j :=
  Tab.look_put_ne _ _ _ h

@[simp] theorem State.chan_setChan_same (s : State) (c : Nat) (x : DdrChan) : (s.setChan c x).chan c = x :=
  Tab.look_put_same ..

theorem State.chan_setChan_ne (s : State) {c k : Nat} (x : DdrChan) (h : k ≠ c) :
    (s.setChan c x).chan k = s.chan k :=
  Tab.look_put_ne _ _ _ h

@[simp] theorem State.pin_setPin_same (s : State) (n : Nat) (x : Pin) : (s.setPin n x).pin n = x :=
  Tab.look_put_same ..

theorem State.pin_setPin_ne (s : State) {n k : Nat} (x : Pin) (h : k ≠ n) : (s.setPin n x).pin k = s.pin k :=
  Tab.look_put_ne _ _ _ h

@[simp] theorem State.target_setTarget_same (s : State) (t : Nat) (x : Target) : (s.setTarget t x).target t = x :=
  Tab.look_put_same ..

theorem State.target_setTarget_ne (s : State) {t k : Nat} (x : Target) (h : k ≠ t) :
    (s.setTarget t x).target k = s.target k :=
  Tab.look_put_ne _ _ _ h


end Sys2Proof.Machine
end

