-- ==== Sys2Proof/Laws/Memory.lean ====
section
/-! SUPPORT. The memory tier: a read after a write, what a write leaves, and that every memory operation keeps the canonical form. -/

namespace Sys2Proof.Machine

/-- Storing bytes keeps the canonical form. -/
theorem writeBytes_wf {m : List Host.Cell} (a n v : Nat) (h : Tab.wf memDefault m = true) :
    Tab.wf memDefault (writeBytes m a n v) = true := by
  induction n generalizing m a v with
  | zero => exact h
  | succ n ih => exact ih (a + 1) (v / 256) (Tab.put_wf memDefault a _ h)

/-- Storing bytes leaves every byte outside them. -/
theorem look_writeBytes_out (m : List Host.Cell) (a n v j : Nat) (h : j < a ∨ a + n ≤ j) :
    Tab.look memDefault (writeBytes m a n v) j = Tab.look memDefault m j := by
  induction n generalizing m a v with
  | zero => rfl
  | succ n ih =>
    unfold writeBytes
    rw [ih _ (a + 1) (v / 256) (by omega), Tab.look_put_ne memDefault m _ (by omega)]

/-- Bytes read elsewhere are as before. -/
theorem readBytes_writeBytes_apart (m : List Host.Cell) (a n v b k : Nat) (h : b + k ≤ a ∨ a + n ≤ b) :
    readBytes (writeBytes m a n v) b k = readBytes m b k := by
  induction k generalizing b with
  | zero => rfl
  | succ k ih =>
    unfold readBytes
    rw [look_writeBytes_out m a n v b (by omega), ih (b + 1) (by omega)]

/-- Bytes read back are the bytes stored. -/
theorem readBytes_writeBytes (m : List Host.Cell) (a n v : Nat) :
    readBytes (writeBytes m a n v) a n = v % 256 ^ n := by
  induction n generalizing m a v with
  | zero => simp [readBytes, Nat.mod_one]
  | succ n ih =>
    unfold readBytes writeBytes
    rw [ih, look_writeBytes_out _ (a + 1) n _ a (by omega), Tab.look_put_same, Nat.pow_succ, Nat.mul_comm (256 ^ n) 256,
      Nat.mod_mul]
    simp

/-- The data of a stored word read back. -/
@[simp] theorem Mem.store_data (m : Mem) (pl d c : Nat) : (m.store pl d c).data pl = d % 2 ^ 256 := by
  have e : (256 : Nat) ^ 32 = 2 ^ 256 := by decide
  unfold Mem.data Mem.store
  rw [readBytes_writeBytes, e]

/-- Storing a word leaves the data of every other. -/
theorem Mem.store_data_ne (m : Mem) {pl q : Nat} (d c : Nat) (h : q ≠ pl) : (m.store pl d c).data q = m.data q := by
  have a : q * 32 + 32 ≤ pl * 32 ∨ pl * 32 + 32 ≤ q * 32 := by omega
  unfold Mem.data Mem.store
  rw [readBytes_writeBytes_apart m.bytes (pl * 32) 32 d (q * 32) 32 a]

/-- The check bits of a stored word read back. -/
@[simp] theorem Mem.store_chk (m : Mem) (pl d c : Nat) : (m.store pl d c).chk pl = c :=
  Tab.look_put_same defaultCheck m.checks pl c

/-- Storing a word leaves the check bits of every other. -/
theorem Mem.store_chk_ne (m : Mem) {pl q : Nat} (d c : Nat) (h : q ≠ pl) : (m.store pl d c).chk q = m.chk q :=
  Tab.look_put_ne defaultCheck m.checks c h

/-- What the memory tier stores: the bytes and the check bits. -/
def State.words (s : State) : List Host.Cell × Tab Nat := (s.mem.bytes, s.mem.checks)

/-- The canonical form depends on the stored words alone. -/
theorem Memory.wf_of_words {s t : State} (h : t.words = s.words) (w : Memory.wf s = true) : Memory.wf t = true := by
  have hb : t.mem.bytes = s.mem.bytes := congrArg Prod.fst h
  have hc : t.mem.checks = s.mem.checks := congrArg Prod.snd h
  unfold Memory.wf at w ⊢
  rw [hb, hc]
  exact w

/-- Storing one word keeps the canonical form. -/
theorem Memory.wf_store {s : State} (pl d c : Nat) (h : Memory.wf s = true) :
    Memory.wf { s with mem := s.mem.store pl d c } = true := by
  unfold Memory.wf at h ⊢
  rw [Bool.and_eq_true] at h ⊢
  unfold Mem.store
  dsimp only
  exact ⟨writeBytes_wf (pl * 32) 32 d h.1, Tab.put_wf defaultCheck pl c h.2⟩

/-- Equal memories outside the stored words are equal words. -/
theorem State.words_of_mem {s t : State} (h : t.mem = s.mem) : t.words = s.words := by
  unfold State.words
  rw [h]

@[simp] theorem State.setBank_words (s : State) (b : Nat) (x : Bank) : (s.setBank b x).words = s.words := rfl
@[simp] theorem State.setTracker_words (s : State) (g : Nat) (t : List Track) : (s.setTracker g t).words = s.words := rfl
@[simp] theorem State.markWritten_words (s : State) (b r : Nat) : (s.markWritten b r).words = s.words := rfl
@[simp] theorem State.staleRepairs_words (s : State) (a : Nat) : (s.staleRepairs a).words = s.words := rfl
@[simp] theorem State.trackWriteback_words (s : State) (a : Nat) : (s.trackWriteback a).words = s.words := by
  unfold State.trackWriteback
  dsimp only
  split <;> rfl
@[simp] theorem State.wr_words (s : State) (i b v : Nat) : (s.wr i b v).words = s.words := rfl
@[simp] theorem State.bump_words (s : State) (i b n : Nat) : (s.bump i b n).words = s.words := rfl
@[simp] theorem State.count64_words (s : State) (i b n : Nat) : (s.count64 i b n).words = s.words := rfl
@[simp] theorem State.drawn_words (s : State) : s.drawn.words = s.words := rfl
@[simp] theorem State.event_words (s : State) (u e i : Nat) : (s.event u e i).words = s.words :=
  State.words_of_mem (State.event_mem s u e i)

@[simp] theorem State.darnExhausted_words (s : State) (b : Nat) : (s.darnExhausted b).words = s.words := by
  unfold State.darnExhausted
  dsimp only
  split <;> simp

@[simp] theorem State.hardFault_words (s : State) (a : Nat) : (s.hardFault a).words = s.words := by
  unfold State.hardFault State.startMigration
  dsimp only
  split
  · rfl
  · split
    · rfl
    · split <;> simp

@[simp] theorem State.trackCorrection_words (s : State) (a : Nat) : (s.trackCorrection a).words = s.words := by
  unfold State.trackCorrection
  dsimp only
  split
  · rfl
  · (repeat' split) <;> simp

/-- A read's counters, events and trackers store nothing (R129, R133, R137, R144). -/
@[simp] theorem State.noteWord_words (s : State) (req a : Nat) (c : WordClass) : (s.noteWord req a c).words = s.words := by
  unfold State.noteWord State.lastError
  dsimp only
  split
  · rfl
  · split <;> simp
  · simp
  · simp

@[simp] theorem State.queueRepair_words (s : State) (b r : Nat) (l : List (Nat × Nat)) : (s.queueRepair b r l).words = s.words := by
  unfold State.queueRepair
  dsimp only
  split
  · rfl
  · split
    · rfl
    · simp

@[simp] theorem State.uninit_words (s : State) (b : Nat) : (s.uninit b).words = s.words := by
  unfold State.uninit
  dsimp only
  split <;> simp

@[simp] theorem State.readWords_words (s : State) (req b r w n : Nat) : (s.readWords req b r w n).2.2.2.words = s.words := by
  induction n generalizing s w with
  | zero => rfl
  | succ n ih =>
    unfold State.readWords
    dsimp only
    rw [ih, State.noteWord_words]
    split <;> simp

/-- A read stores nothing (R114, R124). -/
@[simp] theorem State.readRow_words (s : State) (req b r w n : Nat) : (s.readRow req b r w n).state.words = s.words := by
  unfold State.readRow
  dsimp only
  split <;> simp

@[simp] theorem State.ownerFault_words (s : State) (b : Nat) : (s.ownerFault b).words = s.words := by
  unfold State.ownerFault; simp

@[simp] theorem State.rangeFault_words (s : State) (c : Nat) : (s.rangeFault c).words = s.words := by
  unfold State.rangeFault; simp

/-- A T0 read stores nothing. -/
@[simp] theorem State.t0Read_words (s : State) (c a n : Nat) : (s.t0Read c a n).state.words = s.words := by
  unfold State.t0Read
  dsimp only
  repeat' split
  all_goals simp

/-- Disturbing a bit of a link entry stores no word. -/
@[simp] theorem State.upsetLink_words (s : State) (b r k : Nat) : (s.upsetLink b r k).words = s.words := by
  unfold State.upsetLink
  split <;> rfl

/-- Disturbing stored bits keeps the canonical form. -/
theorem State.upset_wf {s : State} (b r : Nat) (l : List Nat) (h : Memory.wf s = true) : Memory.wf (s.upset b r l) = true := by
  induction l generalizing s with
  | nil => exact h
  | cons u t ih =>
    unfold State.upset
    split
    · exact ih (Memory.wf_of_words (State.upsetLink_words ..) h)
    · dsimp only
      split
      · exact ih (Memory.wf_store _ _ _ h)
      · exact ih (Memory.wf_store _ _ _ h)

/-- Writing a word keeps the canonical form (R126). -/
theorem State.putWordAs_wf {s : State} (a f d : Nat) (h : Memory.wf s = true) : Memory.wf (s.putWordAs a f d) = true := by
  unfold State.putWordAs
  exact Memory.wf_of_words (State.staleRepairs_words _ a) (Memory.wf_store (s.place a) _ _ h)

theorem State.putWord_wf {s : State} (a d : Nat) (h : Memory.wf s = true) : Memory.wf (s.putWord a d) = true :=
  State.putWordAs_wf a a d h

theorem State.putWords_wf {s : State} (b r w n v : Nat) (h : Memory.wf s = true) : Memory.wf (s.putWords b r w n v) = true := by
  induction n generalizing s w v with
  | zero => exact h
  | succ n ih =>
    unfold State.putWords
    exact ih (w + 1) (v / 2 ^ 256) (State.putWord_wf (wordAddr b r w) v h)

/-- The end of a wipe stores nothing (R117). -/
@[simp] theorem State.wipeEnds_words (s : State) (b : Nat) : (s.wipeEnds b).words = s.words := by
  unfold State.wipeEnds
  dsimp only
  split
  · simp
  · rfl

/-- Writing a row keeps the canonical form (R115). -/
theorem State.putRow_wf {s : State} (b r d : Nat) (h : Memory.wf s = true) : Memory.wf (s.putRow b r d) = true :=
  Memory.wf_of_words (State.wipeEnds_words _ b)
    (Memory.wf_of_words (State.markWritten_words _ b r) (State.putWords_wf b r 0 8 d h))

/-- A word write with byte enables keeps the canonical form (R104, R126). -/
theorem State.writeWord_wf {s : State} (req a be d : Nat) (h : Memory.wf s = true) :
    Memory.wf (s.writeWord req a be d).2 = true := by
  unfold State.writeWord
  dsimp only
  have h1 : Memory.wf (if s.isWritten (bankOf a) (rowOf a) then s else s.putRow (bankOf a) (rowOf a) 0) = true := by
    split
    · exact h
    · exact State.putRow_wf _ _ _ h
  split
  · exact h
  · split
    · split
      · exact Memory.wf_of_words (State.wr_words _ _ _ _) (State.putWordAs_wf _ _ _ h1)
      · exact State.putWord_wf _ _ h1
    · split
      · exact State.putWord_wf _ _ (State.putRow_wf _ _ _ h)
      · split
        · exact State.putWord_wf _ _ h
        · refine Memory.wf_of_words (by rw [State.trackWriteback_words, State.count64_words]) (State.putWord_wf _ _ (Memory.wf_of_words ?_ h))
          exact State.noteWord_words s req a _
        · exact Memory.wf_of_words (by simp) h

/-- A T0 requester's write keeps the canonical form. -/
theorem State.t0Write_wf {s : State} (c a be d : Nat) (h : Memory.wf s = true) : Memory.wf (s.t0Write c a be d).2 = true := by
  unfold State.t0Write
  dsimp only
  split
  · exact Memory.wf_of_words (by simp) h
  · split
    · exact State.writeWord_wf _ _ _ _ h
    · exact Memory.wf_of_words (by simp) h

theorem State.t0WritePoison_wf {s : State} (c a be d : Nat) (h : Memory.wf s = true) :
    Memory.wf (s.t0WritePoison c a be d) = true := by
  unfold State.t0WritePoison
  dsimp only
  split
  · exact Memory.wf_of_words (State.drawn_words _) (Memory.wf_store _ _ _ (State.t0Write_wf c a be d h))
  · exact State.t0Write_wf c a be d h

theorem State.t0WriteRow_wf {s : State} (c b r d : Nat) (h : Memory.wf s = true) : Memory.wf (s.t0WriteRow c b r d).2 = true := by
  unfold State.t0WriteRow
  split
  · exact Memory.wf_of_words (by simp) h
  · split
    · exact State.putRow_wf _ _ _ h
    · exact Memory.wf_of_words (by simp) h

/-- The initialisation engine's zeroing keeps the canonical form (R117). -/
theorem State.zeroWords_wf {s : State} (b r n : Nat) (h : Memory.wf s = true) : Memory.wf (s.zeroWords b r n) = true := by
  induction n generalizing s with
  | zero => exact h
  | succ n ih =>
    unfold State.zeroWords
    exact ih (Memory.wf_store (s.place (wordAddr b r n)) _ _ h)

/-- Repair write-backs keep the canonical form (R127). -/
theorem State.repairWords_wf {s : State} (l : List (Nat × Nat)) (h : Memory.wf s = true) : Memory.wf (s.repairWords l) = true := by
  induction l generalizing s with
  | nil => exact h
  | cons w t ih =>
    unfold State.repairWords
    exact ih (Memory.wf_of_words (State.trackWriteback_words _ w.1) (Memory.wf_store (s.place w.1) _ _ h))

/-- The memory after reset is in canonical form. -/
theorem State.reset_wf : Memory.wf State.reset = true := by decide

end Sys2Proof.Machine
end

