-- ==== Sys2Proof/Laws/Ops.lean ====
section
/-! SUPPORT. The shared operations: for each, everything it can do, said once. -/

namespace Sys2Proof.Machine

/-- A command from a source that is not served does nothing (R340). -/
theorem State.command_unserved {s : State} {src : Source} (idx sub ty : Nat) (bytes old : List Byte) (life fits : Bool) (eff : Effect)
    (h : s.served src = false) : s.command src idx sub ty bytes old life fits eff = s := by
  simp [State.command, h]

/-- Counting a request touches neither the transports' requests nor the security state. -/
@[simp] theorem State.countRequest_sal (s : State) (src : Source) : (s.countRequest src).sal = s.sal := by
  unfold State.countRequest; split <;> rfl

@[simp] theorem State.countRequest_sec (s : State) (src : Source) : (s.countRequest src).sec = s.sec := by
  unfold State.countRequest; split <;> rfl

/-- A write that its row answers is not held behind an earlier one of its object. -/
theorem State.answersNow_busy {s : State} {src : Source} {idx sub : Nat} (h : s.answersNow src idx sub = true) :
    ((s.countRequest src).firmwareBusy idx sub && firmwareServes src idx sub true) = false := by
  have e : (s.countRequest src).firmwareBusy idx sub = s.firmwareBusy idx sub := by simp [State.firmwareBusy]
  rw [e]
  revert h
  unfold State.answersNow
  cases s.sec.dead <;> cases s.firmwareBusy idx sub <;> cases firmwareServes src idx sub true <;> simp

/-- Nor is it INTERNAL where its checks accept it. -/
theorem State.answersNow_verdict {s : State} {src : Source} {idx sub : Nat} (h : s.answersNow src idx sub = true) (st : Status) :
    (s.countRequest src).verdict (firmwareServes src idx sub true) st = st := by
  have e : (s.sec.dead && firmwareServes src idx sub true) = false := by
    revert h
    unfold State.answersNow
    cases s.sec.dead <;> cases firmwareServes src idx sub true <;> simp
  cases st <;> simp [State.verdict, e]

/-- A refusal that its checks give stands whoever serves the object (R13). -/
theorem State.verdict_refused (s : State) (fw : Bool) {st : Status} (h : st ≠ .ok) : s.verdict fw st = st := by
  unfold State.verdict
  split
  · exact absurd rfl h
  · rfl

/-- A command whose checks before the object's own state check refuse it: journalled and answered with that status, no other effect
(R12, R13). -/
theorem State.command_refused {s : State} {src : Source} {idx sub ty : Nat} {bytes : List Byte} {life fits : Bool} (old : List Byte)
    (eff : Effect) (h : s.served src = true) (hd : s.answersNow src idx sub = true)
    (hs : (s.countRequest src).writeStatus idx sub ty bytes life fits ≠ .ok) :
    s.command src idx sub ty bytes old life fits eff =
      (s.countRequest src).answer
        ⟨idx, sub, ((s.countRequest src).writeStatus idx sub ty bytes life fits).code, src, ty,
          if noOld idx sub ((s.countRequest src).writeStatus idx sub ty bytes life fits) then none else some old, bytes⟩
        (.status src ((s.countRequest src).writeStatus idx sub ty bytes life fits).code) := by
  have e : (s.countRequest src).tryWrite idx sub ty bytes life fits eff =
      ((s.countRequest src).writeStatus idx sub ty bytes life fits, s.countRequest src) := by
    unfold State.tryWrite
    split
    · exact absurd ‹_› hs
    · rfl
  simp only [State.command, h, if_true, e, State.answersNow_busy hd, State.answersNow_verdict hd, Bool.false_eq_true, if_false]

/-- A command that passes those checks: its effect decides the status, and the state the answer is written in (R12, R13). -/
theorem State.command_taken {s : State} {src : Source} {idx sub ty : Nat} {bytes : List Byte} {life fits : Bool} (old : List Byte)
    (eff : Effect) (h : s.served src = true) (hd : s.answersNow src idx sub = true)
    (hs : (s.countRequest src).writeStatus idx sub ty bytes life fits = .ok) :
    s.command src idx sub ty bytes old life fits eff =
      (eff (s.countRequest src)).2.answer
        ⟨idx, sub, (eff (s.countRequest src)).1.code, src, ty, if noOld idx sub (eff (s.countRequest src)).1 then none else some old, bytes⟩
        (.status src (eff (s.countRequest src)).1.code) := by
  have e : (s.countRequest src).tryWrite idx sub ty bytes life fits eff = eff (s.countRequest src) := by
    unfold State.tryWrite
    rw [hs]
  simp only [State.command, h, if_true, e, State.answersNow_busy hd, State.answersNow_verdict hd, Bool.false_eq_true, if_false]

/-- A row's answer: after the earlier requests of its source, at once, or dropped where its transport is not served (R347, R350). -/
theorem State.say_cases (s : State) (src : Source) (op idx sub : Nat) (o : Out) :
    (s.awaits src = true ∧ s.say src op idx sub o = s.openReq { s.rowReq src op idx sub [] with reply := some o }) ∨
    (s.awaits src = false ∧ s.served src = true ∧ s.say src op idx sub o = s.emit o) ∨
    (s.awaits src = false ∧ s.served src = false ∧ s.say src op idx sub o = s) := by
  cases a : s.awaits src
  · cases v : s.served src
    · exact .inr (.inr ⟨rfl, rfl, by simp [State.say, a, v]⟩)
    · exact .inr (.inl ⟨rfl, rfl, by simp [State.say, a, v]⟩)
  · exact .inl ⟨rfl, by simp [State.say, a]⟩

/-- An answer is journalled and said at once, or waits with its entry for the journal (R347, R363). -/
theorem State.answer_cases (s : State) (r : JRec) (o : Out) :
    (s.journalOpen = true ∧ s.answer r o = (s.journalWrite r false).say r.source 2 r.idx r.sub o) ∨
    (s.journalOpen = false ∧ s.answer r o = State.openReq { s with jrn := { s.jrn with waiting := s.jrn.waiting ++ [(r, o)] } }
      { s.rowReq r.source 2 r.idx r.sub [] with journal := true }) := by
  cases h : s.journalOpen
  · exact .inr ⟨rfl, by simp [State.answer, h]⟩
  · exact .inl ⟨rfl, by simp [State.answer, h]⟩

/-- Opening a request, saying an answer and writing its entry touch no memory word. -/
@[simp] theorem State.openReq_words (s : State) (o : OpenReq) : (s.openReq o).words = s.words := rfl

@[simp] theorem State.say_words (s : State) (src : Source) (op idx sub : Nat) (o : Out) : (s.say src op idx sub o).words = s.words := by
  obtain ⟨-, h⟩ | ⟨-, -, h⟩ | ⟨-, -, h⟩ := s.say_cases src op idx sub o
  · rw [h]; rfl
  · rw [h]; rfl
  · rw [h]

@[simp] theorem State.answer_words (s : State) (r : JRec) (o : Out) : (s.answer r o).words = s.words := by
  obtain ⟨-, h⟩ | ⟨-, h⟩ := s.answer_cases r o
  · rw [h, State.say_words]
    exact State.words_of_mem rfl
  · rw [h]; rfl

/-- An internal source's entry is held, or lost: then it is counted, and the first of a run writes JOURNAL_LOST (R362). -/
theorem State.journalInternal_cases (s : State) (r : JRec) :
    ((s.jhold r.source.code).recs.length < 8 ∧
      s.journalInternal r = s.setJhold r.source.code ⟨(s.jhold r.source.code).recs ++ [r], (s.jhold r.source.code).lossBefore⟩) ∨
    (8 ≤ (s.jhold r.source.code).recs.length ∧
      s.journalInternal r =
        (let s2 := State.setJhold { s with jrn := { s.jrn with lost := satAdd maxU32 s.jrn.lost 1 } } r.source.code
            ⟨(s.jhold r.source.code).recs, true⟩
         if (s.jhold r.source.code).lossBefore then s2 else s2.event 0x10 0x02 r.source.code)) := by
  by_cases h : (s.jhold r.source.code).recs.length < 8
  · exact .inl ⟨h, by simp [State.journalInternal, h]⟩
  · exact .inr ⟨Nat.le_of_not_lt h, by simp [State.journalInternal, h]⟩

/-- An event enters its own source's hold. -/
@[simp] theorem State.event_hold_same (s : State) (u e i : Nat) : (s.event u e i).hold u = (s.hold u).post u e i :=
  Tab.look_put_same ..

/-- An event leaves every other source's hold. -/
theorem State.event_hold_ne (s : State) {u k : Nat} (e i : Nat) (h : k ≠ u) : (s.event u e i).hold k = s.hold k :=
  Tab.look_put_ne _ _ _ h

/-- A hold never lists more than 8 records (R29). -/
theorem EvtHold.post_length {h : EvtHold} (u e i : Nat) (l : h.recs.length ≤ 8) : (h.post u e i).recs.length ≤ 8 := by
  unfold EvtHold.post
  split
  · simp; omega
  · exact l

/-- What is read of a hold after an internal source's hold is stored. -/
@[simp] theorem State.jhold_setJhold_same (s : State) (c : Nat) (h : JHold) : (s.setJhold c h).jhold c = h :=
  Tab.look_put_same ..

theorem State.jhold_setJhold_ne (s : State) {c k : Nat} (h : JHold) (n : k ≠ c) : (s.setJhold c h).jhold k = s.jhold k :=
  Tab.look_put_ne _ _ _ n

/-- A T0 read: out of range, of a bank its requester owns, or of another's (R23, R24, R112). -/
theorem State.t0Read_cases (s : State) (c a n : Nat) :
    (1280 ≤ bankOf a ∧ s.t0Read c a n = ⟨5, 0, s.rangeFault c⟩) ∨
    (bankOf a < 1280 ∧ s.owns c (bankOf a) = true ∧ s.t0Read c a n = s.readRow c (bankOf a) (rowOf a) (a % 8) n) ∨
    (bankOf a < 1280 ∧ s.owns c (bankOf a) = false ∧ s.t0Read c a n = ⟨5, 0, s.ownerFault (bankOf a)⟩) := by
  by_cases h : 1280 ≤ bankOf a
  · exact .inl ⟨h, by simp [State.t0Read, h]⟩
  · cases o : s.owns c (bankOf a)
    · exact .inr (.inr ⟨by omega, rfl, by simp [State.t0Read, h, o]⟩)
    · exact .inr (.inl ⟨by omega, rfl, by simp [State.t0Read, h, o]⟩)

/-- A T0 write: out of range, to a bank its requester owns, or to another's. -/
theorem State.t0Write_cases (s : State) (c a be d : Nat) :
    (1280 ≤ bankOf a ∧ s.t0Write c a be d = (5, s.rangeFault c)) ∨
    (bankOf a < 1280 ∧ s.owns c (bankOf a) = true ∧ s.t0Write c a be d = s.writeWord c a be d) ∨
    (bankOf a < 1280 ∧ s.owns c (bankOf a) = false ∧ s.t0Write c a be d = (5, s.ownerFault (bankOf a))) := by
  by_cases h : 1280 ≤ bankOf a
  · exact .inl ⟨h, by simp [State.t0Write, h]⟩
  · cases o : s.owns c (bankOf a)
    · exact .inr (.inr ⟨by omega, rfl, by simp [State.t0Write, h, o]⟩)
    · exact .inr (.inl ⟨by omega, rfl, by simp [State.t0Write, h, o]⟩)

/-- A stop is asserted in MANAGED and OPERATIONAL alone, and not while T0 is held in reset (R31). -/
theorem State.assertStop_otherwise {s : State} (why : Nat)
    (h : ¬((s.dev.state = .managed ∨ s.dev.state = .operational) ∧ s.dev.held = false)) : s.assertStop why = s := by
  unfold State.assertStop
  rw [if_neg h]

end Sys2Proof.Machine
end

