-- ==== Sys2Proof/Tests/Slice0.lean ====
section
/-! SUPPORT. Tests: an ill-formed command for each check, the worked examples of the spec, and for each obligation with hypotheses the
states and operands that meet them. -/

namespace Sys2Proof.Tests

set_option Elab.async false

open Sys2Proof.Machine

/-- The next state of an outcome; `d` where it stops. -/
def outOf (o : Host.Outcome State Fault Refusal) (d : State) : State :=
  match o with
  | .next t => t
  | _ => d
abbrev i3c : Source := ⟨1, 0⟩
def st (d : DevState) : State :=
  let r := State.reset
  { r with dev := { r.dev with state := d }, jrn := { r.jrn with reserve := 1000 }, pwr := { r.pwr with inRange := List.range 13 } }
abbrev man : State := st .managed
abbrev op : State := st .operational
abbrev qui : State := st .quiescing
def step3 (n : Nat) (s : State) : State := { s with stop := ⟨n, 4, 0⟩ }
def setReg (i j v : Nat) (s : State) : State := s.wr i j v
def setPan (p : Nat) (f : Panel → Panel) (s : State) : State := s.setPanel p (f (s.panel p))
def ready (s : State) : State := { s with th := { s.th with coolantOk := true } }
def held (s : State) : State := { s with dev := { s.dev with held := true } }
def chan (c : Nat) (f : DdrChan → DdrChan) (s : State) : State := s.setChan c (f (s.chan c))
def rdy (s : State) : State := chan 0 (fun x => { x with cstate := .ready, dimms := 1 }) s
def lcy (n : Nat) (s : State) : State := { s with lifecycle := n }
def running (p : Nat) (s : State) : State := setPan p (fun x => { x with pstate := .running, slots := [(0, .active), (1, .valid), (2, .staged)] }) s
def setBk (b : Nat) (f : Bank → Bank) (s : State) : State := s.setBank b (f (s.bank b))
def own (b c : Nat) (s : State) : State := setBk b (fun x => { x with owner := c, wipePending := false }) s
def port (k t : Nat) (l : List PortReq) (s : State) : State := s.setPort k t l
def pr (row : Nat) (w : Bool) (d : Nat) : PortReq := ⟨row, 3, w, false, 15, d, 0, 1, false, 0⟩
def lnk (l : Nat) (f : Link → Link) (s : State) : State := s.setLink l (f (s.link l))
def pcie (p : Nat) (s : State) : State := setReg 0x5100 p (2^30 + 2^24) (lnk (16 * p) (fun x => { x with active := true, width := 16, rate := 5 }) s)
def cxl (p : Nat) (s : State) : State := setReg 0x5100 p (2 * 2^30 + 2^24) (lnk (16 * p) (fun x => { x with active := true, width := 16, rate := 5 }) s)
def que (q : Nat) (f : Queue → Queue) (s : State) : State := s.setQueue q (f (s.queue q))
def mov (m : Nat) (f : Mover → Mover) (s : State) : State := s.setMover m (f (s.mover m))
def fw : Source := ⟨0x10, 0⟩
def qm0 : State := { setReg 0x6000 1 1 (setReg 0x6000 2 5 (own 6 0x40 (own 5 0x40 (own 7 0x44 (own 8 0x42 (pcie 5 op)))))) with qm := { Qm.init with slots := [(0, ⟨true, false, 5⟩), (1, ⟨true, false, 6⟩)] } }
def stp (consumer cid : Nat) : Nat := 2^255 + 31 * 2^250 + consumer * 2^248 + cid * 2^243 + 64 * 2^222
def qm1 (consumer cid : Nat) : State := que 4095 (fun x => { x with setup := stp consumer cid }) qm0
def msg (n : Nat) : List Byte := (List.range n).map (fun k => BitVec.ofNat 8 (k + 1))
def hput (k v : Nat) (s : State) : State := { s with hdm := Tab.put (fun _ => 0) s.hdm k v }
def dec (l : Nat) (s : State) : State := hput (32 * l + 7) 2 (hput (32 * l + 4) (2^9) (hput (32 * l + 3) 64 s))
def stall (c : Nat) (s : State) : State := { s with stalled := [(c, .laceRetrainIdleEnd 0)] }
def dd0 : State := dec 16 <| dec 17 <| setReg 0x5200 1 1 (setReg 0x5201 0 10 (own 10 0x41 (setReg 0x5300 1 (2^30) (setReg 0x5300 4 1 (rdy (setReg 0x5202 2 (2^13 + 2^14) (setReg 0x5110 16 77 (setReg 0x5110 17 78 (cxl 1 op)))))))))
def cx (op field line : Nat) (s : State) : State := outOf (execCxlMemRequest 16 77 0 op field line 3 (2^64-1) 99 false s) s
def txn (s : State) : DirTxn := s.dir.txns.headD DirTxn.blank
def bad5 (s : State) : State := { s with mem := { s.mem with sramBad := [5] } }

namespace Small
def one (setup : Nat) : State :=
  let s := qm0.putRow 5 1040 7
  { s with qm := { s.qm with queues := [(4095, { Queue.init with setup := setup, msgs := 1, head := 1040, tail := 1040, cells := 1 })], links := [(5 * 4096 + 1040, some ⟨0, true, 200, 0⟩)] } }
def dqOf (k who : Nat) (done : Bool) : Deq := ⟨k, who, 0, 0, 0, 200, 0, false, done, 0⟩
def dq : State := let s := running 31 (one (stp 1 31)); { (que 4095 (fun x => { x with deq := some (dqOf 2 31 false) }) s) with qm := { (que 4095 (fun x => { x with deq := some (dqOf 2 31 false) }) s).qm with panelDeq := [(31, some 4095)] } }
def sn (n : Nat) : Snoop := ⟨77, false, n, 0⟩
def inDir (ph : DirPhase) (n : Nat) : State :=
  { dd0 with dir := { dd0.dir with nextId := 2, txns := [{ DirTxn.blank with id := 1, line := 5, phase := ph, snoops := [sn n] }] } }
def rdq : DdrReq := ⟨1, 5, false, 0, 0, false, 1, (0, 0), false⟩
def blank : Fuses := ⟨0, [], 0, 0, 0, []⟩
def jt : State := let s := lcy 1 (st .managed); { s with pins := { s.pins with ir := 0x41 }, sec := { s.sec with fuses := blank } }
end Small

namespace Device
def aged (n : Nat) (s : State) : State := { s with dev := { s.dev with aonTime := 2000000000 + n } }
def pl : State := { man with pwr := { man.pwr with clkUp := [3], calib := [(3, -320)] }, th := { man.th with sampled := [0, 1, 2, 3, 4] } }
end Device

namespace Tier
def mv (p : Nat) (f : Panel → Panel) : State := setPan p f man
def r15 : State := running 15 (running 0 (running 31 op))
def pw : State := own 1279 16 (port 0 1279 [pr 4095 true (2^2047 + 5)] r15)
def prd : State := own 1279 16 (port 0 1279 [pr 4095 false 0] r15)
def br (c bank : Nat) : BaseReq := ⟨c, (bank * 32768 + 7) * 32, true, 2^32-1, 99, false, none, 3, 4, 0⟩
def chn : State := { own 1279 0x44 op with mem := { (own 1279 0x44 op).mem with channel := [(39, [br 0x44 1279, br 0x42 1279])], lastServed := [(39, 0x42)] } }
def wr1 (s : State) : State := s.putRow 1279 4095 (2^2000 + 3)
def rep : Repair := ⟨1279, 4095, [(wordAddr 1279 4095 7, 12345)], false⟩
def sp : State := setReg 0x4310 3 (4095 * 8 + 7) (setReg 0x4310 2 1 (setReg 0x4310 1 1279 (own 1279 0x43 (wr1 man))))
end Tier

namespace Queues
def pq : State := outOf (execPanelEnqueueCell 31 4095 600 true false (msg 256) (running 31 (qm1 0 0))) op
def dsc : Nat := (8 * 2^20 + 512) * 2^192 + (8 * 2^20 + 1024) * 2^128 + 600 * 2^103 + 1 * 2^100 + 1 * 2^97
def ms : State := mov 15 (fun x => { x with enable := true, size := 4, base := 8 * 2^20, head := 0, tail := 1, desc := some dsc }) (qm0.putRow 8 2 777)
def tb := ms.tierBytes (dSrc dsc + 0) 256 3
def vs : State := setReg 0x5110 80 77 (setReg (0x6101 + 16) 63 (5 * 2^12 + 77) { qm0 with qm := { qm0.qm with vectors := [(4159, ⟨0x1000, 5, 0, false, true⟩)] } })
end Queues

namespace Attached
def dm (c : Nat) : Dimm := ⟨c, 0, true, true, 16, 1, 32, 6400⟩
def dmv : State := mov 15 (fun x => { x with enable := true, desc := some (320 * 2^192 + 8 * 2^148 + 64 * 2^103 + 2 * 2^100 + 1 * 2^97) }) dd0
def e1 : State := cx 1 3 5 dd0
def e2 : State := outOf (execDirSetReadReturn (txn e1).id e1) e1
def e3 : State := outOf (execDirEntryWriteAdmit (txn e2).id e2) e2
def f1 : State := let s := { e3 with dir := { e3.dir with txns := [] }, links := e3.links }; lnk 17 (fun x => { x with active := true }) s
def f2 : State := outOf (execCxlMemRequest 17 78 0 2 3 5 3 (2^64-1) 99 false f1) f1
def f3 : State := outOf (execDirSetReadReturn (txn f2).id f2) f2
def f4 : State := outOf (execDirEntryWriteAdmit (txn f3).id f3) f3
def f5 : State := outOf (execDirSnoopIssue 77 5 f4) f4
end Attached

namespace Lanes
def lane (k : Nat) (f : Lane → Lane) (s : State) : State := s.setLane k (f (s.lane k))
def lc : State := setReg 0x5100 2 (3 * 2^30 + 2^24 + 10 * 2^20 + 1) op
def tr : State := lane 32 (fun x => { x with lstate := .train, rate := 8 }) lc
def heard (n v : Nat) : List Nat := 0 :: bitLevels n v
def fr : Nat := trainingFrame 5 10 8 false 77 0 0 0
def tr2 : State := lane 32 (fun x => { x with linkRate := 10, switchSeen := true, switches := 16, good := 20 }) tr
def eqs : State := outOf (execLaceRateChange 32 tr2) tr2
def eq2 : State := lane 32 (fun x => {x with request := 0}) eqs
def lk : State := lane 32 (fun x => { x with lstate := .lock, markerLane := some 3 }) lc
def mkr (n : Nat) : Nat := markerBits n 0
def ac (b : Nat) : State := lane 32 (fun x => { x with lstate := .active, rxPower := 0, markerBad := b, locked := true, inLink := true }) (lnk 32 (fun x => { x with active := true, width := 1, rate := 10 }) lc)
def l4 : State := setReg 0x5100 2 (3 * 2^30 + 2^24 + 10 * 2^20 + 1 + 16 + 32+ 64+128+ 256) op
def f1 : State := lane 32 (fun x => { x with lstate := .lock, locked := true, logical := 0}) (lane 33 (fun x => { x with lstate := .lock, locked := true, logical := 1}) l4)
def f2 : State := lane 34 (fun x => { x with lstate := .disabled}) f1
def sd : State := setReg 0x5100 2 (1 * 2^30 + 2^24 + 6 * 2^20 + 1) op
def l0 : State := outOf (execPcieLtssmTransition 32 5 4 6 true false false 0 0 sd) sd
def lb : State := outOf (execLoopbackStart i3c 32 (10*2^24 + 4*2^20 + 7) lc) lc
def lbf : State := outOf (execLoopbackStart i3c 32 (10*2^24 + 1*2^18 + 7) lc) lc
end Lanes

namespace Checks
def t1 : State := setBk 5 (fun x => { x with wipePending := false }) (lcy 1 op)
def tl : State := outOf (execSelftestStartLogic i3c 6 t1) t1
def tn : State := outOf (execSelftestStartLane i3c (10 * 2^52 + 4 * 2^48 + 2 * 2^8 + 33) t1) t1
def tf : State := outOf (execSelftestStartFuse i3c 0 t1) t1
def um : State := outOf (execSelftestStartMemory i3c (2 * 2^16 + 5) (setReg 0x7800 3 10 (own 5 0 t1))) (setReg 0x7800 3 10 (own 5 0 t1))
def um2 : State := outOf (execMemorySliceStart 0 false um) um
end Checks

namespace Ports
def pc0 : Nat := 2^30 + 6 * 2^20 + 1
def pcA : State := outOf (execPortConfigWrite i3c 2 (pc0 + 2^24) op) op
def sd : State := pcA
def l0 : State := outOf (execPcieLtssmTransition 32 5 4 6 true false false 0 0 sd) sd
def l1 : State := outOf (execLinkUp 32 l0) l0
def rt : State := setReg 0x5100 1 (2^30 + 2^28 + 6*2^20 + 2^24 + 1) (setReg 0x5120 1 (16 * 2^32 + 0x1234) (pcie 1 op))
def rt1 : State := outOf (execRootCfgRead i3c rt) rt
def pe : State := setReg 0x5100 1 (2^30 + 6*2^20 + 2^24 + 1) (pcie 1 op)
def mvr : State := mov 3 (fun x => { x with asked := true }) (lnk 16 (fun x => {x with asks := [(5, .mover 3)]}) pe)
def nr : State := { lnk 16 (fun x => {x with flitMode := true}) pe with throttle := { pe.throttle with narrow := true } }
end Ports

namespace Lace
def pe : State := setReg 0x5100 1 (2^30 + 6*2^20 + 2^24 + 1) (pcie 1 op)
def sh0 : State := setReg 0x5103 1 4 pe
def shr : State := running 4 sh0
def full (s : State) : State := s.setShim 1 { s.shim 1 with rx := List.replicate 64 ⟨1, 16, 0, 9, true, msg 20, false⟩ }
def sh1 : State := outOf (execShimRxPacket 1 1 16 3 0 9 true (msg 20) 0 sh0) sh0
def lane (k : Nat) (f : Lane → Lane) (s : State) : State := s.setLane k (f (s.lane k))
def ll : State :=
  let s := setReg 0x5110 32 5 (setReg 0x5111 32 9 (setReg 0x5131 32 5 (setReg 0x5100 2 (3 * 2^30 + 2^24 + 10 * 2^20 + 1) op)))
  let s := lane 33 (fun x => { x with lstate := .active, locked := true, logical := 1, inLink := true, rate := 10 }) (lane 32 (fun x => { x with lstate := .active, locked := true, logical := 0, inLink := true, rate := 10 }) s)
  lnk 32 (fun x => { x with active := true, width := 2, rate := 10, lace := { x.lace with rxWidth := 2, txWidth := 2, rxNow := 2, peerWidth := 2, peerTypes := 255, capSeen := true, startSent := true, credit := (List.range 8).map (fun k => (k, 5)) } }) s
def fl (ty vc len : Nat) (p : List Byte) : List Byte :=
  let b := flitBytes (flitHeader ty 9 0 vc 0 0 0 false false len) p
  b.take 248 ++ leBytes 8 (crc64 (b.take 248))
def rq (tag : Nat) (space op len addr : Nat) (p : List Byte) : List Byte := leBytes 16 (requestHeader tag false space op len addr) ++ p
def fw1 : List Byte := fl 2 0 24 (rq 0 2 0 8 100 (msg 8))
def fr1 : List Byte := fl 3 0 16 (rq 6 2 0 80 100 [])
def fa (op : Nat) : List Byte := fl 5 0 (if op = 3 then 32 else 24) (rq 6 2 op 8 96 (msg (if op = 3 then 16 else 8)))
def ff : List Byte := fl 6 0 16 (rq 6 0 0 0 0 [])
def mvr : State := mov 3 (fun x => { x with asked := true }) (lnk 32 (fun x => {x with asks := [(5, .mover 3)]}) ll)
def fc : List Byte := fl 4 1 40 (leBytes 16 (completionHeader 5 false true 0 24 0) ++ msg 24)
def fu : List Byte := fl 9 2 40 (msg 40)
def noise : List Nat := (laceCode.fromRoots ((List.range 15).map laceCode.root)).reverse
def cn (k : Nat) (l : List Nat) : RxCodeword := ⟨k, 0, 0, 0 :: precode 0 l⟩
def bad : RxCodeword := cn 32 (List.replicate 2640 0 ++ noise.flatMap symbolLevels)
def zero (k : Nat) : RxCodeword := cn k (List.replicate 2720 0)
def nul (nak ackv : Bool) (ack : Nat): List Byte :=
  let b := flitBytes (flitHeader 0 9 0 0 2 7 ack ackv nak 0) []
  b.take 248 ++ leBytes 8 (crc64 (b.take 248))
def sent : State := outOf (execLaceShimTxFlit 32 5 fu (running 4 (setReg 0x5103 2 4 ll))) (running 4 (setReg 0x5103 2 4 ll))
def ta := (sent.takeAck 32 (flitHead (nul true false 0)))
def wt : State := lnk 32 (fun x => {x with lace := {x.lace with waiting := true}}) ll
def lz (f : Lace → Lace) : State := lnk 32 (fun x => {x with lace := f x.lace}) ll
def rt := outOf (execLacePartnerIdle 32 ll) ll
def ex : State := lnk 32 (fun x => {x with active := false, lace := {x.lace with capSeen := false, startSent := false}}) (lane 32 (fun x => {x with lstate := .exchange}) (lane 33 (fun x => {x with lstate := .exchange}) ll))
def cap : List Byte := fl 1 0 26 (ll.capPayload 32 false false)
def ex2 : State := lnk 32 (fun x => {x with lace := {x.lace with capSeen := true, startSent := true, starts := [0] }}) ex
def cap2 : List Byte := fl 1 0 26 (ll.capPayload 32 true true)
end Lace

namespace Loads
def t0 : State := lcy 1 op
def cmdF : Nat := 0x2000 * 2^64
def hostS : State := lcy 1 (setReg 0x5103 1 4 (pcie 1 op))
def ld (f : Loader → Loader) (s : State) : State := { s with ld := f s.ld }
def l1 : State := outOf (execLoaderLoad i3c cmdF t0) t0
def bh : List Byte := let b := leBytes 4 0x4D354248 ++ leBytes 4 0x4000 ++ leBytes 4 0x8000 ++ leBytes 16 1; b ++ leBytes 4 (crc32c b)
def lb : State := outOf (execLoaderBootLoad i3c t0) t0
def vf (f : Loader → Loader): State := let h := Hash.start.add (msg 5); ld (fun x => f {x with lstate := .verify, set := 5, slot := 2, hash := h, ended := some h.digest}) t0
def env (pos first last seq : Nat) (p : List Byte) : List Byte :=
  let b := leBytes 12 (0xE7A15C3D * 2^64 + pos * 2^61 + first * 2^60 + last * 2^59 + p.length * 2^16 + seq) ++ p
  b ++ leBytes 4 (crc32c b)
def ch (p : Nat) : State := setReg 0x3000 0xC (p * 16) t0
def hd (set : Nat) (slot : Nat) (bad : Nat): List Byte :=
  let n := popCount 32 set * 4000
  let b := (leBytes 64 (0x4D354C43 + 2^32 + 0x4D05 * 2^48 + (2^32-1) * 2^64 + set * 2^96 + slot * 2^128 + n * 2^160 + (64 + n * 524 + 40 + bad) * 2^192)).take 60
  b ++ leBytes 4 (crc32c b)
def l1p := ld (fun x => {x with preamble := false}) l1
def fr : State := outOf (execLoadHeader (hd 6 2 0) l1p) l1p
def rec (ty rest : Nat) (p : List Byte) : List Byte := let b := leBytes 8 (ty * 2^56 + rest) ++ p; b ++ (if ty = 0x46 then leBytes 4 (crc32c b) else [])
def w1 : Nat := 2 + 3 * 2^3 + 5 * 2^9 + 12 * 2^14
def fe := ld (fun x => {x with frames := 8000}) fr
def fs := ld (fun x => {x with signed := true}) fe
end Loads

namespace Dictionary
def wm (r : SalynReq) : List Byte := leBytes 8 (1 + r.op * 2^8 + r.tag * 2^32 + r.body.length * 2^48) ++ r.body
def pkt (r : SalynReq) : List Byte := mctpPacket 0 3 true true 0 10 ([0x7E, 0x1F, 0x2C, 0x53] ++ wm r)
def c9 : Source := ⟨1, 256 * 3 + 9⟩
def arr (r : SalynReq) (s : State) : State := outOf (execSalynMessageArrival ⟨1, 9⟩ (pkt r) s) s
def wreq (src : Source) (i b ty : Nat) (v : List Byte) : SalynReq := ⟨src, 2, 7, leBytes 2 i ++ leBytes 1 b ++ leBytes 1 ty ++ leBytes 2 v.length ++ [0,0] ++ v, false, 2⟩
def rreq (src : Source) (op i b : Nat) : SalynReq := ⟨src, op, 7, leBytes 2 i ++ leBytes 1 b ++ [0], false, 2⟩
def seen : WriteSeen := ⟨[], 0, 0, []⟩
def sr : SalynReq := rreq c9 1 0x1000 1
def sal (f : Salyn → Salyn) (s : State) : State := { s with sal := f s.sal }
def tgt : State := setReg 0x1111 2 (1 + 9 * 2^24) (op.setTarget 2 ⟨[], 0, 6, some (5, List.replicate 24 0, 0)⟩)
def oe (op : Nat) : OpenReq := ⟨rreq c9 op 0x7003 2, 0x7003, 2, true, false, 0, none, .ok, false, false⟩
def jr : JRec := ⟨0x3000, 1, 0x41, i3c, 4, none, leBytes 4 7⟩
def js : State := { op with jrn := { op.jrn with holds := [(2, ⟨[jr], true⟩)] } }
def due : State := let s := setReg 0x1111 2 (1 + 9 * 2^24) (op.setTarget 2 ⟨[(3, 0)], 4, 6, none⟩); { s with dev := { s.dev with aonTime := 5000 } }
def udp : State := setReg 0x1100 5 0xC0A80001 (setReg 0x1100 4 1 op)
def frg : Frag := ⟨9, 7, [(0, msg 16)], none, 3⟩
def ps : State := setReg 0x1100 9 1 (pcie 1 op)
def pk : List Byte := leBytes 4 (1 + 3 * 2^16 + 2^31 + 8 * 2^24) ++ msg 64
def lane (k : Nat) (f : Lane → Lane) (s : State) : State := s.setLane k (f (s.lane k))
def ll : State :=
  let s := setReg 0x1100 9 1 (setReg 0x5110 32 5 (setReg 0x5111 32 9 (setReg 0x5131 32 5 (setReg 0x5100 2 (3 * 2^30 + 2^24 + 10 * 2^20 + 1) op))))
  let s := lane 33 (fun x => { x with lstate := .active, locked := true, logical := 1, inLink := true, rate := 10 }) (lane 32 (fun x => { x with lstate := .active, locked := true, logical := 0, inLink := true, rate := 10 }) s)
  lnk 32 (fun x => { x with active := true, width := 2, rate := 10, lace := { x.lace with rxWidth := 2, txWidth := 2, rxNow := 2, peerWidth := 2, peerTypes := 255, capSeen := true, startSent := true, credit := (List.range 8).map (fun k => (k, 5)) } }) s
def fl (ty vc len : Nat) (p : List Byte) : List Byte :=
  let b := flitBytes (flitHeader ty 9 0 vc 0 0 0 false false len) p
  b.take 248 ++ leBytes 8 (crc64 (b.take 248))
def wq : SalynReq := wreq c9 0x1300 4 4 (leBytes 4 100)
end Dictionary

namespace Security
def fwWindow : Tab Byte :=
  ((List.range 204).map (fun k => (k, BitVec.ofNat 8 (0x8f9cdf08ac4e1b4f7356bfba9c34b7e99ffb930adb44a951319fb2dfbfa312e3f9ebe464147cc102d92324d099d927c1a50e42d57a08a116ffec0a29819d8c655300000000000000000000137903fe1008b8bc99a41ae9e95628bc64f2f1b20c2d7e9f5177a3c294d446229960fed4ba255a9d31c961eb74c6356d68c049b8923b61fa6ce669622e60f29fb600000000000000000000000000000000000000000000000000000000000000000000000000000000000000030000000000000004ffffffff4d0500014d354657 / 256 ^ k)))).filter (fun x => x.2 ≠ 0)
def fwPub : List Byte := leBytes 64 0x7903fe1008b8bc99a41ae9e95628bc64f2f1b20c2d7e9f5177a3c294d446229960fed4ba255a9d31c961eb74c6356d68c049b8923b61fa6ce669622e60f29fb6
def sec (f : Sec → Sec) (s : State) : State := { s with sec := f s.sec }
def fs (n life : Nat) : State := sec (fun x => { x with fuses := { x.fuses with life := lifeBits n } }) (lcy life op)
def fo (k v : Nat) : FuseOp := ⟨k, 0, v, none⟩
def aw : State := lcy 2 (st .awaitFw)
def ver (s : State) : State := setReg 0x1300 6 204 (sec (fun x => { x with window := fwWindow, verifying := true, keys := [(0, keyWord (keyHash fwPub))] }) s)
def thm (f : Thermal → Thermal) (s : State) : State := { s with th := f s.th }
def nj (k : Nat) (p : List (Nat × Nat)) : NvJob := ⟨k, p, 0⟩
def nv (f : Nv → Nv) (s : State) : State := { s with nv := f s.nv }
def tmp : State := (List.range 192).foldl (fun s n => setReg 0x2201 n 1600 s) op
def er (l : Nat) : EvtRec := { EvtRec.mk 9 3 77 0 with lostBefore := l }
def hs (l : Nat) : State := { op with dev := { op.dev with evtHolds := [(9, ⟨[er l], 0⟩)], evtCount := 1030 } }
end Security

/-- No fuse is programmed in a blank device, whatever the map of addresses. -/
theorem Small.blank_word (a : Nat) : Small.blank.word a = 0 := by
  unfold Fuses.word
  split <;> first | rfl | simp [Small.blank, Fuses.key, Tab.look]

/-- 500 MHz is within FCLK of either grade. -/
theorem slow_enough : decide (500000 % 2 ^ 32 ≤ Config.maxFclkKhz) = true := by
  cases h : Config.gradeS2 <;> simp [Config.maxFclkKhz, h]

/-- Whichever sensor is the nearest, it has moved 20 °C since the last calibration. -/
theorem Device.pl_moved : Device.pl.pllMoved 3 = true := by
  have h : ∀ k, k < 128 → Device.pl.sensor k = some 0 := by decide +kernel
  have e : Device.pl.pllTemp 3 = some 0 := h _ (Nat.mod_lt _ (by decide))
  unfold State.pllMoved
  rw [e]
  decide +kernel

/-- Leading symbols of 0 add nothing to a syndrome of the lane code. -/
theorem eval_zeros (x n : Nat) (l : List Nat) : laceCode.eval x (List.replicate n 0 ++ l) = laceCode.eval x l := by
  have hs : ∀ k, gfShift 10 0x409 k 0 = 0 := fun k => by
    induction k with
    | zero => rfl
    | succ k ih => rw [gfShift, withNat_eq, show gfStep 10 0x409 0 = 0 by decide, ih]
  have hm : ∀ k, gfMul 10 0x409 k 0 x = 0 := fun k => by
    induction k with
    | zero => rfl
    | succ k ih => rw [gfMul, hs, ih]; simp
  induction n with
  | zero => rfl
  | succ n ih =>
    rw [← ih]
    show laceCode.eval x (0 :: (List.replicate n 0 ++ l)) = _
    simp only [RsCode.eval, List.foldl_cons, RsCode.mul, laceCode, hm, withNat_eq, Nat.xor_self]

/-- A codeword of zeros with more errors than the lane code corrects. -/
theorem Lace.noise_uncorrectable : laceCode.correct (List.replicate 528 0 ++ Lace.noise) = none := by
  have h : laceCode.syndromes (List.replicate 528 0 ++ Lace.noise) = laceCode.syndromes Lace.noise := by
    simp only [RsCode.syndromes, eval_zeros]
  rw [RsCode.correct, h]
  decide +kernel

/-- The codeword of zeros. -/
theorem zeros_correct : laceCode.correct (List.replicate 544 0) = some (List.replicate 544 0) := by
  have h : laceCode.syndromes (List.replicate 544 0) = List.replicate 30 0 := by
    have e := fun x => eval_zeros x 544 []
    simp only [List.append_nil] at e
    simp only [RsCode.syndromes, e]
    decide +kernel
  rw [RsCode.correct, h]
  decide +kernel

/-- The first is not read, the others are. -/
theorem Lace.bad_unread : Lace.ll.readBlock Lace.bad = none := by
  have e : levelSymbols 544 (heardLevels (Lace.ll.lane Lace.bad.lane).rate (Lace.ll.lane Lace.bad.lane).inverted Lace.bad.levels)
      = List.replicate 528 0 ++ Lace.noise := by decide +kernel
  simp only [State.readBlock, readCodeword, e, Lace.noise_uncorrectable, Option.map_none]

theorem Lace.zeros_read : ∀ c ∈ [Lace.zero 32, Lace.zero 33], (Lace.ll.readBlock c).isSome = true := by
  have e : ∀ c ∈ [Lace.zero 32, Lace.zero 33],
      levelSymbols 544 (heardLevels (Lace.ll.lane c.lane).rate (Lace.ll.lane c.lane).inverted c.levels) = List.replicate 544 0 := by
    decide +kernel
  intro c h
  simp only [State.readBlock, readCodeword, e c h, zeros_correct, Option.map_some, Option.isSome_some]

/-- The bytes of a value give it back. -/
theorem leValue_leBytes (n v : Nat) : leValue (leBytes n v) = v % 256 ^ n := by
  induction n generalizing v with
  | zero => simp [leBytes, leValue, Nat.mod_one]
  | succ n ih =>
    rw [leBytes, leValue, ih, Nat.pow_succ, Nat.mul_comm (256 ^ n), Nat.mod_mul]
    simp [BitVec.toNat_ofNat]

/-- Which address a station has makes no difference to a frame for it. -/
theorem ipOfFrame_own {x : Nat} (h : x < 2 ^ 48) (l : List Byte) :
    ipOfFrame x (beBytes 6 x ++ l) = ipOfFrame 0 (List.replicate 6 0 ++ l) := by
  have h1 : beValue ((beBytes 6 x ++ l).take 6) = x := by
    rw [List.take_left' (by simp [beBytes, leBytes]), beValue, beBytes, List.reverse_reverse, leValue_leBytes]
    exact Nat.mod_eq_of_lt h
  have h2 : (beBytes 6 x ++ l).drop 14 = (List.replicate 6 0 ++ l).drop 14 := rfl
  have h3 : slice (beBytes 6 x ++ l) 12 2 = slice (List.replicate 6 0 ++ l) 12 2 := rfl
  have h4 : beValue ((List.replicate 6 (0 : Byte) ++ l).take 6) = 0 := rfl
  unfold ipOfFrame
  simp only [h1, h2, h3, h4]

/-- A value longer than any carrier holds. -/
def long : List Byte := List.replicate 4113 0

/-- A source code that no source has (R361). -/
def bad : Source := ⟨4, 0⟩

/-! Ill-formed commands, one for each operand check of `Instr.wf`, which refuses it. -/

theorem test_ill_formed_commands_1 : ([
  .stateCommandEnable bad,
  .stateCommandStop bad,
  .stateCommandClear bad,
  .porRelease 1024,
  .eventRecordRead bad,
  .tileMemClear bad 0 0,
  .tileMemClear i3c 32 0,
  .tileMemClearDone 32,
  .panelClockSelWrite bad 0 0,
  .panelClockSelWrite i3c 32 0,
  .userEvent 32 0,
  .panelResetEnd 32,
  .shuttleSwitch bad 0 0 false [],
  .shuttleSwitch i3c 32 0 false [],
  .shuttleSwitch i3c 0 8 false [],
  .shuttleSwitch i3c 0 0 false [⟨0, 2 ^ 16, 0, false⟩],
  .shuttleStage bad 0 0 [],
  .shuttleStage i3c 32 0 [],
  .shuttleStage i3c 0 8 [],
  .shuttleStage i3c 0 0 [⟨0, 2 ^ 16, 0, false⟩],
  .shuttleUnstage bad 0 0 [],
  .shuttleUnstage i3c 32 0 [],
  .shuttleUnstage i3c 0 8 [],
  .shuttleUnstage i3c 0 0 [⟨0, 2 ^ 16, 0, false⟩],
  .shuttleSelect bad 0 0 [],
  .shuttleSelect i3c 32 0 [],
  .shuttleSelect i3c 0 8 [],
  .shuttleSelect i3c 0 0 [⟨0, 2 ^ 16, 0, false⟩],
  .shuttleRelease bad 0 false [],
  .shuttleRelease i3c 32 false [],
  .shuttleRelease i3c 0 false [⟨0, 2 ^ 16, 0, false⟩],
  .shuttleHold bad 0 [],
  .shuttleHold i3c 32 [],
  .shuttleHold i3c 0 [⟨0, 2 ^ 16, 0, false⟩],
  .shuttleInvalidate bad 0 0 [],
  .shuttleInvalidate i3c 32 0 [],
  .shuttleInvalidate i3c 0 8 [],
  .shuttleInvalidate i3c 0 0 [⟨0, 2 ^ 16, 0, false⟩],
  .fabricShuttleReq 32 0 false [],
  .fabricShuttleReq 0 8 false []] : List Instr).all (fun c => !c.wf) = true := by decide +kernel

theorem test_ill_formed_commands_2 : ([
  .fabricShuttleReq 0 0 false [⟨0, 2 ^ 16, 0, false⟩],
  .queueArrivalRequest 32 [],
  .queueArrivalRequest 0 [⟨0, 2 ^ 16, 0, false⟩],
  .tsliceControlWrite bad 0 0,
  .tsliceControlWrite i3c 32 0,
  .tsliceRequest 32 [],
  .tsliceRequest 0 [⟨0, 2 ^ 16, 0, false⟩],
  .tsliceEntryAdvance 32,
  .stagingComplete 32,
  .stageCrcError 32 0 0 0,
  .stageCrcError 0 80 0 0,
  .stageCrcError 0 0 50 0,
  .switchCycle 32,
  .readbackFrame 32 0,
  .pressRead 1280 0 false,
  .pressRead 0 4096 false,
  .pressWrite 1280 0 false,
  .pressWrite 0 4096 false,
  .bankAdmit 1280 [],
  .pressCompletion 1280,
  .pressRegWrite 1280 0 0 false,
  .wordRead 1280 2 0 0 false,
  .wordRead 0 3 0 0 false,
  .wordRead 0 2 4096 0 false,
  .wordRead 0 2 0 8 false,
  .wordWrite 1280 2 0 0 0 0 false,
  .wordWrite 0 3 0 0 0 0 false,
  .wordWrite 0 2 4096 0 0 0 false,
  .wordWrite 0 2 0 8 0 0 false,
  .wordCompletion 1280 2,
  .wordCompletion 0 3,
  .baseChannelGrant 40,
  .bankOwnerWrite bad 0 0,
  .bankOwnerWrite i3c 1280 0,
  .handoverDrainDone 1280,
  .initEngineRow 1280,
  .repairWriteback 40,
  .darnMigration 1280,
  .darnInstall bad 0,
  .rinseRow 1280 []] : List Instr).all (fun c => !c.wf) = true := by decide +kernel

theorem test_ill_formed_commands_3 : ([
  .splitBankWrite bad 0,
  .splitBankWrite i3c 1280,
  .splitEnableWrite bad false,
  .splitData bad [],
  .splitData i3c long,
  .splitCheck bad 0,
  .splitRead bad,
  .splitFoldOverride bad 0,
  .baseSramRead 6 0 0,
  .qmEnableWrite bad false,
  .poolAdd bad 0,
  .poolAdd i3c 1280,
  .poolRemove bad 0,
  .poolRemove i3c 1280,
  .queueSetupWrite bad 0 [],
  .queueSetupWrite i3c 4096 [],
  .queueSetupWrite i3c 0 long,
  .queueEnable bad 0,
  .queueEnable i3c 4096,
  .queueDisable bad 0,
  .queueDisable i3c 4096,
  .queueFlush bad 0,
  .queueFlush i3c 4096,
  .queueClearFlags bad 0,
  .queueClearFlags i3c 4096,
  .queueSetupApply 96 0,
  .queueSetupApply 0 4096,
  .enqValue 96 0 [],
  .enqValue 0 4096 [],
  .enqValue 0 0 long,
  .enqBuffer 96 0 0 0,
  .enqBuffer 0 4096 0 0,
  .panelEnqueueCell 32 0 0 false false [],
  .panelEnqueueCell 0 4096 0 false false [],
  .panelEnqueueCell 0 0 0 false false long,
  .mgmtEnqueue 4096 [],
  .mgmtEnqueue 0 long,
  .enqueueCommit 4096,
  .deqValue 96 0 0 0,
  .deqValue 0 0 4096 0] : List Instr).all (fun c => !c.wf) = true := by decide +kernel

theorem test_ill_formed_commands_4 : ([
  .deqBuffer 96 0 0 0,
  .deqBuffer 0 4096 0 0,
  .panelDequeueRequest 32 0,
  .panelDequeueRequest 0 4096,
  .panelDequeueCell 32,
  .dequeueCommit 4096,
  .queueIdleTimeout 4096,
  .moverEnable 96 0 0 0,
  .moverEnable 0 16 0 0,
  .moverTailWrite 96 0 0,
  .moverTailWrite 0 16 0,
  .moverRetry 96 0,
  .moverRetry 0 16,
  .moverSkip 96 0,
  .moverSkip 0 16,
  .moverReset 96 0,
  .moverReset 0 16,
  .moverUnit 16,
  .vectorTableWrite 96 0 0 0,
  .vectorTableWrite 0 4160 0 0,
  .vectorDelivery 4160,
  .cxlMemRequest 96 0 0 0 0 0 0 0 0 false,
  .localDirRequest 16 0 false,
  .dirBiResponse 96 0 0 0 0,
  .biconflict 96 0 0 0,
  .dirEnableWrite bad false,
  .dirFlush bad 0,
  .dirPurgePartner bad 0,
  .hostMapWrite bad 0 0,
  .hostMapWrite i3c 128 0,
  .dirBankSlotWrite bad 0 0,
  .dirBankSlotWrite i3c 256 0,
  .trainFull bad [],
  .trainResume bad,
  .ddrTrainingDone 8 0 0,
  .ddrReadComplete 8 0,
  .scrubLine 8 0,
  .ddrCapWindow 8,
  .spdTempPoll 8 0 0,
  .spdTempPoll 0 2 0] : List Instr).all (fun c => !c.wf) = true := by decide +kernel

theorem test_ill_formed_commands_5 : ([
  .receiverDetect 96,
  .laneTrainDone 96,
  .laneTrainTimeout 96,
  .laceLinkFormation 96,
  .laneLockTimeout 96,
  .exchangeTimeout 96,
  .laneRetry bad 0 0,
  .laneRetry i3c 96 0,
  .laneDisable bad 0 0,
  .laneDisable i3c 96 0,
  .eqRequestReceived 96 0,
  .eqAnswerReceived 96 0,
  .eqAnswerTimeout 96,
  .eqEvaluationDone 96 false 0,
  .markerReceived 96 [] 0 false 0,
  .markerReceived 0 (List.replicate 61 4) 0 false 0,
  .pcieLtssmTransition 96 0 0 0 false false false 0 0,
  .loopbackStart bad 0 0,
  .loopbackStart i3c 96 0,
  .loopbackStop bad 0 0 0,
  .loopbackStop i3c 96 0 0,
  .loopbackDurationEnd 96 0 0,
  .loopbackNoLock 96,
  .eyeCommand bad 0 0,
  .eyeCommand i3c 96 0,
  .eyeMeasurementDone 96 0 0,
  .laneMarginingCommand 96 false,
  .portConfigWrite bad 0 0,
  .portConfigWrite i3c 6 0,
  .portReset bad 0 0,
  .portReset i3c 6 0,
  .perstAssert 6,
  .linkLoss 96,
  .linkUp 96,
  .rootCfgRead bad,
  .rootCfgWrite bad 0,
  .rootCfgCompletion 96 0 0 0 0,
  .barRequest 96 0 0 0 0 0 false [] false,
  .barRequest 0 0 0 0 0 0 false long false,
  .atomicopRequest 96 0 0 0 0 0 0 0 0] : List Instr).all (fun c => !c.wf) = true := by decide +kernel

theorem test_ill_formed_commands_6 : ([
  .pcieConfigRequest 96 0 0 0 0 0 0 false,
  .deviceCompletionReceive 96 0 0 0 0 false [],
  .deviceCompletionReceive 0 0 0 0 0 false long,
  .completionTimeout 96 0,
  .ideIntegrityFailure 96 0,
  .ideIntegrityFailure 0 5,
  .ideKmKeyProgram 96 0 0 0,
  .ideKmKeyProgram 0 5 0 0,
  .ideKmKeyProgram 0 0 4 0,
  .shimTxPacket 6 0 0 0 0 false [],
  .shimTxPacket 0 0 96 0 0 false [],
  .shimTxPacket 0 0 0 0 0 false long,
  .shimHoldTimeout 6,
  .l0pResponse 96 false,
  .mctpVdmReceive 96 0 0 0 [],
  .mctpVdmReceive 0 0 0 0 long,
  .trainingFrameReceive 96 [],
  .trainingFrameReceive 0 (List.replicate 257 4),
  .laceRateChange 96,
  .capFlitReceive 96 [],
  .capFlitReceive 0 long,
  .laceWrite 96 [],
  .laceWrite 0 long,
  .laceRead 96 [],
  .laceRead 0 long,
  .laceAtomic 96 [],
  .laceAtomic 0 long,
  .laceFlush 96 [],
  .laceFlush 0 long,
  .laceFlushDone 96,
  .laceMctp 96 [],
  .laceMctp 0 long,
  .laceCompletion 96 [],
  .laceCompletion 0 long,
  .laceUserFlit 96 [],
  .laceUserFlit 0 long,
  .laceShimTxFlit 96 0 [],
  .laceShimTxFlit 0 0 long,
  .laceNullFlit 96 [],
  .laceNullFlit 0 long] : List Instr).all (fun c => !c.wf) = true := by decide +kernel

theorem test_ill_formed_commands_7 : ([
  .laceBadFlit 96 0 [],
  .laceBadFlit 0 0 [⟨96, 0, 0, List.replicate 2721 3⟩],
  .laceNakResend 96,
  .laceNakReceive 96 [],
  .laceNakReceive 0 long,
  .laceReplayTimeout 96,
  .laceCreditNull 96,
  .laceRetrainCommand bad 0 0,
  .laceRetrainCommand i3c 96 0,
  .lacePartnerIdle 96,
  .laceRetrainIdleEnd 96,
  .laceDozeIdleTimer 96,
  .laceOffIdleTimer 96,
  .laceSleepAcked 96,
  .laceDozeFlit 96 [],
  .laceDozeFlit 0 long,
  .laceOffFlit 96 [],
  .laceOffFlit 0 long,
  .laceDozeMax 96,
  .laceWake 96 false,
  .laceRxReady 96 [],
  .laceRxReady 0 long,
  .laceWidthFlit 96 [],
  .laceWidthFlit 0 long,
  .laceNarrowTimeout 96,
  .laceRequestTimeout 96 0,
  .loaderLoad bad 0,
  .loaderAbort bad,
  .loaderBootLoad bad,
  .loaderChainSend bad 0,
  .flashPreambleDone long false,
  .loadHeader long,
  .loadFrameRecord long,
  .loadEndRecord long,
  .loadSignatureRecord long,
  .chainEnvelope long,
  .salynMessageArrival bad [],
  .salynMessageArrival i3c long,
  .salynRead 5,
  .salynWrite 5 ⟨[], 0, 0, []⟩] : List Instr).all (fun c => !c.wf) = true := by decide +kernel

theorem test_ill_formed_commands_8 : ([
  .salynDescribe 5,
  .salynEnumerate 5,
  .notifyResponse bad 0,
  .firmwareReply 65536 0 ⟨[], 0, 0, []⟩,
  .firmwareReply 0 256 ⟨[], 0, 0, []⟩,
  .firmwareTimeout 65536 0,
  .firmwareTimeout 0 256,
  .dictionaryWrite bad 0 0 0 [] ⟨[], 0, 0, []⟩,
  .dictionaryWrite i3c 65536 0 0 [] ⟨[], 0, 0, []⟩,
  .dictionaryWrite i3c 0 256 0 [] ⟨[], 0, 0, []⟩,
  .dictionaryWrite i3c 0 0 0 long ⟨[], 0, 0, []⟩,
  .journalEntryAccept 0x28,
  .journalEntryRead bad,
  .nvJournalEntryRead bad,
  .notifySend 5,
  .notifyResend 5,
  .alertAckWrite bad 0,
  .mctpControlCommand bad 0 [],
  .mctpControlCommand i3c 0 long,
  .dynamicAddressAssign 128 0,
  .dynamicAddressAssign 0 128,
  .lifecycleAdvance bad 0,
  .returnToken bad [],
  .returnToken i3c long,
  .keyHashWrite bad 0 [],
  .keyHashWrite i3c 256 [],
  .keyHashWrite i3c 0 long,
  .keyRevoke bad 0,
  .fwSvnAdvance bad 0,
  .secPinMaskWrite bad 0,
  .bsKeyWrite bad 0 [],
  .bsKeyWrite i3c 4 [],
  .bsKeyWrite i3c 0 long,
  .fwVerifyAndStart bad,
  .fwClearWindow bad,
  .fwWindowData bad [],
  .fwWindowData i3c long,
  .bootBarWindowWrite 0 long,
  .spdmRequest bad 0,
  .tamper 64] : List Instr).all (fun c => !c.wf) = true := by decide +kernel

theorem test_ill_formed_commands_9 : ([
  .thermistorRecover 4,
  .levelRiseConfirm 3 0,
  .levelRiseConfirm 0 192,
  .levelReleaseConfirm 3 0,
  .levelReleaseConfirm 0 192,
  .sensorDisagreeLatch 64,
  .disagreeMapWrite bad 0 0,
  .disagreeMapWrite i3c 8 0,
  .levelPointWrite bad 0 0,
  .levelPointWrite i3c 256 0,
  .railOutOfRange 24,
  .railInRange 24,
  .supplyRemoval 16,
  .resetCommandCold bad,
  .resetCommandBaseWarm bad,
  .resetCommandPanel bad 0,
  .resetCommandPanel i3c 32,
  .resetCommandFabric bad,
  .pmbusPoll 17 false false 0 0 0 0,
  .vcoreSetpointWrite bad 0,
  .clockDomainStart 26,
  .pllUnlock 26,
  .pllRelock 26,
  .fclkFreqWrite bad 0 0,
  .fclkFreqWrite i3c 8 0,
  .fclkRelockDone 8,
  .pllRecalibration 26,
  .selftestStartMemory bad 0,
  .selftestStartLogic bad 0,
  .selftestStartLane bad 0,
  .selftestStartFuse bad 0,
  .selftestAbort bad 0,
  .memorySliceStart 40 false,
  .memorySliceEnd 40 0 [],
  .logicTestEnd 32 0,
  .pinConfigWrite bad 0 0,
  .pinConfigWrite i3c 64 0,
  .pinHoldWindowEnd 64 false false,
  .gpioOutWrite bad 0 0,
  .gpioOutWrite i3c 4 0] : List Instr).all (fun c => !c.wf) = true := by decide +kernel

theorem test_ill_formed_commands_10 : ([
  .gpioOeWrite bad 0 0,
  .gpioOeWrite i3c 4 0,
  .gpioEdge 64 false,
  .syncCapture 64 false,
  .edgePendingWrite bad 0 0,
  .edgePendingWrite i3c 4 0,
  .eyeletSelectWrite bad 0 0,
  .eyeletSelectWrite i3c 8 0,
  .eyeletTrigger 2,
  .shimRxPacket 6 0 0 0 0 0 false [] 0,
  .shimRxPacket 0 0 96 0 0 0 false [] 0,
  .shimRxPacket 0 0 0 0 0 0 false long 0,
  .wakeLockTimeout 96,
  .markerReceived 0 [] 0 false 0,
  .trainingFrameReceive 0 [],
  .laceBadFlit 0 0 [⟨0, 0, 0, []⟩]] : List Instr).all (fun c => !c.wf) = true := by decide +kernel

/-- A well-formed command of each shape. -/
theorem test_well_formed_commands : ([.stateCommandEnable i3c, .porRelease 1023, .wordRead 1279 4 4095 7 true, .enqValue 95 4095 [0],
  .salynRead 4, .journalEntryAccept 0x27, .pmbusPoll 16 true true 0 0 0 0, .fclkFreqWrite ⟨0x10, 5⟩ 7 0] : List Instr).all Instr.wf = true := by
  decide +kernel

/-- No row of the table gives bits, so no word spells a command. -/
theorem test_words_spell_nothing : decodeTableWord 64 0x9F = none := rfl

/-! The worked examples of the spec. -/

/-- File 02, Example: tile column 17, row 12 is tile 497, in panel 5 of T2 and panel 21 of T4. -/
theorem test_example_fabric : panelOfTile 497 false = 5 ∧ panelOfTile 497 true = 21 := by decide

/-- File 04, Example: row 100, word 3 of bank 373. -/
theorem test_example_word_address : wordAddr 373 100 3 = 0x00BA8323 ∧ bankOf 0x00BA8323 = 373 ∧ rowOf 0x00BA8323 = 100 := by decide

/-- Bank 373 with row 100, word 3 migrated to spare 0, and DARN_BANK_SELECT at 373. -/
def darned (cause : Nat) : State := setReg 0x4400 1 373 (setBk 373 (fun x => { x with darn := [(0, ⟨true, false, cause, 0, 100, 3⟩)] }) op)

/-- Files 05 and 18, Examples: DARN_ENTRY 0x4401:00 for both causes, and DARN_SPARES_FREE_TOTAL. -/
theorem test_example_darn_entry :
    leValue ((darned 1).readObject 0x4401 0).2.1 = 0x81000323 ∧ leValue ((darned 3).readObject 0x4401 0).2.1 = 0x83000323 ∧
      leValue ((darned 1).readObject 0x4400 3).2.1 = 10239 := by
  decide +kernel

/-- A partial unsigned image's header. -/
def exampleHeader (set count slot : Nat) : List Byte :=
  let b := leBytes 60 (0x4D354C43 + 2 ^ 32 + 0x4D05 * 2 ^ 48 + (2 ^ 32 - 1) * 2 ^ 64 + set * 2 ^ 96 + slot * 2 ^ 128 + count * 2 ^ 160 + (64 + count * 524 + 40) * 2 ^ 192)
  b ++ leBytes 4 (crc32c b)

/-- Panel 5 running slot 0 of file 00's example. -/
def exampleLoad : State := lcy 1 (setPan 5 (fun x => { x with pstate := .running, slots := [(0, .active)] }) op)

/-- File 00, Example: accepted, LENGTH_EXCEEDS, VALUE_RANGE; LENGTH_EXCEEDS comes before STATE_CONFLICT. -/
theorem test_example_headers :
    [(8000, 2), (8001, 2), (0, 2), (8001, 0)].map (fun c => exampleLoad.headerResult (exampleHeader 0x00200020 c.1 c.2)) =
      [0, 0x34, 0x33, 0x34] := by
  decide +kernel

/-- The 64 directory slots of file 07's example. -/
def exampleDir : State := (List.range 64).foldl (fun s k => setReg 0x5201 k (if k = 55 then 766 else 100 + k) s) op

/-- File 07, Example: the set, tag, bank, row of a line; the victim's set; the entries of steps 5 and 9. -/
theorem test_example_directory_set :
    exampleDir.setOf 0x840116 = 0x137 ∧ exampleDir.tagOf 0x840116 = 0x21 ∧ exampleDir.setBankOf 0x137 = 766 ∧
      exampleDir.setRowOf 0x137 = 4 ∧ exampleDir.setOf 0x500123 = 0x137 ∧ exampleDir.lineOfTag 0x137 0x14 = 0x500123 := by
  decide +kernel
theorem test_example_directory_entries : entry 0x14 3 0 0x2A1 = 0x00000518000002A1 ∧ entry 0x14 4 0 0x2A1 = 0x00000520000002A1 ∧ entry 0x21 3 0 0x105 = 0x0000085800000105 := by decide

/-- Eight populated channels. -/
def exampleDdr : State := setReg 0x5300 4 0xFF (setReg 0x5300 1 (4 * 2 ^ 40) op)

/-- File 08, Example: the channels of DPA 0x2100_4580 and of 1 MiB above it, and the subchannel. -/
theorem test_example_ddr_channel :
    exampleDdr.chanOf (0x21004580 / 64) = 3 ∧ exampleDdr.chanOf (0x21104580 / 64) = 2 ∧ subchannel (0x21004580 / 64) = 0 := by
  decide +kernel

/-- File 08, Example: where the line lies in its channel, of two dual DIMMs of 32 Gb devices in 4 ranks. -/
theorem test_example_ddr_place :
    (exampleDdr.setChan 3 { exampleDdr.chan 3 with dimms := 3, log2Ranks := 2, density := true }).ddrPlace (0x21004580 / 64) =
      { chan := 3, sub := 0, column := 272, group := 0, bank := 0, rank := 0, slot := 1, row := 16 } := by
  decide +kernel

/-- R42, by hand: 1 × 2 + 1 = 3 in binary16 and binary32; a product of two numbers of magnitude 2^-24 is added exactly. -/
theorem test_fma16 : fma16 0x3C00 0x4000 0x3F800000 = 0x40400000 ∧ fma16 0x0001 0x0001 0 = 0x27800000 := by decide +kernel

/-- R214: one wrong symbol of a codeword is found and put right. -/
theorem test_line_code_corrects :
    (RsCode.mk 8 0x11D 0 16).correct ([7, 9] ++ (RsCode.mk 8 0x11D 0 16).checkSymbols [7, 8]) =
      some ([7, 8] ++ (RsCode.mk 8 0x11D 0 16).checkSymbols [7, 8]) := by decide +kernel

/-- A link of 16 lanes at PORT2, all with marker lock, logical in order; L40 is 71.3 ns late. -/
def exampleSkew (reversed : Bool) : State :=
  (List.range 16).foldl (fun s i => s.setLane (32 + i) { s.lane (32 + i) with
    lstate := .lock, locked := true, logical := if reversed then 15 - i else i, inLink := true, skew := if i = 8 then 71300 else 8900 })
    (setReg 0x5100 2 (3 * 2 ^ 30 + 2 ^ 24 + 10 * 2 ^ 20 + 1) op)

/-- File 09, Example: the link forms at width 8, and at 4 had the lanes arrived reversed. -/
theorem test_example_lane_drop : (exampleSkew false).formWidth 32 = some 8 ∧ (exampleSkew true).formWidth 32 = some 4 := by
  decide +kernel

/-- File 10, Example: PORT_CONFIG 0x5100:03 takes 0x8960_1101. -/
def examplePort : State := setReg 0x5100 3 0x89601101 op
theorem test_example_port_config :
    examplePort.linkStarts 3 = [0x30, 0x38, 0x3C] ∧ [0x30, 0x38, 0x3C].map examplePort.linkWidth = [8, 4, 4] ∧
      examplePort.portMode 3 = 2 ∧ examplePort.maxRate 3 = 6 ∧ examplePort.portEnabled 3 = true := by
  decide +kernel

/-- Link 0x40 of device A in file 11's example. -/
def exampleLace : State :=
  lnk 0x40 (fun x => { x with active := true, width := 4, lace := { x.lace with peerTypes := 3, nonce := 0x9B21, peerNonce := 0x47E0, rxNow := 4, txWidth := 4 } })
    (setReg 0x5100 4 0xC1901111 op)

/-- File 11, Example: LACE_STATUS 0x5130:40. -/
theorem test_example_lace_status : exampleLace.laceStatus 0x40 = 0x21090003 := by decide +kernel

/-- The request of file 13's example, from 10.0.8.20, port 40100. -/
def exampleRequest : List Byte := leBytes 8 0x000A0A1700000201 ++ [0x00, 0x31, 0x05, 0x03, 0x02, 0x00, 0x00, 0x00, 0x12, 0x00]
def exampleSource : Source := ⟨3, 0x0A0008149CA4⟩
def exampleHeld : State :=
  setReg 0x1100 5 0xC0A80001 (setReg 0x1100 4 1 (setPan 5 (fun x => { x with pstate := .held, slots := [(0, .active), (2, .valid)] }) op))

/-- File 13, Example: the refused switch answers 0x0000_0A17_4101_0201. The object is one the engine serves where firmware does not. -/
theorem test_example_switch_refused :
    exampleHeld.writeStatus 0x3100 5 3 [0x12, 0x00] true (shuttleFits 0x12) = .ok ∧
      (shuttleEffect 5 0x12 exampleHeld).1 = .stateConflict ∧
      (⟨exampleSource, 2, 0x0A17, exampleRequest.drop 8, false, 0⟩ : SalynReq).response 0x41 [] = leBytes 8 0x00000A1741010201 := by
  decide +kernel

/-- A device whose site 23 reads as in file 15's example, panel 5 at `mw`. -/
def exampleSite (mw : Nat) : State :=
  setReg 0x2003 5 mw (setReg 0x2204 1 608 (setReg 0x2204 2 691 (setReg 0x2204 3 704 op)))

/-- File 15, Example: T_inf is 128.0 °C at step 1 and 141.0 °C at step 7. -/
theorem test_example_inferred :
    (exampleSite 40000).inferValue 23 (118 * 16) (126 * 16) = 128 * 16 ∧
      (exampleSite 120000).inferValue 23 (122 * 16) (130 * 16) = 141 * 16 := by
  decide +kernel

/-- File 16, Example: the valley of a power cycle is counted in BIN40, and the index of 885,520. -/
def exampleFray : Fray := { Fray.init with valid := true, down := false, ext := 1540 }
theorem test_example_fray :
    let a := exampleFray.next (24 * 16)
    let b := a.1.next 414
    let c := b.1.next (30 * 16)
    a.2 = none ∧ b.2 = none ∧ c.2 = some 1156 ∧ frayCount 0 1156 = 2 ^ 37 := by
  decide +kernel
theorem test_example_wear_index : wearIndex (210000 + 31000 * 2 ^ 20 + 4200 * 2 ^ 37 + 310 * 2 ^ 51) = 885520 := by decide

/-- RFC 6979, A.2.5 (P-256, SHA-256, message "sample"): the signature verifies. -/
def rfcKey : List Byte :=
  leBytes 32 0x60FED4BA255A9D31C961EB74C6356D68C049B8923B61FA6CE669622E60F29FB6 ++
  leBytes 32 0x7903FE1008B8BC99A41AE9E95628BC64F2F1B20C2D7E9F5177A3C294D4462299
def rfcSignature : List Byte :=
  leBytes 32 0xEFD48B2AACB6A8FD1140DD9CD45E81D69D2C877B56AAF991C34D0EA84EAF3716 ++
  leBytes 32 0xF7CB1C942D657C41D436C7A1B6E29F65F3E900DBB9AFF4064DC4AB2F843ACDA8
theorem test_ecdsa : ecdsaVerify rfcKey (sha256 [0x73, 0x61, 0x6D, 0x70, 0x6C, 0x65]) rfcSignature = true := by decide +kernel

/-- FIPS 180-4: the digest of "abc". -/
theorem test_sha256 :
    beValue (sha256 [0x61, 0x62, 0x63]) = 0xBA7816BF8F01CFEA414140DE5DAE2223B00361A396177A9CB410FF61F20015AD := by decide +kernel

/-- The check value of CRC-32C over "123456789" (log 40). -/
theorem test_crc32c : crc32c [0x31, 0x32, 0x33, 0x34, 0x35, 0x36, 0x37, 0x38, 0x39] = 0xE3069283 := by decide +kernel

/-- Every clause of `DeviceCommandsTakeEffect` with hypotheses has them met by a state and operands. -/
theorem witness_of_device_commands_take_effect :
    (∃ (src : Source) (s : State), s.admits src 0x1010 3 2 (leBytes 1 1) true true ∧ s.mayEnable) ∧
    (∃ (src : Source) (s : State), s.admits src 0x1010 3 2 (leBytes 1 2) true true ∧ (s.dev.state = .managed ∨ s.dev.state = .operational)) ∧
    (∃ (src : Source) (s : State), s.admits src 0x1010 3 2 (leBytes 1 3) true true ∧ s.mayClear) ∧
    (∃ (src : Source) (s : State), s.admits src 0x2020 1 3 (leBytes 2 0x1000) true true) ∧
    (∃ (src : Source) (s : State), s.admits src 0x2020 1 3 (leBytes 2 0x2000) true true) ∧
    (∃ (src : Source) (p : Nat) (s : State), p < 32 ∧ s.admits src 0x2020 1 3 (leBytes 2 (0x3000 + p)) true true ∧ (s.panel p).pstate ≠ .test ∧ s.dev.state ≠ .quiescing) ∧
    (∃ (src : Source) (s : State), s.admits src 0x2020 1 3 (leBytes 2 0x4000) true true ∧ (∀ p, p < 32 → (s.panel p).pstate ≠ .test) ∧ s.dev.state ≠ .quiescing) :=
  ⟨⟨i3c, ready man, by decide +kernel⟩,
  ⟨i3c, man, by decide +kernel⟩,
  ⟨i3c, ready (st .safeStop), by decide +kernel⟩,
  ⟨i3c, man, by decide +kernel⟩,
  ⟨i3c, man, by decide +kernel⟩,
  ⟨i3c, 31, man, by decide +kernel⟩,
  ⟨i3c, man, by decide +kernel⟩⟩

/-- Every clause of `OrderlyStopRunsItsSteps` with hypotheses has them met by a state and operands. -/
theorem witness_of_orderly_stop_runs_its_steps :
    (∃ (s : State), s.stop.step = 3 ∧ s.moversIdle ∧ s.dirSettled) ∧
    (∃ (s : State), (s.warmRuns && s.anyReady) = false ∧ s.stop.step = 4 ∧ s.ddrDrained) ∧
    (∃ (s : State), (s.warmRuns && s.anyReady) = true ∧ s.ddrDrained) ∧
    (∃ (s : State), s.stop.step = 5 ∧ s.sinceStop 60 ∧ s.nvIdle) ∧
    (∃ (s : State), s.stop.step = 3 ∧ s.sinceStop (s.stopWindow - 100)) ∧
    (∃ (s : State), s.stop.step ≠ 0 ∧ s.sinceStop s.stopWindow) ∧
    (∃ (s : State), s.fwRuns ∧ s.sec.dead = false ∧ s.pins.halted = false ∧ (s.dev.state = .managed ∨ s.dev.state = .operational)) ∧
    (∃ (s : State), s.fwRuns ∧ s.sec.trap ∧ s.sec.dead = false ∧ (s.dev.state = .managed ∨ s.dev.state = .operational)) ∧
    (∃ (s : State), s.fwRuns ∧ s.sec.dead = false) ∧
    (∃ (s : State), s.dev.state ≠ .off ∧ s.dev.state ≠ .aon ∧ s.dev.state ≠ .fault) ∧
    (∃ (s : State), (s.dev.state = .aon ∨ s.dev.state = .fault)) :=
  ⟨⟨step3 3 qui, by decide +kernel⟩,
  ⟨step3 4 qui, by decide +kernel⟩,
  ⟨rdy { held man with warmRuns := true }, by decide +kernel⟩,
  ⟨Device.aged 0 (step3 5 qui), by decide +kernel⟩,
  ⟨Device.aged 0 (step3 3 qui), by decide +kernel⟩,
  ⟨Device.aged 0 (step3 3 qui), by decide +kernel⟩,
  ⟨op, by decide +kernel⟩,
  ⟨{ op with sec := { op.sec with trap := true } }, by decide +kernel⟩,
  ⟨op, by decide +kernel⟩,
  ⟨op, by decide +kernel⟩,
  ⟨st .fault, by decide +kernel⟩⟩

/-- Every clause of `PowerAndResetMoveTheDevice` with hypotheses has them met by a state and operands. -/
theorem witness_of_power_and_reset_move_the_device :
    (∃ (s : State), s.powered) ∧
    (∃ (s : State), s.dev.state = .off) ∧
    (∃ (s : State), s.dev.state = .aon ∧ s.dev.resetLow = false ∧ (∀ r ∈ [1, 2, 3, 4], r ∈ s.pwr.inRange)) ∧
    (∃ (r : RomResult) (s : State), s.dev.state = .boot ∧ s.dev.held = false ∧ r.selfCheckOk ∧ r.fusesOk ∧ s.sec.fuses.lifeGood ∧ (s.latchFuses.bondTest r.failingBonds s.fullTest).1 = false) ∧
    (∃ (r : RomResult) (s : State), s.dev.state = .boot ∧ s.dev.held = false ∧ (r.selfCheckOk && r.fusesOk && s.sec.fuses.lifeGood) = false) ∧
    (∃ (rail : Nat) (s : State), s.mayRemove ∧ 4 ≤ rail ∧ rail < 12) ∧
    (∃ (s : State), s.powered) ∧
    (∃ (s : State), s.powered ∧ s.dev.held ∧ s.warmRuns = false) ∧
    (∃ (s : State), s.powered ∧ s.dev.held = false) ∧
    (∃ (l : List Nat) (s : State), s.dev.resetDue = 1 :: l ∧ s.powered ∧ s.sal.resetsOpen ≤ l.length) ∧
    (∃ (l : List Nat) (s : State), s.dev.resetDue = 2 :: l ∧ s.powered ∧ s.sal.resetsOpen ≤ l.length) ∧
    (∃ (s : State), s.powered ∧ s.dev.held ∧ s.warmRuns ∧ s.anyReady = false) :=
  ⟨⟨op, by decide +kernel⟩,
  ⟨State.reset, by decide +kernel⟩,
  ⟨st .aon, by decide +kernel⟩,
  ⟨⟨true, true, true, []⟩, st .boot, by decide +kernel⟩,
  ⟨⟨true, false, true, []⟩, st .boot, by decide +kernel⟩,
  ⟨11, { st .safeStop with th := { (st .safeStop).th with pwrOff := true } }, by decide +kernel⟩,
  ⟨op, by decide +kernel⟩,
  ⟨held op, by decide +kernel⟩,
  ⟨op, by decide +kernel⟩,
  ⟨[2], { op with dev := { op.dev with resetDue := [1, 2] } }, by decide +kernel⟩,
  ⟨[], { op with dev := { op.dev with resetDue := [2] } }, by decide +kernel⟩,
  ⟨{ held op with warmRuns := true }, by decide +kernel⟩⟩

/-- Every clause of `RailsAndRegulatorsAreFollowed` with hypotheses has them met by a state and operands. -/
theorem witness_of_rails_and_regulators_are_followed :
    (∃ (m : Nat) (s : State), m < 24 ∧ monitorRail m ∈ s.pwr.inRange ∧ s.dev.state ≠ .off) ∧
    (∃ (m : Nat) (s : State), m < 24 ∧ monitorRail m ∉ s.pwr.inRange ∧ s.dev.state ≠ .off) ∧
    (∃ (e : Nat) (s : State), s.mgmtRuns ∧ e ∈ s.regEntries) ∧
    (∃ (e : Nat) (s : State), s.mgmtRuns ∧ e ∈ s.regEntries) ∧
    (∃ (l : List (Nat × Option Nat)) (e : Nat) (w : Nat) (s : State), s.mgmtRuns ∧ e ∈ s.regEntries ∧ l.find? (fun x => x.1 = e) = some (e, some w)) ∧
    (∃ (src : Source) (mv : Nat) (s : State), s.admits src 0x2002 1 3 (leBytes 2 mv) true true ∧ s.setpointMoves = false) ∧
    (∃ (s : State), s.mgmtRuns ∧ s.setpointMoves) ∧
    (∃ (s : State), s.mgmtRuns) ∧
    (∃ (s : State), s.mgmtRuns) ∧
    (∃ (s : State), s.mgmtRuns ∧ s.pwr.highNoted = false ∧ 1000 * s.rd 0x2004 2 < s.rd 0x2004 1) ∧
    (∃ (n : Nat) (s : State), s.mgmtRuns ∧ n < 64) :=
  ⟨⟨23, man, by decide +kernel⟩,
  ⟨23, { man with pwr := { man.pwr with inRange := [] } }, by decide +kernel⟩,
  ⟨1, setReg 0x2010 1 (2^31 + 2^30 + 0x10) man, by decide +kernel⟩,
  ⟨1, setReg 0x2010 1 (2^31+2^30 + 0x10) man, by decide +kernel⟩,
  ⟨[(1, some 4)], 1, 4, setReg 0x2010 1 (2^31+2^30 + 0x10) man, by decide +kernel⟩,
  ⟨i3c, 790, man, by decide +kernel⟩,
  ⟨setReg 0x2002 1 760 man, by decide +kernel⟩,
  ⟨man, by decide +kernel⟩,
  ⟨man, by decide +kernel⟩,
  ⟨setReg 0x2004 1 3000000 (setReg 0x2004 2 100 man), by decide +kernel⟩,
  ⟨63, man, by decide +kernel⟩⟩

/-- Every clause of `ClocksStartLoseAndTakeLock` with hypotheses has them met by a state and operands. -/
theorem witness_of_clocks_start_lose_and_take_lock :
    (∃ (n : Nat) (s : State), 3 ≤ n ∧ s.clockNeeded n ∧ n ∈ s.pwr.clkUp ∧ n ∉ s.clkLost ∧ s.pwr.refLost = false) ∧
    (∃ (n : Nat) (s : State), n ∈ s.clkLost ∧ ¬(7 ≤ n ∧ n - 7 ∈ s.pwr.relock)) ∧
    (∃ (s : State), s.mgmtRuns ∧ s.pwr.refLost = false) ∧
    (∃ (s : State), s.mgmtRuns ∧ s.pwr.refLost) ∧
    (∃ (src : Source) (n : Nat) (khz : Nat) (s : State), n < 8 ∧ s.admits src 0x2100 n 4 (leBytes 4 khz) true (khz % 2 ^ 32 ≤ Config.maxFclkKhz) ∧ s.selects n .test = false ∧ s.selects n .running = false) ∧
    (∃ (n : Nat) (s : State), n ∈ s.pwr.relock) ∧
    (∃ (s : State), s.dev.state ≠ .off ∧ (List.range 16).filterMap s.sensor ≠ []) ∧
    (∃ (n : Nat) (s : State), 3 ≤ n ∧ s.clockNeeded n ∧ n ∈ s.pwr.clkUp ∧ s.pllMoved n) ∧
    (∃ (speed : Nat) (s : State), s.clockNeeded 25 ∧ speed < 3) ∧
    (∃ (addr : Nat) (s : State), s.fwRuns ∧ s.sec.dead = false ∧ s.pins.halted = false ∧ s.goes (s.bankOpen 0x43 (bankOf addr)) 0x43) ∧
    (∃ (addr : Nat) (s : State), s.fwRuns ∧ s.sec.dead = false ∧ s.pins.halted = false ∧ s.goes (s.bankOpen 0x43 (bankOf addr)) 0x43 = false) :=
  ⟨⟨3, { man with pwr := { man.pwr with clkUp := [3] } }, by decide +kernel⟩,
  ⟨15, { man with clkLost := [15] }, by decide +kernel⟩,
  ⟨op, by decide +kernel⟩,
  ⟨{ op with pwr := { op.pwr with refLost := true } }, by decide +kernel⟩,
  ⟨i3c, 7, 500000, man, by
    rw [slow_enough]; decide +kernel⟩,
  ⟨2, { op with pwr := { op.pwr with relock := [2] } }, by decide +kernel⟩,
  ⟨{ setReg 0x2201 0 400 op with th := { op.th with sampled := [0] } }, by decide +kernel⟩,
  ⟨3, Device.pl, by decide, by decide +kernel, by decide +kernel, Device.pl_moved⟩,
  ⟨2, man, by decide +kernel⟩,
  ⟨5, man, by decide +kernel⟩,
  ⟨5, stall 0x43 op, by decide +kernel⟩⟩

/-- Every clause of `PinsFollowTheirRegisters` with hypotheses has them met by a state and operands. -/
theorem witness_of_pins_follow_their_registers :
    (∃ (src : Source) (n : Nat) (v : Nat) (s : State), n < 64 ∧ s.admits src 0x7000 n 4 (leBytes 4 v) (bits v 31 30 ≠ 3 || s.eyeletsOpen) (pinFits (v % 2 ^ 32)) ∧ s.sec.fuses.secPins.testBit n = false ∧ bits (v % 2 ^ 32) 31 30 ≠ 1) ∧
    (∃ (n : Nat) (s : State), n < 64 ∧ (s.pin n).hold ∧ s.padLive n) ∧
    (∃ (src : Source) (g : Nat) (v : Nat) (s : State), g < 4 ∧ s.admits src 0x7001 g 4 (leBytes 4 v) true true) ∧
    (∃ (src : Source) (g : Nat) (v : Nat) (s : State), g < 4 ∧ s.admits src 0x7002 g 4 (leBytes 4 v) true true) ∧
    (∃ (n : Nat) (level : Bool) (s : State), s.levelTurns n level ∧ s.pinRole n ≠ (0, 3)) ∧
    (∃ (n : Nat) (level : Bool) (s : State), s.levelTurns n level ∧ s.pinRole n = (0, 3) ∧ s.edgeOn n level ∧ (∀ at0, s.pins.syncAt = some at0 → at0 + 2 ≤ s.dev.aonTime)) ∧
    (∃ (src : Source) (g : Nat) (v : Nat) (s : State), g < 4 ∧ s.admits src 0x7004 g 4 (leBytes 4 v) true true) :=
  ⟨⟨i3c, 63, 0x10, man, by decide +kernel⟩,
  ⟨63, { man with pins := { man.pins with gpio := [(63, ⟨true, false, false, false⟩)] } }, by decide +kernel⟩,
  ⟨i3c, 3, 0xFFFF0001, man, by decide +kernel⟩,
  ⟨i3c, 3, 0xFFFF0001, man, by decide +kernel⟩,
  ⟨5, true, man, by decide +kernel⟩,
  ⟨5, true, setReg 0x7000 5 (0x03000001) man, by decide +kernel⟩,
  ⟨i3c, 3, 1, setReg 0x7004 3 3 man, by decide +kernel⟩⟩

/-- Every clause of `EyeletsAndJtagAnswer` with hypotheses has them met by a state and operands. -/
theorem witness_of_eyelets_and_jtag_answer :
    (∃ (src : Source) (k : Nat) (v : Nat) (s : State), k < 8 ∧ s.admits src 0x7100 k 4 (leBytes 4 v) s.eyeletsOpen (eyeletFits (v % 2 ^ 32))) ∧
    (∃ (g : Nat) (s : State), g < 2 ∧ s.eyeletsOpen ∧ s.mgmtRuns) ∧
    (∃ (c : Nat) (s : State), s.dev.state ≠ .off ∧ c ∈ jtagCodes ∧ s.jtagLife c ∧ s.jtagState c) ∧
    (∃ (c : Nat) (s : State), s.dev.state ≠ .off ∧ c ∉ jtagCodes) ∧
    (∃ (c : Nat) (s : State), s.dev.state ≠ .off ∧ c ∈ jtagCodes ∧ (s.jtagLife c && s.jtagState c) = false) ∧
    (∃ (s : State), s.jtagRuns 0x40) ∧
    (∃ (a : Nat) (_d : Nat) (s : State), s.jtagRuns 0x41 ∧ s.fuseFree (s.sec.fuses.word (a % 65536) = 0)) ∧
    (∃ (a : Nat) (s : State), s.jtagRuns 0x41 ∧ s.fuseFree (s.sec.fuses.word (a % 65536) = 0) = false) ∧
    (∃ (s : State), s.jtagRuns 0x43) ∧
    (∃ (s : State), s.jtagRuns 0x42 ∧ s.dev.held = false) :=
  ⟨⟨i3c, 7, 0x00300001, man, by decide +kernel⟩,
  ⟨1, man, by decide +kernel⟩,
  ⟨0x40, man, by decide +kernel⟩,
  ⟨0x99, man, by decide +kernel⟩,
  ⟨0x40, lcy 5 man, by decide +kernel⟩,
  ⟨{ man with pins := { man.pins with ir := 0x40 } }, by decide +kernel⟩,
  ⟨5, 6, Small.jt, by decide +kernel, by
    show (Small.jt.fuseSupply && Small.jt.sec.op.isNone && decide (Small.blank.word 5 = 0)) = true
    rw [Small.blank_word]; decide +kernel⟩,
  ⟨5, { lcy 1 (st .managed) with pins := { man.pins with ir := 0x41 }, pwr := { man.pwr with inRange := [] } }, by decide +kernel⟩,
  ⟨{ man with pins := { man.pins with ir := 0x43 } }, by decide +kernel⟩,
  ⟨{ man with pins := { man.pins with ir := 0x42 } }, by decide +kernel⟩⟩

/-- Every clause of `FabricCommandsTakeEffect` with hypotheses has them met by a state and operands. -/
theorem witness_of_fabric_commands_take_effect :
    (∃ (src : Source) (p : Nat) (v : Nat) (s : State), s.admits src 0x3205 p 2 (leBytes 1 v) true true ∧ ((s.panel p).pstate = .empty ∨ (s.panel p).pstate = .held) ∧ (s.panel p).tileBusy = false) ∧
    (∃ (p : Nat) (s : State), (s.panel p).tileBusy ∧ s.shutRuns ∧ (s.panel p).restaging = false) ∧
    (∃ (src : Source) (p : Nat) (v : Nat) (s : State), s.admits src 0x3200 p 2 (leBytes 1 v) true true ∧ (s.panel p).pstate ≠ .test ∧ (s.panel p).pstate ≠ .running) ∧
    (∃ (p : Nat) (s : State), s.panelTicks p ∧ s.rd 0x3203 p = 1) ∧
    (∃ (p : Nat) (s : State), s.panelTicks p ∧ s.rd 0x3203 p ≠ 1) ∧
    (∃ (p : Nat) (s : State), s.resetPasses p) ∧
    (∃ (p : Nat) (s : State), s.resetPasses p = false) :=
  ⟨⟨i3c, 31, 1, Tier.mv 31 (fun x => { x with pstate := .held }), by decide +kernel⟩,
  ⟨31, Tier.mv 31 (fun x => { x with tileBusy := true }), by decide +kernel⟩,
  ⟨i3c, 31, 7, man, by decide +kernel⟩,
  ⟨31, setReg 0x3203 31 1 (running 31 op), by decide +kernel⟩,
  ⟨31, running 31 op, by decide +kernel⟩,
  ⟨31, Tier.mv 31 (fun x => { x with reset := some .clocked }), by decide +kernel⟩,
  ⟨31, running 31 op, by decide +kernel⟩⟩

/-- Every clause of `ShuttleRequestsTakeEffect` with hypotheses has them met by a state and operands. -/
theorem witness_of_shuttle_requests_take_effect :
    (∃ (src : Source) (p : Nat) (k : Nat) (fresh : Bool) (s : State), s.admits src 0x3100 p 3 (leBytes 2 (switchValue k fresh)) true (shuttleFits (switchValue k fresh)) ∧ s.switchStatus p k = .ok ∧ s.switchStarts p k) ∧
    (∃ (src : Source) (p : Nat) (k : Nat) (q : Nat) (j : Nat) (fresh : Bool) (other : Bool) (s : State), s.admits src 0x3100 p 3 (leBytes 2 (switchValue k fresh)) true (shuttleFits (switchValue k fresh)) ∧ s.switchStatus p k = .ok ∧ reqSource p (s.rd 0x3104 p) = some q ∧ s.raises q p j other ∧ s.shutRuns) ∧
    (∃ (src : Source) (p : Nat) (k : Nat) (s : State), s.admits src 0x3100 p 3 (leBytes 2 (0x20 + k)) true (shuttleFits (0x20 + k)) ∧ s.frozen = false ∧ ((s.panel p).pstate = .held ∨ (s.panel p).pstate = .running) ∧ (s.panel p).switch = none ∧ (s.panel p).slot k = .valid) ∧
    (∃ (src : Source) (p : Nat) (k : Nat) (s : State), s.admits src 0x3100 p 3 (leBytes 2 (0x30 + k)) true (shuttleFits (0x30 + k)) ∧ s.frozen = false ∧ (s.panel p).pstate ≠ .test ∧ (s.panel p).switch = none ∧ (s.panel p).slot k = .staged) ∧
    (∃ (src : Source) (p : Nat) (k : Nat) (s : State), s.admits src 0x3100 p 3 (leBytes 2 (0x40 + k)) true (shuttleFits (0x40 + k)) ∧ s.frozen = false ∧ (s.panel p).pstate = .held ∧ (s.panel p).slot k = .staged) ∧
    (∃ (src : Source) (p : Nat) (k : Nat) (s : State), s.admits src 0x3100 p 3 (leBytes 2 (0x40 + k)) true (shuttleFits (0x40 + k)) ∧ s.frozen = false ∧ (s.panel p).pstate = .empty ∧ (s.panel p).slot k = .valid) ∧
    (∃ (src : Source) (p : Nat) (fresh : Bool) (s : State), s.admits src 0x3100 p 3 (leBytes 2 (0x50 + 8 * flag fresh)) true true ∧ s.frozen = false ∧ (s.panel p).pstate = .held ∧ s.dev.state = .operational ∧ (s.panel p).tileBusy = false ∧ (s.panel p).restaging = false) ∧
    (∃ (src : Source) (p : Nat) (s : State), s.admits src 0x3100 p 3 (leBytes 2 0x60) true true ∧ s.frozen = false ∧ (s.panel p).pstate = .running ∧ (s.panel p).switch = none) ∧
    (∃ (src : Source) (p : Nat) (k : Nat) (s : State), s.admits src 0x3100 p 3 (leBytes 2 (0x70 + k)) true (shuttleFits (0x70 + k)) ∧ s.frozen = false ∧ (s.panel p).pstate ≠ .test ∧ (s.panel p).slot k = .valid) ∧
    (∃ (src : Source) (p : Nat) (k : Nat) (s : State), s.admits src 0x3100 p 3 (leBytes 2 (0x70 + k)) true (shuttleFits (0x70 + k)) ∧ s.frozen = false ∧ (s.panel p).pstate = .held ∧ (s.panel p).slot k = .active ∧ (s.panel p).slotsIn .valid = [] ∧ (s.panel p).slotsIn .staged = []) :=
  ⟨⟨i3c, 31, 1, true, running 31 op, by decide +kernel⟩,
  ⟨i3c, 31, 1, 30, 2, true, false, setReg 0x3104 31 1 (running 30 (running 31 op)), by decide +kernel⟩,
  ⟨i3c, 31, 1, running 31 op, by decide +kernel⟩,
  ⟨i3c, 31, 2, running 31 op, by decide +kernel⟩,
  ⟨i3c, 31, 2, setPan 31 (fun x => { x with pstate := .held, slots := [(0, .active), (2, .staged)] }) op, by decide +kernel⟩,
  ⟨i3c, 31, 7, setPan 31 (fun x => { x with pstate := .empty, slots := [(7, .valid)] }) op, by decide +kernel⟩,
  ⟨i3c, 31, true, setPan 31 (fun x => { x with pstate := .held, slots := [(0, .active)] }) op, by decide +kernel⟩,
  ⟨i3c, 31, running 31 op, by decide +kernel⟩,
  ⟨i3c, 31, 1, running 31 op, by decide +kernel⟩,
  ⟨i3c, 31, 0, setPan 31 (fun x => { x with pstate := .held, slots := [(0, .active)] }) op, by decide +kernel⟩⟩

/-- Every clause of `ShuttleWorksWithoutADictionaryWrite` with hypotheses has them met by a state and operands. -/
theorem witness_of_shuttle_works_without_a_dictionary_write :
    (∃ (p : Nat) (k : Nat) (q : Nat) (fresh : Bool) (rivals : List Rival) (s : State), reqSource p (s.rd 0x3104 p) = some q ∧ s.shutRuns ∧ s.raises q p k fresh ∧ dictionaryAlone rivals ∧ s.switchStatus p k = .ok ∧ s.switchStarts p k) ∧
    (∃ (p : Nat) (k : Nat) (q : Nat) (a : Nat) (j : Nat) (fresh : Bool) (other : Bool) (s : State), reqSource p (s.rd 0x3104 p) = some q ∧ s.shutRuns ∧ s.raises q p k fresh ∧ s.switchStatus p k = .ok ∧ (a, p, j, other) ∈ s.arrivals) ∧
    (∃ (p : Nat) (k : Nat) (q : Nat) (fresh : Bool) (s : State), reqSource p (s.rd 0x3104 p) = some q ∧ s.shutRuns ∧ s.raises q p k fresh ∧ s.switchStatus p k ≠ .ok) ∧
    (∃ (p : Nat) (q : Nat) (k : Nat) (fresh : Bool) (rivals : List Rival) (s : State), s.arrivals.find? (fun a => a.2.1 = p) = some (q, p, k, fresh) ∧ s.shutRuns ∧ (∀ r ∈ rivals, 3 ≤ r.kind) ∧ s.switchStatus p k = .ok ∧ s.switchStarts p k) ∧
    (∃ (src : Source) (p : Nat) (v : Nat) (s : State), s.admits src 0x3105 p 3 (leBytes 2 v) true (sliceFits v) ∧ (s.sliceEnable p && s.sliceCount p ≠ v % 32) = false) ∧
    (∃ (p : Nat) (rivals : List Rival) (s : State), (s.panel p).slice = .first ∧ s.panelTicks p ∧ s.shutRuns ∧ (∀ r ∈ rivals, 4 ≤ r.kind) ∧ s.switchStatus p (s.sliceSlot p 0) = .ok ∧ s.switchStarts p (s.sliceSlot p 0)) ∧
    (∃ (p : Nat) (e : Nat) (rivals : List Rival) (s : State), (s.panel p).slice = .counting ∧ s.panelTicks p ∧ s.shutRuns ∧ s.sliceAfter p (s.panel p).sliceEntry = some e ∧ (∀ r ∈ rivals, 4 ≤ r.kind) ∧ s.switchStatus p (s.sliceSlot p e) = .ok ∧ s.switchStarts p (s.sliceSlot p e)) ∧
    (∃ (p : Nat) (s : State), (s.panel p).slice = .noSwitch ∧ s.panelTicks p) ∧
    (∃ (p : Nat) (s : State), (s.panel p).slice = .counting ∧ s.panelTicks p ∧ s.sliceAfter p (s.panel p).sliceEntry = none) ∧
    (∃ (p : Nat) (k : Nat) (s : State), (s.panel p).staging = some (k, .plain) ∧ (s.panel p).pstate ≠ .test ∧ s.shutRuns ∧ (s.panel p).sliceStageDue = false) ∧
    (∃ (p : Nat) (k : Nat) (s : State), (s.panel p).staging = some (k, .activation) ∧ (s.panel p).pstate ≠ .test ∧ s.shutRuns) ∧
    (∃ (p : Nat) (k : Nat) (tile : Nat) (frame : Nat) (flip : Nat) (why : StageFor) (s : State), (s.panel p).staging = some (k, why) ∧ s.shutRuns ∧ (s.panel p).frameBad k tile frame flip) ∧
    (∃ (p : Nat) (w : Switch) (s : State), (s.panel p).switch = some w ∧ w.scheduled ∧ s.panelTicks p) ∧
    (∃ (p : Nat) (pos : Nat) (flip : Nat) (s : State), s.rd 0x310B 1 = 1 ∧ (s.panel p).readable ∧ s.shutRuns ∧ (s.panel p).readNext = some pos ∧ (s.panel p).frameBad (pos / 4000) (pos % 4000 / 50) (pos % 50) flip = false) ∧
    (∃ (p : Nat) (pos : Nat) (flip : Nat) (s : State), s.rd 0x310B 1 = 1 ∧ (s.panel p).readable ∧ s.shutRuns ∧ (s.panel p).readNext = some pos ∧ (s.panel p).frameBad (pos / 4000) (pos % 4000 / 50) (pos % 50) flip) :=
  ⟨⟨31, 1, 31, true, [], setReg 0x3104 31 0 (running 31 op), by decide +kernel⟩,
  ⟨31, 1, 31, 4095, 2, true, false, { setReg 0x3104 31 0 (running 31 op) with arrivals := [(4095, 31, 2, false)] }, by decide +kernel⟩,
  ⟨31, 5, 31, true, setReg 0x3104 31 0 (running 31 op), by decide +kernel⟩,
  ⟨31, 4095, 1, false, [], { running 31 op with arrivals := [(4095, 31, 1, false)] }, by decide +kernel⟩,
  ⟨i3c, 31, 0x8002, running 31 op, by decide +kernel⟩,
  ⟨31, [], setReg 0x3110 31 0x02000010 (setPan 31 (fun x => { x with slice := .first }) (setReg 0x3105 31 0x8002 (running 31 op))), by decide +kernel⟩,
  ⟨31, 1, [], setReg 0x3110 31 0x02000010 (setReg 0x3111 31 0x01000010 (setPan 31 (fun x => { x with slice := .counting, sliceEntry := 0 }) (setReg 0x3105 31 0x8002 (running 31 op)))), by decide +kernel⟩,
  ⟨31, setPan 31 (fun x => { x with slice := .noSwitch }) (setReg 0x3105 31 0x8002 (running 31 op)), by decide +kernel⟩,
  ⟨31, setPan 31 (fun x => { x with slice := .counting, sliceEntry := 1 }) (setReg 0x3105 31 0x8102 (running 31 op)), by decide +kernel⟩,
  ⟨31, 1, setPan 31 (fun x => { x with staging := some (1, .plain) }) (running 31 op), by decide +kernel⟩,
  ⟨31, 7, setPan 31 (fun x => { x with staging := some (7, .activation), pstate := .empty, slots := [(7, .valid)] }) op, by decide +kernel⟩,
  ⟨31, 1, 79, 49, 1, .plain, setPan 31 (fun x => { x with staging := some (1, .plain) }) (running 31 op), by decide +kernel⟩,
  ⟨31, ⟨2, true, true, false, 1⟩, setPan 31 (fun x => { x with switch := some ⟨2, true, true, false, 1⟩ }) (running 31 op), by decide +kernel⟩,
  ⟨31, 7999, 0, setReg 0x310B 1 1 (setPan 31 (fun x => { x with readPos := 7999 }) (running 31 op)), by decide +kernel⟩,
  ⟨31, 7999, 5, setReg 0x310B 1 1 (setPan 31 (fun x => { x with readPos := 7999 }) (running 31 op)), by decide +kernel⟩⟩

/-- Every clause of `UserLogicFollowsItsFrames` with hypotheses has them met by a state and operands. -/
theorem witness_of_user_logic_follows_its_frames :
    (∃ (p : Nat) (tile : Nat) (j : Nat) (s : State), tile < 80 ∧ j < 2560 ∧ (s.panel p).pstate = .running ∧ (s.panel p).reset = none) ∧
    (∃ (p : Nat) (tile : Nat) (j : Nat) (s : State), tile < 80 ∧ j < 2560 ∧ ((s.panel p).reset.isSome ∨ (s.panel p).pstate ≠ .running)) ∧
    (∃ (t : Nat) (j : Nat) (u : Nat) (k : Nat), carryFrom t j = some (u, k)) ∧
    (∃ (acc : Nat), acc < 2 ^ 64) ∧
    (∃ (a : Nat) (b : Nat) (c : Nat), a < 2 ^ 16 ∧ b < 2 ^ 16 ∧ c < 2 ^ 32) ∧
    (∃ (n : Nat) (i : Nat), i < n) ∧
    (∃ (base : Nat) (n : Nat) (k : Nat), (k < base ∨ base + n ≤ k)) ∧
    (∃ (p : Nat) (tile : Nat) (side : Nat) (q : Nat) (u : Nat), p < 32 ∧ tile < 80 ∧ side < 4 ∧ facing p tile side = some (q, u)) ∧
    (∃ (_f : Nat) (p : Nat) (tile : Nat) (i : Nat) (s : State), p < 32 ∧ (stitchClash (s.stitchOn p tile i) (s.stitchOn (pairOf p) tile i) (s.stitchHeld p tile i) ∨ s.stitchOn p tile i = false ∧ s.stitchOn (pairOf p) tile i = false)) ∧
    (∃ (_f : Nat) (p : Nat) (tile : Nat) (side : Nat) (_k : Nat) (s : State), (∀ q u, facing p tile side = some (q, u) → (s.panel q).drives = false)) :=
  ⟨⟨31, 79, 2559, running 31 op, by decide +kernel⟩,
  ⟨31, 79, 2559, setPan 31 (fun x => { x with reset := some .clocked }) op, by decide +kernel⟩,
  ⟨79, 2559, 79, 2558, by decide +kernel⟩,
  ⟨2^64-1, by decide +kernel⟩,
  ⟨2^16-1, 2^16-1, 2^32-1, by decide +kernel⟩,
  ⟨8, 7, by decide +kernel⟩,
  ⟨65528, 8, 65527, by decide +kernel⟩,
  ⟨31, 0, 0, 30, 9, by decide +kernel⟩,
  ⟨0, 31, 79, 511, op, by decide, Or.inr (by decide +kernel)⟩,
  ⟨0, 31, 79, 0, 15, running 31 op, fun q u h => by
    have e : facing 31 79 0 = none := by decide
    rw [e] at h; cases h⟩⟩

/-- Every clause of `PortsAcceptAndDeliver` with hypotheses has them met by a state and operands. -/
theorem witness_of_ports_accept_and_deliver :
    (∃ (tile : Nat) (s : State), s.tileRuns 0 tile ∧ (s.mem.port 0 tile).length < 16) ∧
    (∃ (tile : Nat) (s : State), s.tileRuns 0 tile ∧ (s.mem.port 0 tile).length < 16) ∧
    (∃ (tile : Nat) (tier : Nat) (s : State), s.wordPortOn (wordPort tier) tile ∧ (s.mem.port (wordPort tier) tile).length < 16) ∧
    (∃ (tile : Nat) (tier : Nat) (s : State), s.wordPortOn (wordPort tier) tile ∧ (s.mem.port (wordPort tier) tile).length < 16) ∧
    (∃ (s : State), s.memRuns) ∧
    (∃ (tile : Nat) (r : PortReq) (l : List PortReq) (s : State), s.tileRuns 0 tile ∧ s.mem.port 0 tile = r :: l ∧ r.phase = 2 ∧ (r.crossed && !r.persist) = false) ∧
    (∃ (tile : Nat) (same : Bool) (s : State), s.tileRuns 0 tile ∧ (same && s.loadsPreg tile) = false) ∧
    (∃ (tile : Nat) (s : State), s.tileRuns 0 tile ∧ s.loadsPreg tile) ∧
    (∃ (tile : Nat) (tier : Nat) (r : PortReq) (l : List PortReq) (s : State), s.tileRuns (wordPort tier) tile ∧ s.mem.port (wordPort tier) tile = r :: l ∧ r.phase = 2 ∧ (r.crossed && !r.persist) = false) :=
  ⟨⟨0, Tier.r15, by decide +kernel⟩,
  ⟨1279, Tier.r15, by decide +kernel⟩,
  ⟨1279, 2, Tier.r15, by decide +kernel⟩,
  ⟨1279, 2, Tier.r15, by decide +kernel⟩,
  ⟨Tier.r15, by decide +kernel⟩,
  ⟨1279, ⟨1, 0, false, false, 0, 77, 0, 2, false, 0⟩, [pr 1 false 0], port 0 1279 [⟨1, 0, false, false, 0, 77, 0, 2, false, 0⟩, pr 1 false 0] Tier.r15, by decide +kernel⟩,
  ⟨1279, false, Tier.r15, by decide +kernel⟩,
  ⟨1279, port 0 1279 [⟨1, 0, false, false, 0, 77, 0, 2, false, 0⟩] Tier.r15, by decide +kernel⟩,
  ⟨1279, 2, ⟨1, 0, false, false, 0, 77, 0, 2, false, 0⟩, [], port 2 1279 [⟨1, 0, false, false, 0, 77, 0, 2, false, 0⟩] Tier.r15, by decide +kernel⟩⟩

/-- Every clause of `PressWriteStoresItsRowAndNothingElse` with hypotheses has them met by a state and operands. -/
theorem witness_of_press_write_stores_its_row_and_nothing_else :
    (∃ (b : Nat) (r : PortReq) (s : State) (s1 : State), s.memRuns ∧ s.sliceOn b = false ∧ b < 1280 ∧ s1 = (((s.answerForeign 0 b).answerForeign 2 b).answerForeign 4 b).refuseAtBank b (s.atBank b) ∧ s1.serviceWaits b = false ∧ s1.ownHead 0 b = some r ∧ r.write ∧ r.row < 4096 ∧ Tab.wf (fun _ => darnFree) (s.bank b).darn) ∧
    (∃ (b : Nat) (r : PortReq) (s : State) (s1 : State), s.memRuns ∧ s.sliceOn b = false ∧ s1 = (((s.answerForeign 0 b).answerForeign 2 b).answerForeign 4 b).refuseAtBank b (s.atBank b) ∧ s1.serviceWaits b = false ∧ s1.ownHead 0 b = some r ∧ r.write = false ∧ s.isWritten b r.row = false) :=
  ⟨⟨1279, pr 4095 true (2^2047+5), Tier.pw, Tier.pw, by decide +kernel⟩,
  ⟨1279, pr 4095 false 0, Tier.prd, Tier.prd, by decide +kernel⟩⟩

/-- Every clause of `BankServicesDoTheirWork` with hypotheses has them met by a state and operands. -/
theorem witness_of_bank_services_do_their_work :
    (∃ (g : Nat) (r : BaseReq) (s : State), s.memRuns ∧ s.channelPick g = some r ∧ bankOf (r.addr / 32) < 1280 ∧ s.owns r.code (bankOf (r.addr / 32))) ∧
    (∃ (src : Source) (b : Nat) (v : Nat) (s : State), b < 1280 ∧ s.admits src (0x4100 + b / 256) (b % 256) 4 (leBytes 4 v) true (bankOwnerFits b v) ∧ (s.bank b).handover = false ∧ s.splitOn b = false ∧ (s.ownerUses b || s.testHolds b) = false ∧ v % 256 ≠ (s.bank b).owner ∧ ¬((v % 256 = 0x40 ∨ v % 256 = 0x41) ∧ 256 ≤ s.banksOf (v % 256))) ∧
    (∃ (b : Nat) (s : State), (s.bank b).handover ∧ s.memRuns ∧ s.sliceOn b = false) ∧
    (∃ (b : Nat) (s : State), s.memRuns ∧ (s.bank b).wipePending ∧ b < 1280 ∧ s.serviceWaits b = false ∧ s.ownerWaits b = false ∧ s.sliceOn b = false) ∧
    (∃ (g : Nat) (r : Repair) (l : List Repair) (s : State), Tab.look (fun _ => []) s.mem.repairs g = r :: l ∧ s.memRuns ∧ s.sliceOn r.bank = false ∧ r.stale = false ∧ s.isWritten r.bank r.row ∧ s.splitOn r.bank = false) ∧
    (∃ (src : Source) (v : Nat) (e : Nat) (s : State), s.admits src 0x4400 2 4 (leBytes 4 v) true (darnInstallFits v) ∧ (s.bank (bankOf v)).spareOf v = none ∧ (s.bank (bankOf v)).darn.any (fun d => d.2.migrating) = false ∧ (s.bank (bankOf v)).freeEntry = some e) ∧
    (∃ (b : Nat) (e : Nat) (d : DarnEntry) (s : State), (s.bank b).darn.find? (fun x => x.2.migrating) = some (e, d) ∧ s.memRuns ∧ s.splitOn b = false ∧ s.sliceOn b = false ∧ (s.isWritten b d.row = false ∨ tierDecode (wordAddr b d.row d.word) (s.mem.data (wordAddr b d.row d.word)) (s.mem.chk (wordAddr b d.row d.word)) = .clean)) ∧
    (∃ (s : State), s.memRuns ∧ s.rd 0x4300 4 = 1) ∧
    (∃ (b : Nat) (s : State), s.memRuns ∧ s.rd 0x4300 4 = 1 ∧ 0 < (s.bank b).rinseLag ∧ b < 1280 ∧ s.splitOn b = false ∧ s.serviceWaits b = false ∧ s.ownerWaits b = false ∧ (s.bank b).wipePending = false ∧ s.sliceOn b = false) :=
  ⟨⟨39, Tier.br 0x44 1279, Tier.chn, by decide +kernel⟩,
  ⟨i3c, 1279, 0x110, own 1279 15 op, by decide +kernel⟩,
  ⟨1279, setBk 1279 (fun x => { x with handover := true, newOwner := 16, wipe := true }) op, by decide +kernel⟩,
  ⟨1279, setBk 1279 (fun x => { x with initRow := 4095 }) op, by decide +kernel⟩,
  ⟨39, Tier.rep, [], let s := Tier.wr1 op; { s with mem := { s.mem with repairs := [(39, [Tier.rep])] } }, by decide +kernel⟩,
  ⟨i3c, 1279 * 32768 + 4095 * 8 + 7, 0, own 1279 16 op, by decide +kernel⟩,
  ⟨1279, 3, ⟨false, true, 1, 0, 4095, 7⟩, setBk 1279 (fun x => { x with darn := [(3, ⟨false, true, 1, 0, 4095, 7⟩)] }) op, by decide +kernel⟩,
  ⟨setReg 0x4300 4 1 (setBk 1279 (fun x => { x with rinseLag := 4095 }) op), by decide +kernel⟩,
  ⟨1279, setReg 0x4300 4 1 (own 1279 16 (setBk 1279 (fun x => { x with rinseLag := 2, rinsePtr := 4095 }) (Tier.wr1 op))), by decide +kernel⟩⟩

/-- Every clause of `SplitWriteActsOnItsWord` with hypotheses has them met by a state and operands. -/
theorem witness_of_split_write_acts_on_its_word :
    (∃ (src : Source) (b : Nat) (s : State), s.admits src 0x4310 1 3 (leBytes 2 b) s.splitLife true ∧ s.rd 0x4310 2 ≠ 1) ∧
    (∃ (src : Source) (s : State), s.admits src 0x4310 2 1 (leBytes 1 1) s.splitLife true ∧ (s.bank (s.rd 0x4310 1)).handover = false ∧ (s.bank (s.rd 0x4310 1)).owner = 0x43) ∧
    (∃ (src : Source) (s : State), s.admits src 0x4310 2 1 (leBytes 1 0) s.splitLife true) ∧
    (∃ (src : Source) (l : List Byte) (s : State), s.admits src 0x4310 4 10 l s.splitLife true ∧ s.splitReady ∧ s.goes (s.splitOpen true) 0x43) ∧
    (∃ (src : Source) (c : Nat) (s : State), s.admits src 0x4310 5 4 (leBytes 4 c) s.splitLife true ∧ s.splitReady ∧ s.goes (s.splitOpen true) 0x43) ∧
    (∃ (src : Source) (s : State), s.reads src 0x4310 6 ∧ s.goes (s.splitOpen false) 0x43 ∧ s.owns 0x43 (s.rd 0x4310 1)) ∧
    (∃ (s : State), s.goes (s.splitOpen false) 0x43 = false) ∧
    (∃ (src : Source) (v : Nat) (s : State), s.admits src 0x4310 7 4 (leBytes 4 v) s.splitLife (bits v 30 26 = 0) ∧ s.splitReady) ∧
    (∃ (n : Nat), n < 6) :=
  ⟨⟨i3c, 1279, man, by decide +kernel⟩,
  ⟨i3c, own 0 0x43 man, by decide +kernel⟩,
  ⟨i3c, Tier.sp, by decide +kernel⟩,
  ⟨i3c, leBytes 32 (2^255+9), Tier.sp, by decide +kernel⟩,
  ⟨i3c, 2^32-1, Tier.sp, by decide +kernel⟩,
  ⟨i3c, Tier.sp, by decide +kernel⟩,
  ⟨stall 0x43 Tier.sp, by decide +kernel⟩,
  ⟨i3c, 2^31 + 5, Tier.sp, by decide +kernel⟩,
  ⟨5, by decide +kernel⟩⟩

/-- Every clause of `QueueManagementTakesEffect` with hypotheses has them met by a state and operands. -/
theorem witness_of_queue_management_takes_effect :
    (∃ (src : Source) (s : State), s.admits src 0x6000 1 1 (leBytes 1 0) true true ∧ s.goes s.qmOpen 0x40 ∧ s.qm.queues.any (fun x => x.2.enabled) = false) ∧
    (∃ (src : Source) (s : State), s.admits src 0x6000 1 1 (leBytes 1 0) true true ∧ s.goes s.qmOpen 0x40 ∧ s.qm.queues.any (fun x => x.2.enabled)) ∧
    (∃ (src : Source) (s : State), s.admits src 0x6000 1 1 (leBytes 1 1) true true ∧ s.goes s.qmOpen 0x40 ∧ s.rd 0x6000 1 ≠ 1 ∧ s.owns 0x40 s.controlBank ∧ s.isWritten s.controlBank 1024 = false) ∧
    (∃ (s : State), s.qm.rebuilding ∧ s.tierOpen 0x40) ∧
    (∃ (s : State), s.goes s.qmOpen 0x40 = false) ∧
    (∃ (src : Source) (b : Nat) (k : Nat) (s : State), s.admits src 0x6000 4 3 (leBytes 2 b) true true ∧ s.goes s.qmOpen 0x40 ∧ s.owns 0x40 b ∧ s.qmRuns ∧ s.slotOf b = none ∧ ((List.range 255).map (· + 1)).find? (fun k => !(s.slot k).valid) = some k) ∧
    (∃ (src : Source) (b : Nat) (k : Nat) (s : State), s.admits src 0x6000 5 3 (leBytes 2 b) true true ∧ s.goes s.qmOpen 0x40 ∧ s.slotOf b = some k ∧ k ≠ 0 ∧ s.qmRuns ∧ s.usedIn k ≠ 0) ∧
    (∃ (src : Source) (q : Nat) (l : List Byte) (s : State), s.admits src (0x6010 + q / 256) (q % 256) 10 l true (leValue l % 2 ^ 170 = 0 && setupFits (leValue l)) ∧ s.goes s.qmOpen 0x40 ∧ (s.queue q).enabled = false ∧ s.qmRuns) ∧
    (∃ (src : Source) (q : Nat) (s : State), s.admits src 0x6000 0x0B 4 (leBytes 4 (queueValue 1 q)) true (queueFits (queueValue 1 q)) ∧ s.goes s.qmOpen 0x40 ∧ s.qmRuns ∧ (s.queue q).halted = false ∧ (s.queue q).limit ≠ 0) ∧
    (∃ (src : Source) (q : Nat) (s : State), s.admits src 0x6000 0x0B 4 (leBytes 4 (queueValue 2 q)) true (queueFits (queueValue 2 q)) ∧ s.goes s.qmOpen 0x40 ∧ s.qmRuns) ∧
    (∃ (src : Source) (q : Nat) (s : State), s.admits src 0x6000 0x0B 4 (leBytes 4 (queueValue 3 q)) true (queueFits (queueValue 3 q)) ∧ s.goes s.qmOpen 0x40 ∧ s.qmRuns ∧ (s.queue q).enabled = false) ∧
    (∃ (src : Source) (q : Nat) (s : State), s.admits src 0x6000 0x0B 4 (leBytes 4 (queueValue 4 q)) true (queueFits (queueValue 4 q)) ∧ s.goes s.qmOpen 0x40 ∧ s.qmRuns) ∧
    (∃ (link : Nat) (q : Nat) (s : State), s.barLink link ∧ s.dev.state = .operational ∧ s.goes s.qmOpen 0x40 ∧ setupFits (2 ^ 170 * (s.qm.staging / 2 ^ 170)) ∧ (s.queue q).enabled = false ∧ s.qmRuns) :=
  ⟨⟨i3c, setReg 0x6000 1 1 op, by decide +kernel⟩,
  ⟨i3c, qm1 0 0, by decide +kernel⟩,
  ⟨i3c, setReg 0x6000 2 5 (own 5 0x40 op), by decide +kernel⟩,
  ⟨{ qm0 with qm := { qm0.qm with rebuilding := true } }, by decide +kernel⟩,
  ⟨stall 0x40 qm0, by decide +kernel⟩,
  ⟨i3c, 9, 2, own 9 0x40 qm0, by decide +kernel⟩,
  ⟨i3c, 6, 1, { qm0 with qm := { qm0.qm with used := [(4096, true)] } }, by decide +kernel⟩,
  ⟨i3c, 4095, leBytes 32 (stp 1 3), qm0, by decide +kernel⟩,
  ⟨i3c, 4095, que 4095 (fun x => { x with setup := 2^222 }) qm0, by decide +kernel⟩,
  ⟨i3c, 4095, qm1 0 0, by decide +kernel⟩,
  ⟨i3c, 4095, que 4095 (fun x => { x with setup := 2^222 }) qm0, by decide +kernel⟩,
  ⟨i3c, 4095, que 4095 (fun x => { x with overflow := true, halted := true }) (qm1 0 0), by decide +kernel⟩,
  ⟨80, 4095, { qm0 with qm := { qm0.qm with staging := stp 0 0 } }, by decide +kernel⟩⟩

/-- Every clause of `MessagesAreQueuedAndTaken` with hypotheses has them met by a state and operands. -/
theorem witness_of_messages_are_queued_and_taken :
    (∃ (link : Nat) (q : Nat) (l : List Byte) (s : State), s.barLink link ∧ s.dev.state = .operational ∧ s.goes s.qmOpen 0x40 ∧ (l.length = 1 ∨ l.length = 2 ∨ l.length = 4 ∨ l.length = 8) ∧ s.enqStatus q 0 l.length = .ok) ∧
    (∃ (link : Nat) (q : Nat) (a : Nat) (n : Nat) (s : State), s.barLink link ∧ s.dev.state = .operational ∧ s.goes s.hostOpen 0x40 ∧ n ≠ 0 ∧ s.bufferStatus a n = .ok ∧ s.enqStatus q 0 n = .ok) ∧
    (∃ (p : Nat) (q : Nat) (n : Nat) (s : State), s.panelPort p ∧ s.qmOpen ∧ s.panelEnq p = none ∧ s.enqStatus q 1 n = .ok ∧ (s.allocate (cellsFor n)).1.length = 1) ∧
    (∃ (p : Nat) (x : PanelEnq) (s : State), s.panelPort p ∧ s.qmOpen ∧ s.panelEnq p = some x ∧ x.discard = false ∧ x.taken + 1 ≠ x.enq.cells.length) ∧
    (∃ (q : Nat) (l : List Byte) (s : State), s.fwRuns ∧ s.goes s.qmOpen 0x40 ∧ s.enqStatus q 4 l.length = .ok) ∧
    (∃ (q : Nat) (e : Enq) (l : List Enq) (s : State), (s.queue q).enqs = e :: l ∧ s.qmRuns ∧ s.tierOpen 0x40) ∧
    (∃ (link : Nat) (q : Nat) (s : State), s.barLink link ∧ s.dev.state = .operational ∧ s.goes s.hostOpen 0x40 ∧ (s.queue q).consumer = 0 ∧ s.qmRuns ∧ (s.queue q).halted = false ∧ (s.queue q).deq = none ∧ (s.queue q).msgs = 0) ∧
    (∃ (link : Nat) (q : Nat) (len : Nat) (cs : List Nat) (s : State), s.barLink link ∧ s.dev.state = .operational ∧ s.goes s.hostOpen 0x40 ∧ (s.queue q).consumer = 0 ∧ s.qmRuns ∧ (s.queue q).halted = false ∧ (s.queue q).deq = none ∧ (s.queue q).msgs ≠ 0 ∧ s.headMessage q = some (len, cs) ∧ (s.readCells (cs.take 1)).2.2.1 = false) ∧
    (∃ (link : Nat) (q : Nat) (a : Nat) (n : Nat) (s : State), s.barLink link ∧ s.dev.state = .operational ∧ s.goes s.hostOpen 0x40 ∧ n ≠ 0 ∧ n ≤ 65536 ∧ s.bufferStatus a n = .ok ∧ (s.queue q).consumer = 0 ∧ s.qmRuns ∧ (s.queue q).halted = false ∧ (s.queue q).deq = none ∧ (s.queue q).msgs = 0) ∧
    (∃ (link : Nat) (q : Nat) (a : Nat) (n : Nat) (len : Nat) (cs : List Nat) (s : State), s.barLink link ∧ s.dev.state = .operational ∧ s.goes s.hostOpen 0x40 ∧ n ≠ 0 ∧ n ≤ 65536 ∧ s.bufferStatus a n = .ok ∧ (s.queue q).consumer = 0 ∧ s.qmRuns ∧ (s.queue q).halted = false ∧ (s.queue q).deq = none ∧ (s.queue q).msgs ≠ 0 ∧ s.headMessage q = some (len, cs) ∧ len ≤ n ∧ (s.readCells cs).2.2.1 = false) ∧
    (∃ (p : Nat) (q : Nat) (len : Nat) (cs : List Nat) (s : State), s.panelPort p ∧ s.qmOpen ∧ s.panelDeq p = none ∧ (s.queue q).consumer = 1 ∧ (s.queue q).consumerId = p ∧ s.qmRuns ∧ (s.queue q).halted = false ∧ (s.queue q).deq = none ∧ (s.queue q).msgs ≠ 0 ∧ s.headMessage q = some (len, cs)) ∧
    (∃ (p : Nat) (q : Nat) (len : Nat) (cs : List Nat) (d : Deq) (s : State), s.panelPort p ∧ s.tierOpen 0x40 ∧ s.panelDeq p = some q ∧ (s.queue q).deq = some d ∧ s.qmRuns ∧ d.kind = 2 ∧ d.who = p ∧ d.complete = false ∧ s.headMessage q = some (len, cs) ∧ (s.tierRead 0x40 (wordAddr (s.cellRow (cs.getD d.delivered 0)).1 (s.cellRow (cs.getD d.delivered 0)).2 0) 8).status ≠ 2) ∧
    (∃ (q : Nat) (len : Nat) (cs : List Nat) (d : Deq) (s : State), (s.queue q).deq = some d ∧ d.complete ∧ s.qmRuns ∧ s.tierOpen 0x40 ∧ s.headMessage q = some (len, cs) ∧ (s.queue q).waiting = []) ∧
    (∃ (q : Nat) (s : State), s.qmRuns ∧ s.tierOpen 0x40 ∧ (s.queue q).idleTimeout ≠ 0 ∧ (s.queue q).enabled ∧ (s.queue q).msgs ≠ 0 ∧ (s.queue q).idleFired = false ∧ (s.queue q).idleTimeout ≤ (2 ^ 32 + s.dev.aonTime % 2 ^ 32 - (s.queue q).lastRead) % 2 ^ 32) :=
  ⟨⟨80, 4095, msg 8, qm1 0 0, by decide +kernel⟩,
  ⟨80, 4095, 7 * 2^20, 600, qm1 0 0, by decide +kernel⟩,
  ⟨31, 4095, 200, running 31 (qm1 0 0), by decide +kernel⟩,
  ⟨31, ⟨4095, ⟨1, 31, 600, [1040, 4096, 1041]⟩, 1, false⟩, Queues.pq, by decide +kernel⟩,
  ⟨4095, msg 600, qm1 0 0, by decide +kernel⟩,
  ⟨4095, ⟨4, 0, 200, [1040]⟩, [], outOf (execMgmtEnqueue 4095 (msg 200) (qm1 0 0)) op, by decide +kernel⟩,
  ⟨80, 4095, qm1 0 0, by decide +kernel⟩,
  ⟨80, 4095, 200, [1040], Small.one (stp 0 0), by decide +kernel⟩,
  ⟨80, 4095, 7 * 2^20, 600, qm1 0 0, by decide +kernel⟩,
  ⟨80, 4095, 7 * 2^20, 200, 200, [1040], Small.one (stp 0 0), by decide +kernel⟩,
  ⟨31, 4095, 200, [1040], running 31 (Small.one (stp 1 31)), by decide +kernel⟩,
  ⟨31, 4095, 200, [1040], Small.dqOf 2 31 false, Small.dq, by decide +kernel⟩,
  ⟨4095, 200, [1040], Small.dqOf 0 80 true, que 4095 (fun x => { x with deq := some (Small.dqOf 0 80 true) }) (Small.one (stp 0 0)), by decide +kernel⟩,
  ⟨4095, let s := que 4095 (fun x => { x with setup := stp 0 0 + 2^206, msgs := 1, head := 1040, tail := 1040, cells := 1 }) qm0; { s with dev := { s.dev with aonTime := 5000 } }, by decide +kernel⟩⟩

/-- Every clause of `MoversAndVectorsTakeEffect` with hypotheses has them met by a state and operands. -/
theorem witness_of_movers_and_vectors_take_effect :
    (∃ (link : Nat) (m : Nat) (s : State), s.barLink link ∧ s.dev.state = .operational ∧ m < 16) ∧
    (∃ (link : Nat) (m : Nat) (n : Nat) (s : State), s.barLink link ∧ s.dev.state = .operational ∧ m < 16 ∧ n < (s.mover m).size) ∧
    (∃ (link : Nat) (m : Nat) (s : State), s.barLink link ∧ s.dev.state = .operational ∧ (s.mover m).halted) ∧
    (∃ (link : Nat) (m : Nat) (s : State), s.barLink link ∧ s.dev.state = .operational ∧ s.goes s.moverOpen 0x42 ∧ (s.mover m).halted ∧ (s.mover m).size ≠ 0) ∧
    (∃ (link : Nat) (m : Nat) (s : State), s.barLink link ∧ s.dev.state = .operational ∧ (s.mover m).halted) ∧
    (∃ (m : Nat) (d : Nat) (st : Nat) (l : List Byte) (s : State) (u : State), s.moverRuns m ∧ s.moverOpen ∧ s.dev.state = .operational ∧ s.stagingBad = false ∧ (s.mover m).desc = some d ∧ (s.mover m).enq = none ∧ dSrcType d = 1 ∧ dDstType d = 1 ∧ s.tierBytes (dSrc d + (s.mover m).moved) (min 256 (dLen d - (s.mover m).moved)) 3 = (st, l, u) ∧ st < 3 ∧ s.dmaOwns (dDst d + (s.mover m).moved) l.length) ∧
    (∃ (link : Nat) (v : Nat) (f : Nat) (s : State), s.barLink link ∧ s.dev.state = .operational ∧ v < 4160 ∧ f < 4) ∧
    (∃ (v : Nat) (l : Nat) (s : State), (s.vector v).queued || (s.vector v).pending ∧ (s.vector v).control.testBit 0 = false ∧ s.routeLink (bits (s.steer v) 14 12) (s.steer v % 4096) = some l ∧ s.fnMasked l = false ∧ s.isLace l = false) ∧
    (∃ (v : Nat) (s : State), (s.vector v).queued || (s.vector v).pending ∧ (s.vector v).control.testBit 0) ∧
    (∃ (v : Nat) (l : Nat) (s : State), (s.vector v).queued || (s.vector v).pending ∧ (s.vector v).control.testBit 0 = false ∧ s.routeLink (bits (s.steer v) 14 12) (s.steer v % 4096) = some l ∧ s.fnMasked l) ∧
    (∃ (v : Nat) (s : State), (s.vector v).queued ∧ (s.vector v).pending = false ∧ (s.vector v).control.testBit 0 = false ∧ s.routeLink (bits (s.steer v) 14 12) (s.steer v % 4096) = none) :=
  ⟨⟨80, 15, qm0, by decide +kernel⟩,
  ⟨80, 15, 3, mov 15 (fun x => { x with size := 4 }) qm0, by decide +kernel⟩,
  ⟨80, 15, mov 15 (fun x => { x with halted := true, size := 4, base := 8 * 2^20 }) qm0, by decide +kernel⟩,
  ⟨80, 15, mov 15 (fun x => { x with halted := true, size := 4, base := 8 * 2^20, head := 3 }) qm0, by decide +kernel⟩,
  ⟨80, 15, mov 15 (fun x => { x with halted := true, size := 4, base := 8 * 2^20 }) qm0, by decide +kernel⟩,
  ⟨15, Queues.dsc, Queues.tb.1, Queues.tb.2.1, Queues.ms, Queues.tb.2.2, by decide +kernel⟩,
  ⟨80, 4159, 3, qm0, by decide +kernel⟩,
  ⟨4159, 80, Queues.vs, by decide +kernel⟩,
  ⟨4159, { Queues.vs with qm := { Queues.vs.qm with vectors := [(4159, ⟨0x1000, 5, 1, false, true⟩)] } }, by decide +kernel⟩,
  ⟨4159, 80, let s := setReg 0x5110 80 77 (setReg (0x6101 + 16) 63 (5 * 2^12 + 77) { qm0 with qm := { qm0.qm with vectors := [(4159, ⟨0x1000, 5, 0, false, true⟩)] } }); { s with cfg := Tab.put (fun _ => 0) s.cfg (msixKey 80) (2^30) }, by decide +kernel⟩,
  ⟨4159, lnk 80 (fun x => { x with active := false }) Queues.vs, by decide +kernel⟩⟩

/-- Every clause of `AttachedMemoryTakesEffect` with hypotheses has them met by a state and operands. -/
theorem witness_of_attached_memory_takes_effect :
    (∃ (src : Source) (ds : List Dimm) (s : State), s.admits src 0x5300 5 2 (leBytes 1 1) true true ∧ s.dev.state = .managed ∧ s.rd 0x5200 1 ≠ 1 ∧ (∀ c, c < 8 → (s.chan c).cstate ≠ .training ∧ (s.chan c).cstate ≠ .selfRefresh) ∧ (∀ d ∈ ds, d.crcOk) ∧ populationOk ds) ∧
    (∃ (src : Source) (s : State), s.admits src 0x5300 5 2 (leBytes 1 2) true true ∧ s.dev.state = .managed ∧ s.rd 0x5200 1 ≠ 1 ∧ (∀ c, c < 8 → (s.chan c).cstate ≠ .training) ∧ s.populated ≠ [] ∧ (∀ c ∈ s.populated, (s.chan c).cstate = .selfRefresh ∧ (s.chan c).saved = true)) ∧
    (∃ (c : Nat) (r : Nat) (m : Nat) (s : State), (s.chan c).cstate = .training ∧ s.dclkRuns ∧ trainResult (s.chan c).resume r (m % 2 ^ 32) = 0) ∧
    (∃ (c : Nat) (r : Nat) (m : Nat) (s : State), (s.chan c).cstate = .training ∧ s.dclkRuns ∧ trainResult (s.chan c).resume r (m % 2 ^ 32) ≠ 0) ∧
    (∃ (c : Nat) (flips : Nat) (r : DdrReq) (l : List DdrReq) (s : State), (s.chan c).reads = r :: l ∧ s.dclkRuns ∧ (s.chan c).admits (s.writesBack r (lineClass (r.stored.2 ^^^ (flips % 2 ^ 640))))) ∧
    (∃ (line : Nat) (r : DdrReq) (s : State), s.ddr.issued.find? (fun x => x.line = line) = some r ∧ line < s.ddrLines ∧ (s.chan (s.chanOf line)).cstate = .ready ∧ (s.chan (s.chanOf line)).admits r.bursts ∧ s.dclkRuns ∧ s.ddrOpen ∧ s.firstInCap (s.chanOf line) r) ∧
    (∃ (c : Nat) (s : State), (s.chan c).cstate = .ready ∧ s.rd 0x5300 7 = 1 ∧ s.chanBusy c = false ∧ (s.chan c).admits 2 ∧ s.dclkRuns) ∧
    (∃ (c : Nat) (slot : Nat) (s : State), (s.chan c).dimms.testBit slot ∧ slot < 2) :=
  ⟨⟨i3c, [Attached.dm 0, Attached.dm 4], man, by decide +kernel⟩,
  ⟨i3c, setReg 0x5300 4 0x80 (chan 7 (fun x => { x with cstate := .selfRefresh, saved := true }) man), by decide +kernel⟩,
  ⟨7, 0, 2^32-1, setReg 0x5300 4 0x80 (chan 7 (fun x => { x with cstate := .training, dimms := 1, dimmGb := 32, speed := 6400 }) man), by decide +kernel⟩,
  ⟨7, 5, 0, setReg 0x5300 4 0x80 (chan 7 (fun x => { x with cstate := .training }) man), by decide +kernel⟩,
  ⟨0, 0, Small.rdq, [], chan 0 (fun x => { x with reads := [Small.rdq] }) dd0, by decide +kernel⟩,
  ⟨5, Small.rdq, { dd0 with ddr := { dd0.ddr with issued := [Small.rdq] } }, by decide +kernel⟩,
  ⟨0, setReg 0x5300 7 1 dd0, by decide +kernel⟩,
  ⟨0, 0, dd0, by decide +kernel⟩⟩

/-- Every clause of `DirectoryTakesEffect` with hypotheses has them met by a state and operands. -/
theorem witness_of_directory_takes_effect :
    (∃ (link : Nat) (partner : Nat) (dpid : Nat) (op : Nat) (field : Nat) (line : Nat) (cls : Nat) (m : Nat) (l : Nat) (s : State), s.memLink link ∧ s.portClock link ∧ s.misrouted link dpid = false ∧ s.dpaLine link (line % 2 ^ 46) = some l ∧ (op = 5 → s.snoopSent (s.partnerOf link partner) (l % 2 ^ 36) = none) ∧ requestClass op field = some (cls, m) ∧ s.serving ∧ s.ddrReady ∧ s.registered (s.partnerOf link partner) ∧ s.pipelineLoad (l % 2 ^ 36) < 512 ∧ 17 ∉ s.clkLost) ∧
    (∃ (link : Nat) (partner : Nat) (dpid : Nat) (line : Nat) (l : Nat) (x : DirTxn) (s : State), s.memLink link ∧ s.portClock link ∧ s.misrouted link dpid = false ∧ s.dpaLine link (line % 2 ^ 46) = some l ∧ s.snoopSent (s.partnerOf link partner) (l % 2 ^ 36) = some x) ∧
    (∃ (link : Nat) (dpid : Nat) (s : State), s.memLink link ∧ s.portClock link ∧ s.misrouted link dpid) ∧
    (∃ (m : Nat) (line : Nat) (s : State), s.servesLocal ∧ s.pipelineLoad line < 512 ∧ 17 ∉ s.clkLost ∧ (s.mover m).wants line) ∧
    (∃ (m : Nat) (line : Nat) (w : LineWrite) (s : State), s.servesLocal ∧ s.pipelineLoad line < 512 ∧ 17 ∉ s.clkLost ∧ (s.mover m).writes.find? (fun x => x.line = line) = some w) ∧
    (∃ (n : Nat) (x : DirTxn) (s : State), s.txn n = some x ∧ x.phase = .lookup ∧ s.dirRuns ∧ s.dirOpen ∧ n < s.dir.nextId) ∧
    (∃ (n : Nat) (x : DirTxn) (s : State), s.txn n = some x ∧ x.phase = .pend ∧ s.dirRuns ∧ s.dirOpen ∧ x.snoops ≠ []) ∧
    (∃ (n : Nat) (x : DirTxn) (s : State), s.txn n = some x ∧ x.phase = .final ∧ s.dirRuns ∧ s.dirOpen ∧ n < s.dir.nextId) ∧
    (∃ (p : Nat) (line : Nat) (x : DirTxn) (s : State), s.snoopTxn p line = some x ∧ x.snoops.any (fun q => q.partner = p && q.issues = 0) ∧ s.snoopsOut < 1024 ∧ 17 ∉ s.clkLost) ∧
    (∃ (link : Nat) (spid : Nat) (dpid : Nat) (line : Nat) (x : DirTxn) (q : Snoop) (s : State), s.memLink link ∧ s.portClock link ∧ s.misrouted link dpid = false ∧ s.snoopSent (s.partnerOf link spid) line = some x ∧ x.snoops.find? (fun y => y.partner = s.partnerOf link spid) = some q) ∧
    (∃ (link : Nat) (spid : Nat) (dpid : Nat) (line : Nat) (s : State), s.memLink link ∧ s.portClock link ∧ s.misrouted link dpid = false ∧ s.snoopSent (s.partnerOf link spid) line = none) ∧
    (∃ (p : Nat) (line : Nat) (x : DirTxn) (q : Snoop) (s : State), s.snoopTxn p line = some x ∧ x.snoops.find? (fun y => y.partner = p) = some q ∧ q.issues ≠ 0 ∧ q.issuedAt + s.rd 0x5200 7 ≤ s.dev.aonTime) ∧
    (∃ (link : Nat) (dpid : Nat) (s : State), s.memLink link ∧ s.portClock link ∧ s.misrouted link dpid = false) ∧
    (∃ (src : Source) (k : Nat) (s : State), s.admits src 0x5200 1 1 (leBytes 1 1) true true ∧ s.goes s.sweepOpen 0x41 ∧ s.dirShape ∧ (∀ j ∈ s.dirSlots, s.owns 0x41 (s.rd 0x5201 j)) ∧ s.dir.sweep = some k ∧ k ≠ 1) ∧
    (∃ (src : Source) (s : State), s.admits src 0x5200 1 1 (leBytes 1 1) true true ∧ s.goes s.sweepOpen 0x41 ∧ s.dirShape ∧ (∀ k ∈ s.dirSlots, s.owns 0x41 (s.rd 0x5201 k)) ∧ s.dir.sweep = none) ∧
    (∃ (src : Source) (s : State), s.admits src 0x5200 1 1 (leBytes 1 0) true true ∧ s.goes s.sweepOpen 0x41 ∧ s.rd 0x5200 8 = 0 ∧ s.dir.sweep = none) ∧
    (∃ (k : Nat) (s : State), s.dir.sweep = some k ∧ s.sweptAll ∧ (∀ x ∈ s.dir.txns, x.cls ≠ 0xB) ∧ s.dir.resumeDue = false) ∧
    (∃ (k : Nat) (s : State), s.dir.sweep = some k ∧ s.sweptAll ∧ (∀ x ∈ s.dir.txns, x.cls ≠ 0xB) ∧ s.dir.resumeDue) ∧
    (∃ (k : Nat) (s : State), s.dir.sweep = some k ∧ s.sweptAll = false ∧ s.dirRuns ∧ s.dirOpen ∧ s.sweepRoom) ∧
    (∃ (src : Source) (v : Nat) (s : State), s.admits src 0x5200 4 4 (leBytes 4 (2 ^ 28 + v % 2 ^ 28)) true (dirCommandFits (2 ^ 28 + v % 2 ^ 28)) ∧ s.goes s.sweepOpen 0x41 ∧ s.rd 0x5200 1 = 1 ∧ s.dir.sweep = none) ∧
    (∃ (src : Source) (v : Nat) (s : State), s.admits src 0x5200 4 4 (leBytes 4 (2 * 2 ^ 28 + v % 2 ^ 28)) true (dirCommandFits (2 * 2 ^ 28 + v % 2 ^ 28)) ∧ s.goes s.sweepOpen 0x41 ∧ s.rd 0x5200 1 = 1 ∧ s.dir.sweep = none) ∧
    (∃ (src : Source) (i : Nat) (v : Nat) (s : State), s.admits src 0x5202 i 4 (leBytes 4 v) true true ∧ s.goes s.sweepOpen 0x41 ∧ s.dir.sweep = none) ∧
    (∃ (src : Source) (k : Nat) (v : Nat) (s : State), s.admits src 0x5201 k 3 (leBytes 2 v) true (s.bankSlotFits k v) ∧ s.rd 0x5200 1 ≠ 1 ∧ s.rd 0x5200 8 = 0) :=
  ⟨⟨16, 77, 0, 1, 1, 5, 1, 1, 5, dd0, by decide +kernel⟩,
  ⟨16, 77, 0, 5, 5, txn Attached.f5, Attached.f5, by decide +kernel⟩,
  ⟨16, 9, setReg 0x5100 1 (2 * 2^30 + 2^27 + 2^24) dd0, by decide +kernel⟩,
  ⟨15, 5, Attached.dmv, by decide +kernel⟩,
  ⟨15, 5, ⟨5, 2^64-1, 77⟩, mov 15 (fun x => { x with writes := [⟨5, 2^64-1, 77⟩] }) dd0, by decide +kernel⟩,
  ⟨1, txn (Small.inDir .lookup 0), Small.inDir .lookup 0, by decide +kernel⟩,
  ⟨1, txn (Small.inDir .pend 0), Small.inDir .pend 0, by decide +kernel⟩,
  ⟨1, txn (Small.inDir .final 0), Small.inDir .final 0, by decide +kernel⟩,
  ⟨77, 5, txn (Small.inDir .snooping 0), Small.inDir .snooping 0, by decide +kernel⟩,
  ⟨16, 77, 0, 5, txn (Small.inDir .snooping 1), Small.sn 1, Small.inDir .snooping 1, by decide +kernel⟩,
  ⟨16, 77, 0, 6, Small.inDir .snooping 1, by decide +kernel⟩,
  ⟨77, 5, txn (Small.inDir .snooping 1), Small.sn 1, { Small.inDir .snooping 1 with dev := { (Small.inDir .snooping 1).dev with aonTime := 10^7 } }, by decide +kernel⟩,
  ⟨16, 0, dd0, by decide +kernel⟩,
  ⟨i3c, 2, { dd0 with dir := { dd0.dir with sweep := some 2 } }, by decide +kernel⟩,
  ⟨i3c, setReg 0x5200 1 0 dd0, by decide +kernel⟩,
  ⟨i3c, dd0, by decide +kernel⟩,
  ⟨1, { dd0 with dir := { dd0.dir with sweep := some 1, sweepNext := 4096 } }, by decide +kernel⟩,
  ⟨2, { dd0 with dir := { dd0.dir with sweep := some 2, sweepNext := 4096, resumeDue := true } }, by decide +kernel⟩,
  ⟨2, { dd0 with dir := { dd0.dir with sweep := some 2, sweepNext := 4095 } }, by decide +kernel⟩,
  ⟨i3c, 0, dd0, by decide +kernel⟩,
  ⟨i3c, 77, dd0, by decide +kernel⟩,
  ⟨i3c, 127, 2^32-1, dd0, by decide +kernel⟩,
  ⟨i3c, 255, 1279, setReg 0x5200 1 0 dd0, by decide +kernel⟩⟩

/-- Every clause of `LanesTrainAndEqualize` with hypotheses has them met by a state and operands. -/
theorem witness_of_lanes_train_and_equalize :
    (∃ (k : Nat) (s : State), (s.lane k).lstate = .detect ∧ s.isLace k ∧ s.lanesLive k) ∧
    (∃ (k : Nat) (f : Nat) (inv : Bool) (v : List Nat) (s : State), (s.lane k).lstate = .train ∧ s.isLace k ∧ heardValue frameGood (s.lane k).rate v = some (f, inv)) ∧
    (∃ (k : Nat) (v : List Nat) (s : State), (s.lane k).lstate = .train ∧ s.isLace k ∧ heardValue frameGood (s.lane k).rate v = none) ∧
    (∃ (k : Nat) (s : State), (s.lane k).lstate = .train ∧ 8 < (s.lane k).linkRate ∧ (s.lane k).switchSeen ∧ 16 ≤ (s.lane k).switches ∧ (s.lane k).equalizing = false) ∧
    (∃ (k : Nat) (v : Nat) (s : State), (s.lane k).lstate = .train ∧ (s.lane k).equalizing ∧ (s.lane k).serving = 0 ∧ eqAsk v ≠ 0) ∧
    (∃ (k : Nat) (v : Nat) (s : State), (s.lane k).lstate = .train ∧ eqAsk (s.lane k).request ≠ 0 ∧ 2 ^ 12 * bits v 12 12 + bits v 9 4 * 2 ^ 4 ≠ 0) ∧
    (∃ (k : Nat) (s : State), (s.lane k).lstate = .train ∧ eqAsk (s.lane k).request ≠ 0) ∧
    (∃ (k : Nat) (s : State), (s.lane k).lstate = .train ∧ (s.lane k).equalizing ∧ eqDone (s.lane k).request = false ∧ eqAsk (s.lane k).request = 0 ∧ (s.lane k).settled = false) ∧
    (∃ (k : Nat) (s : State), (s.lane k).lstate = .train ∧ eqDone (s.lane k).request ∧ 3 ≤ (s.lane k).doneSeen ∧ 16 ≤ (s.lane k).doneSent ∧ (s.link (s.linkOfLane k)).lace.leadKnown) ∧
    (∃ (k : Nat) (s : State), (s.lane k).lstate = .train ∧ s.isLace k) :=
  ⟨⟨32, Lanes.lane 32 (fun x => { x with lstate := .detect }) Lanes.lc, by decide +kernel⟩,
  ⟨32, Lanes.fr, false, Lanes.heard 512 Lanes.fr, Lanes.tr, by decide +kernel⟩,
  ⟨32, Lanes.heard 512 (Lanes.fr+1), Lanes.tr, by decide +kernel⟩,
  ⟨32, Lanes.tr2, by decide +kernel⟩,
  ⟨32, 2^14 + 3*2^11, Lanes.eqs, by decide +kernel⟩,
  ⟨32, 2^12, Lanes.eqs, by decide +kernel⟩,
  ⟨32, Lanes.eqs, by decide +kernel⟩,
  ⟨32, Lanes.eq2, by decide +kernel⟩,
  ⟨32, Lanes.lane 32 (fun x => {x with request := 2^15, doneSeen := 3, doneSent := 16}) (lnk 32 (fun x => { x with lace := { x.lace with nonce := 5, peerNonce := 7 } }) Lanes.eqs), by decide +kernel⟩,
  ⟨32, Lanes.tr, by decide +kernel⟩⟩

/-- Every clause of `LinksFormAndMarkersAreFollowed` with hypotheses has them met by a state and operands. -/
theorem witness_of_links_form_and_markers_are_followed :
    (∃ (k : Nat) (m : Nat) (inv : Bool) (v : List Nat) (s : State), s.isLace k ∧ (s.lane k).lstate = .lock ∧ heardValue markerGood (s.lane k).rate v = some (m, inv) ∧ (s.lane k).markerLane = some (bits m 55 52)) ∧
    (∃ (k : Nat) (v : List Nat) (s : State), s.isLace k ∧ (s.lane k).lstate = .active ∧ (s.lane k).rxPower = 2 ∧ (s.lane k).heardMarker v = some (s.lane k).logical ∧ (s.lane k).markerLane = some (s.lane k).logical) ∧
    (∃ (k : Nat) (on : Bool) (v : List Nat) (s : State), s.isLace k ∧ (s.lane k).lstate = .active ∧ (s.lane k).rxPower ≠ 2 ∧ ¬((s.lane k).heardMarker v = some (s.lane k).logical ∧ on)) ∧
    (∃ (k : Nat) (w : Nat) (s : State), s.isLace (s.linkOfLane k) ∧ (s.linkLanes (s.linkOfLane k)).any (fun i => (s.lane i).lstate = .lock) ∧ (s.linkLanes (s.linkOfLane k)).all (fun i => (s.lane i).locked || s.exclusion i = some 4) ∧ s.formWidth (s.linkOfLane k) = some w ∧ (s.link (s.linkOfLane k)).lace.retraining = false) ∧
    (∃ (k : Nat) (s : State), s.isLace (s.linkOfLane k) ∧ (s.linkLanes (s.linkOfLane k)).any (fun i => (s.lane i).lstate = .lock) ∧ s.formWidth (s.linkOfLane k) = none) ∧
    (∃ (k : Nat) (s : State), s.isLace (s.linkOfLane k) ∧ (s.linkLanes (s.linkOfLane k)).any (fun i => (s.lane i).lstate = .exchange)) ∧
    (∃ (l : Nat) (w : Nat) (r : Nat) (fm : Bool) (f68 : Bool) (rev : Bool) (s : State), (s.portMode (portOf l) = 1 ∨ s.portMode (portOf l) = 2) ∧ s.beginsLink l ∧ s.portEnabled (portOf l) ∧ s.lanesLive l ∧ s.rateFits l r ∧ s.ltssmFits l w r fm f68 ∧ let k := if rev then l + (s.linkWidth l - 1) else l; s.laneOff k = false ∧ s.testOwned k = false ∧ s.laneTested k = false) ∧
    (∃ (l : Nat) (w : Nat) (r : Nat) (fm : Bool) (f68 : Bool) (s : State), (s.portMode (portOf l) = 1 ∨ s.portMode (portOf l) = 2) ∧ s.beginsLink l ∧ s.portEnabled (portOf l) ∧ s.lanesLive l ∧ (s.link l).active ∧ (s.link l).flitMode ∧ fm = true ∧ s.rateFits l r ∧ s.ltssmFits l (s.link l).width r fm f68 ∧ widthLegal w ∧ w ≤ (s.link l).width ∧ (s.throttle.narrow → w ≤ (s.link l).presentWidth)) ∧
    (∃ (l : Nat) (s : State), (s.portMode (portOf l) = 1 ∨ s.portMode (portOf l) = 2) ∧ s.beginsLink l ∧ s.portEnabled (portOf l) ∧ s.lanesLive l) ∧
    (∃ (l : Nat) (s : State), (s.portMode (portOf l) = 1 ∨ s.portMode (portOf l) = 2) ∧ s.beginsLink l ∧ s.portEnabled (portOf l) ∧ s.lanesLive l) ∧
    (∃ (src : Source) (k : Nat) (v : Nat) (s : State), s.admits src 0x5001 k 3 (leBytes 2 (setBit v 14 true)) true (laneControlFits (setBit v 14 true)) ∧ s.testOwned k = false ∧ ((s.lane k).lstate = .disabled ∨ (s.lane k).lstate = .detect)) ∧
    (∃ (src : Source) (k : Nat) (v : Nat) (s : State), s.admits src 0x5001 k 3 (leBytes 2 (setBit v 15 true)) true (laneControlFits (setBit v 15 true)) ∧ s.testOwned k = false ∧ ((s.lane k).lstate = .disabled ∨ (s.lane k).lstate = .detect)) :=
  ⟨⟨32, Lanes.mkr 3, false, Lanes.heard 120 (Lanes.mkr 3), Lanes.lk, by decide +kernel⟩,
  ⟨32, 0 :: precode 0 (bitLevels 120 (Lanes.mkr 0)), Lanes.lane 32 (fun x => { x with rxPower := 2, rate := 10, markerLane := some 0, logical := 0 }) (Lanes.ac 0), by decide +kernel⟩,
  ⟨32, true, Lanes.heard 120 5, Lanes.ac 0, by decide +kernel⟩,
  ⟨32, 2, Lanes.f2, by decide +kernel⟩,
  ⟨32, Lanes.lane 33 (fun x => { x with logical := 5}) (Lanes.lane 32 (fun x => { x with lstate := .lock, logical := 7}) Lanes.f2), by decide +kernel⟩,
  ⟨32, Lanes.lane 33 (fun x => { x with lstate := .exchange}) Lanes.f2, by decide +kernel⟩,
  ⟨32, 4, 6, true, false, false, Lanes.sd, by decide +kernel⟩,
  ⟨32, 2, 6, true, false, outOf (execLinkUp 32 Lanes.l0) Lanes.l0, by decide +kernel⟩,
  ⟨32, Lanes.l0, by decide +kernel⟩,
  ⟨32, Lanes.l0, by decide +kernel⟩,
  ⟨i3c, 32, 0, Lanes.lane 32 (fun x => { x with givenUp := true, dropped := true, failRun := 3}) Lanes.lc, by decide +kernel⟩,
  ⟨i3c, 32, 0, Lanes.lane 32 (fun x => { x with lstate := .detect}) Lanes.lc, by decide +kernel⟩⟩

/-- Every clause of `LoopbackAndEyeMeasure` with hypotheses has them met by a state and operands. -/
theorem witness_of_loopback_and_eye_measure :
    (∃ (src : Source) (k : Nat) (v : Nat) (s : State), s.admits src 0x500A k 4 (leBytes 4 (setBit v 31 true)) true (loopbackFits (setBit v 31 true)) ∧ s.testOwned k = false ∧ (s.rd 0x500A k).testBit 31 = false ∧ ((s.lane k).lstate = .disabled ∨ (s.lane k).lstate = .detect)) ∧
    (∃ (src : Source) (k : Nat) (s : State), s.admits src 0x500A k 4 (leBytes 4 (setBit (s.rd 0x500A k) 31 false)) true (loopbackFits (setBit (s.rd 0x500A k) 31 false)) ∧ s.testOwned k = false ∧ (s.rd 0x500A k).testBit 31 = true ∧ s.rd 0x500A k < 2 ^ 32) ∧
    (∃ (k : Nat) (s : State), s.loopbackRuns k ∧ s.rd 0x500A k % 2 ^ 16 ≠ 0) ∧
    (∃ (k : Nat) (s : State), s.loopbackRuns k ∧ (bits (s.rd 0x500A k) 19 18 = 1 ∨ bits (s.rd 0x500A k) 19 18 = 2)) ∧
    (∃ (src : Source) (k : Nat) (v : Nat) (s : State), s.admits src 0x5003 k 2 (leBytes 1 v) true true ∧ ((s.lane k).lstate = .active ∨ (s.lane k).lstate = .loopback) ∧ bits (s.rd 0x5004 k) 31 30 ≠ 3 ∧ (s.lane k).margining = false) ∧
    (∃ (k : Nat) (s : State), bits (s.rd 0x5004 k) 31 30 = 3) ∧
    (∃ (k : Nat) (s : State), (s.lane k).lstate = .active ∧ s.isLace k = false) :=
  ⟨⟨i3c, 32, 10*2^24 + 4*2^20 + 7, Lanes.lc, by decide +kernel⟩,
  ⟨i3c, 32, Lanes.lb, by decide +kernel⟩,
  ⟨32, Lanes.lb, by decide +kernel⟩,
  ⟨32, Lanes.lbf, by decide +kernel⟩,
  ⟨i3c, 32, 1, Lanes.ac 0, by decide +kernel⟩,
  ⟨32, outOf (execEyeCommand i3c 32 1 (Lanes.ac 0)) (Lanes.ac 0), by decide +kernel⟩,
  ⟨32, Lanes.lane 32 (fun x => { x with lstate := .active}) (setReg 0x5004 32 (3 * 2^30) Lanes.sd), by decide +kernel⟩⟩

/-- Every clause of `SelfTestsRun` with hypotheses has them met by a state and operands. -/
theorem witness_of_self_tests_run :
    (∃ (src : Source) (v : Nat) (s : State), let c := stValue v 1 1; s.admits src 0x7800 1 5 (leBytes 8 c) (s.stLife c) true ∧ stInRange c ∧ stFits c ∧ s.writesHeld 0x7800 = false ∧ s.stStatus c = .ok) ∧
    (∃ (src : Source) (v : Nat) (s : State), let c := stValue v 1 2; s.admits src 0x7800 1 5 (leBytes 8 c) (s.stLife c) true ∧ stFits c ∧ s.writesHeld 0x7800 = false ∧ s.stStatus c = .ok) ∧
    (∃ (src : Source) (v : Nat) (s : State), let c := stValue v 1 3; s.admits src 0x7800 1 5 (leBytes 8 c) (s.stLife c) true ∧ stInRange c ∧ stFits c ∧ s.writesHeld 0x7800 = false ∧ s.stStatus c = .ok) ∧
    (∃ (src : Source) (v : Nat) (s : State), let c := stValue v 1 4; s.admits src 0x7800 1 5 (leBytes 8 c) (s.stLife c) true ∧ stFits c ∧ s.writesHeld 0x7800 = false ∧ s.stStatus c = .ok) ∧
    (∃ (src : Source) (v : Nat) (s : State), let c := stValue v 2 (stEngine v); s.admits src 0x7800 1 5 (leBytes 8 c) true true ∧ v % 2 ^ 56 = 0 ∧ s.writesHeld 0x7800 = false) ∧
    (∃ (g : Nat) (b : Nat) (s : State), s.testBank g = some b ∧ s.st.memory = 1 ∧ s.st.aborting = false ∧ g < 40 ∧ (s.testGroup g).slice = false ∧ s.sliceDue g ∧ s.memRuns ∧ s.serviceWaits b = false ∧ s.ownerWaits b = false ∧ (s.bank b).wipePending = false ∧ (s.bank b).rinseLag = 0) ∧
    (∃ (g : Nat) (b : Nat) (s : State), s.testBank g = some b ∧ (s.testGroup g).slice ∧ s.memRuns ∧ s.st.aborting = false ∧ (s.testGroup g).row + s.sliceRows b (s.testGroup g).row ≠ 4096) ∧
    (∃ (p : Nat) (s : State), s.st.logic = 1 ∧ p < 32 ∧ s.st.panels.testBit p) ∧
    (∃ (s : State), s.st.lane = 1) ∧
    (∃ (s : State), s.st.fuse = 1) :=
  ⟨⟨i3c, 2 * 2^16 + 5, Checks.t1, by decide +kernel⟩,
  ⟨i3c, 6, Checks.t1, by decide +kernel⟩,
  ⟨i3c, 10 * 2^52 + 4 * 2^48 + 2 * 2^8 + 33, Checks.t1, by decide +kernel⟩,
  ⟨i3c, 0, Checks.t1, by decide +kernel⟩,
  ⟨i3c, 2 * 2^56, Checks.tl, by decide +kernel⟩,
  ⟨0, 5, Checks.um, by decide +kernel⟩,
  ⟨0, 5, Checks.um2, by decide +kernel⟩,
  ⟨1, Checks.tl, by decide +kernel⟩,
  ⟨Checks.tn, by decide +kernel⟩,
  ⟨Checks.tf, by decide +kernel⟩⟩

/-- Every clause of `PortsTakeTheirConfiguration` with hypotheses has them met by a state and operands. -/
theorem witness_of_ports_take_their_configuration :
    (∃ (src : Source) (p : Nat) (v : Nat) (s : State), s.admits src 0x5100 p 4 (leBytes 4 v) true (portConfigFits v) ∧ ((s.rd 0x5100 p).testBit 24 = false ∨ setBit v 24 true = s.rd 0x5100 p) ∧ (v.testBit 24 → (s.rd 0x5100 p).testBit 24 = false → needsShim v → s.rd 0x5103 p ≠ 0xFF)) ∧
    (∃ (src : Source) (p : Nat) (v : Nat) (s : State), s.admits src 0x5102 p 2 (leBytes 1 v) true true) ∧
    (∃ (p : Nat) (s : State), s.portsLive ∧ p < 6 ∧ (s.portMode p = 1 ∨ s.portMode p = 2) ∧ s.portRole p = 0 ∧ s.portEnabled p) ∧
    (∃ (l : Nat) (s : State), s.beginsLink l ∧ s.portEnabled (portOf l) ∧ (s.link l).active = false ∧ (s.linkLanes l).any (fun k => (s.lane k).lstate = .active) ∧ (s.link l).width ≠ 0) ∧
    (∃ (l : Nat) (s : State), (s.link l).active) ∧
    (∃ (src : Source) (n : Nat) (s : State), s.served src ∧ (s.sec.dead = false ∨ firmwareServes src 0x5120 2 false = false) ∧ (s.countRequest src).readStatus 0x5120 2 true = .ok ∧ s.goes s.rootOpen 0x45 ∧ s.rootReady ∧ (s.link s.rootLink).freeTag = some n) ∧
    (∃ (src : Source) (n : Nat) (v : Nat) (s : State), s.admits src 0x5120 2 4 (leBytes 4 v) true true ∧ s.goes s.rootOpen 0x45 ∧ s.rootReady ∧ (s.link s.rootLink).freeTag = some n) ∧
    (∃ (s : State), s.goes s.rootOpen 0x45 = false) ∧
    (∃ (l : Nat) (dpid : Nat) (n : Nat) (v : Nat) (src : Source) (w : Bool) (s : State), s.portClock l ∧ s.misrouted l dpid = false ∧ (s.link l).asker n = some (.rootCfg src w v)) :=
  ⟨⟨i3c, 2, Ports.pc0, op, by decide +kernel⟩,
  ⟨i3c, 2, 1, lnk 32 (fun x => {x with active := true}) Ports.pcA, by decide +kernel⟩,
  ⟨1, pcie 1 op, by decide +kernel⟩,
  ⟨32, Ports.l0, by decide +kernel⟩,
  ⟨32, Ports.l1, by decide +kernel⟩,
  ⟨i3c, (Ports.rt.link 16).freeTag.getD 0, Ports.rt, by decide +kernel⟩,
  ⟨i3c, (Ports.rt.link 16).freeTag.getD 0, 77, Ports.rt, by decide +kernel⟩,
  ⟨stall 0x45 Ports.rt, by decide +kernel⟩,
  ⟨16, 0, (Ports.rt.link 16).freeTag.getD 0, 0, i3c, false, Ports.rt1, by decide +kernel⟩⟩

/-- Every clause of `PortsServeTheirPartners` with hypotheses has them met by a state and operands. -/
theorem witness_of_ports_serve_their_partners :
    (∃ (l : Nat) (dpid : Nat) (off : Nat) (n : Nat) (s : State), s.barLink l ∧ s.dev.state = .operational ∧ s.isLace l = false ∧ s.portClock l ∧ s.misrouted l dpid = false ∧ s.goes true 0x40 ∧ 1 ≤ n ∧ off + n ≤ 1280 * 2 ^ 20) ∧
    (∃ (l : Nat) (dpid : Nat) (off : Nat) (d : List Byte) (s : State), s.barLink l ∧ s.dev.state = .operational ∧ s.isLace l = false ∧ s.portClock l ∧ s.misrouted l dpid = false ∧ s.goes true 0x40 ∧ d ≠ [] ∧ off % 32 + d.length ≤ 32 ∧ 1280 * 2 ^ 20 ≤ off ∧ off + d.length ≤ 2 ^ 31) ∧
    (∃ (l : Nat) (dpid : Nat) (off : Nat) (d : List Byte) (s : State), s.barLink l ∧ s.dev.state = .operational ∧ s.isLace l = false ∧ s.portClock l ∧ s.misrouted l dpid = false ∧ s.goes true 0x40 ∧ d ≠ [] ∧ off % 32 + d.length ≤ 32 ∧ off + d.length ≤ 1280 * 2 ^ 20) ∧
    (∃ (l : Nat) (dpid : Nat) (off : Nat) (op : Nat) (size : Nat) (s : State), s.barLink l ∧ s.isLace l = false ∧ s.dev.state = .operational ∧ s.portClock l ∧ s.misrouted l dpid = false ∧ (size = 4 ∨ size = 8) ∧ off % size = 0 ∧ off + size ≤ 1280 * 2 ^ 20 ∧ 1 ≤ op ∧ op ≤ 3) ∧
    (∃ (l : Nat) (dpid : Nat) (fn : Nat) (s : State), s.cfgServed l ∧ s.portClock l ∧ s.misrouted l dpid = false ∧ s.hasFn l fn) ∧
    (∃ (l : Nat) (dpid : Nat) (fn : Nat) (off : Nat) (s : State), s.cfgServed l ∧ s.portClock l ∧ s.misrouted l dpid = false ∧ s.hasFn l fn ∧ 0x10 ≤ off % 4096 ∧ off % 4096 < 0x28) ∧
    (∃ (l : Nat) (dpid : Nat) (fn : Nat) (s : State), s.cfgServed l ∧ s.portClock l ∧ s.misrouted l dpid = false ∧ s.hasFn l fn = false) ∧
    (∃ (l : Nat) (dpid : Nat) (n : Nat) (m : Nat) (s : State), s.isLace l = false ∧ s.linkActive l ∧ s.portClock l ∧ s.misrouted l dpid = false ∧ (s.link l).asker n = some (.mover m) ∧ (s.mover m).asked) ∧
    (∃ (l : Nat) (dpid : Nat) (n : Nat) (m : Nat) (st : Nat) (s : State), s.isLace l = false ∧ s.linkActive l ∧ s.portClock l ∧ s.misrouted l dpid = false ∧ (s.link l).asker n = some (.mover m) ∧ (s.mover m).asked ∧ st ≠ 0) ∧
    (∃ (l : Nat) (n : Nat) (m : Nat) (s : State), s.isLace l = false ∧ (s.link l).asker n = some (.mover m) ∧ (s.mover m).asked) ∧
    (∃ (l : Nat) (k : Nat) (s : State), (s.link l).active ∧ s.isLace l = false ∧ k ∈ (s.link l).ide) ∧
    (∃ (l : Nat) (s : State), (s.link l).active ∧ s.isLace l = false ∧ (s.link l).flitMode ∧ s.throttle.narrow ∧ (s.link l).narrowed = false ∧ (s.link l).width ≠ 0) :=
  ⟨⟨16, 0, 100, 40, Ports.pe, by decide +kernel⟩,
  ⟨16, 0, 1280 * 2^20, msg 4, Ports.pe, by decide +kernel⟩,
  ⟨16, 0, 100, msg 4, Ports.pe, by decide +kernel⟩,
  ⟨16, 0, 96, 1, 4, Ports.pe, by decide +kernel⟩,
  ⟨16, 0, 0, Ports.pe, by decide +kernel⟩,
  ⟨16, 0, 0, 0x10, Ports.pe, by decide +kernel⟩,
  ⟨16, 0, 3, Ports.pe, by decide +kernel⟩,
  ⟨16, 0, 5, 3, Ports.mvr, by decide +kernel⟩,
  ⟨16, 0, 5, 3, 1, Ports.mvr, by decide +kernel⟩,
  ⟨16, 5, 3, Ports.mvr, by decide +kernel⟩,
  ⟨16, 2, lnk 16 (fun x => {x with ide := [1,2]}) Ports.pe, by decide +kernel⟩,
  ⟨16, Ports.nr, by decide +kernel⟩⟩

/-- Every clause of `ShimsPassPackets` with hypotheses has them met by a state and operands. -/
theorem witness_of_shims_pass_packets :
    (∃ (p : Nat) (kind : Nat) (l : Nat) (dpid : Nat) (panel : Nat) (s : State), portOf l = p ∧ s.linkActive l ∧ s.shimRxKind l kind ∧ s.portClock l ∧ s.misrouted l dpid = false ∧ kind ≠ 3 ∧ kind ≠ 5 ∧ s.shimGate p kind = 0 ∧ s.shimPanel p = some panel ∧ (s.panel panel).pstate = .running) ∧
    (∃ (p : Nat) (kind : Nat) (l : Nat) (dpid : Nat) (panel : Nat) (s : State), portOf l = p ∧ s.linkActive l ∧ s.shimRxKind l kind ∧ s.portClock l ∧ s.misrouted l dpid = false ∧ kind ≠ 3 ∧ kind ≠ 5 ∧ s.shimGate p kind = 0 ∧ s.shimPanel p = some panel ∧ (s.panel panel).pstate ≠ .running ∧ (s.shim p).rx.length < 64) ∧
    (∃ (p : Nat) (kind : Nat) (l : Nat) (dpid : Nat) (panel : Nat) (s : State), portOf l = p ∧ s.linkActive l ∧ s.shimRxKind l kind ∧ s.portClock l ∧ s.misrouted l dpid = false ∧ (kind = 3 ∨ kind = 5) ∧ s.shimPanel p = some panel ∧ (s.panel panel).pstate = .running) ∧
    (∃ (p : Nat) (kind : Nat) (l : Nat) (dpid : Nat) (tag : Nat) (panel : Nat) (s : State), portOf l = p ∧ s.linkActive l ∧ s.shimRxKind l kind ∧ s.portClock l ∧ s.misrouted l dpid = false ∧ s.shimPanel p = some panel ∧ (if kind = 3 ∨ kind = 5 then ((s.link l).asker (shimKey (if kind = 3 then 6 else 7) tag)).isSome else s.shimGate p kind = 0) ∧ (s.panel panel).pstate ≠ .running ∧ 64 ≤ (s.shim p).rx.length) ∧
    (∃ (p : Nat) (kind : Nat) (l : Nat) (dpid : Nat) (panel : Nat) (cut : Nat) (s : State), portOf l = p ∧ s.linkActive l ∧ s.shimRxKind l kind ∧ s.portClock l ∧ s.misrouted l dpid = false ∧ kind ≠ 3 ∧ kind ≠ 5 ∧ s.shimGate p kind = 0 ∧ s.shimPanel p = some panel ∧ (s.panel panel).pstate = .running ∧ cut ≠ 0) ∧
    (∃ (p : Nat) (kind : Nat) (l : Nat) (partner : Nat) (tag : Nat) (np : Bool) (b : List Byte) (s : State), s.shimRuns p ∧ s.shimTxKind l kind ∧ kind ≠ 8 ∧ portOf l = p ∧ s.beginsLink l ∧ s.linkActive l ∧ (s.shim p).tx = [] ∧ s.shimGoes ⟨kind, l, partner, tag % s.tagSpace l kind, np, b, false⟩) ∧
    (∃ (p : Nat) (kind : Nat) (l : Nat) (k : ShimPacket) (rest : List ShimPacket) (s : State), s.shimRuns p ∧ s.shimTxKind l kind ∧ kind ≠ 8 ∧ portOf l = p ∧ s.beginsLink l ∧ s.linkActive l ∧ (s.shim p).tx = k :: rest ∧ s.shimGoes k = false ∧ (s.shim p).tx.length < 64) ∧
    (∃ (p : Nat) (kind : Nat) (l : Nat) (s : State), s.shimRuns p ∧ s.shimTxKind l kind = false) ∧
    (∃ (p : Nat) (panel : Nat) (k : ShimPacket) (s : State), s.shimPanel p = some panel ∧ (s.panel panel).pstate ≠ .running ∧ (s.shim p).rx.find? ShimPacket.settles = some k) :=
  ⟨⟨1, 1, 16, 0, 4, Lace.shr, by decide +kernel⟩,
  ⟨1, 1, 16, 0, 4, Lace.sh0, by decide +kernel⟩,
  ⟨1, 3, 16, 0, 4, setReg 0x5100 1 (2 * 2^30 + 2^26 + 2^24) (lnk 16 (fun x => { x with asks := [(shimKey 6 9, .shim 6)] }) Lace.shr), by decide +kernel⟩,
  ⟨1, 1, 16, 0, 9, 4, Lace.full Lace.sh0, by decide +kernel⟩,
  ⟨1, 1, 16, 0, 4, 12, Lace.shr, by decide +kernel⟩,
  ⟨1, 1, 16, 3, 9, true, msg 20, Lace.shr, by decide +kernel⟩,
  ⟨1, 1, 16, ⟨1, 16, 3, 9, true, msg 20, false⟩, [], let s := Lace.shr.setShim 1 { Lace.shr.shim 1 with tx := [⟨1, 16, 3, 9, true, msg 20, false⟩] }; lnk 16 (fun x => { x with asks := [(shimKey 1 9, .shim 1)] }) s, by decide +kernel⟩,
  ⟨1, 2, 16, Lace.shr, by decide +kernel⟩,
  ⟨1, 4, ⟨1, 16, 0, 9, true, msg 20, false⟩, Lace.sh1, by decide +kernel⟩⟩

/-- Every clause of `LaceFlitsArePerformed` with hypotheses has them met by a state and operands. -/
theorem witness_of_lace_flits_are_performed :
    (∃ (l : Nat) (n : Nat) (f : List Byte) (s : State), s.takesFlit l f ∧ fTy (flitHead f) = 2 ∧ s.dev.state = .operational ∧ n = qLen (reqHead f) ∧ fLen (flitHead f) = 16 + n ∧ qSpace (reqHead f) = 2 ∧ spaceFits 2 (qAddr (reqHead f)) n ∧ qAddr (reqHead f) % 32 + n ≤ 32 ∧ qAddr (reqHead f) + n ≤ 1280 * 2 ^ 20) ∧
    (∃ (l : Nat) (f : List Byte) (s : State), s.takesFlit l f ∧ fTy (flitHead f) = 3 ∧ s.dev.state = .operational ∧ qSpace (reqHead f) = 2 ∧ bareRequest f ∧ qLen (reqHead f) ≤ 4096 ∧ spaceFits 2 (qAddr (reqHead f)) (qLen (reqHead f)) ∧ qAddr (reqHead f) + qLen (reqHead f) ≤ 1280 * 2 ^ 20) ∧
    (∃ (l : Nat) (n : Nat) (f : List Byte) (s : State), s.takesFlit l f ∧ fTy (flitHead f) = 5 ∧ s.dev.state = .operational ∧ qSpace (reqHead f) = 2 ∧ n = qLen (reqHead f) ∧ (n = 4 ∨ n = 8) ∧ qAddr (reqHead f) % n = 0 ∧ qAddr (reqHead f) + n ≤ 1280 * 2 ^ 20 ∧ 1 ≤ bits (reqHead f) 107 104 ∧ bits (reqHead f) 107 104 ≤ 3 ∧ fLen (flitHead f) = 16 + (if bits (reqHead f) 107 104 = 3 then 2 * n else n)) ∧
    (∃ (l : Nat) (f : List Byte) (s : State), s.takesFlit l f ∧ fTy (flitHead f) = 6 ∧ s.dev.state = .operational) ∧
    (∃ (l : Nat) (n : Nat) (age : Nat) (rest : List (Nat × Nat)) (s : State), (s.link l).lace.flushes = (n, age) :: rest ∧ s.writesBefore l age = false) ∧
    (∃ (l : Nat) (m : Nat) (f : List Byte) (s : State), s.takesFlit l f ∧ fTy (flitHead f) = 4 ∧ (s.link l).asker (bits (reqHead f) 127 112) = some (.mover m) ∧ (s.mover m).asked ∧ (reqHead f).testBit 110 ∧ let x := Tab.look (fun _ => LacePart.none) (s.link l).lace.parts (bits (reqHead f) 127 112); bits (reqHead f) 90 78 ≤ x.data.length ∧ (x.join f 0).status = 0 ∧ (x.join f 0).bad = false) ∧
    (∃ (l : Nat) (panel : Nat) (f : List Byte) (s : State), s.takesFlit l f ∧ 8 ≤ fTy (flitHead f) ∧ s.shimPanel (portOf l) = some panel ∧ (s.panel panel).pstate = .running ∧ (s.rd 0x5138 (portOf l)).testBit (fTy (flitHead f) - 8)) ∧
    (∃ (l : Nat) (f : List Byte) (s : State), s.takesFlit l f ∧ fTy (flitHead f) = 1 ∧ leValue (slice f 8 1) = 2) ∧
    (∃ (l : Nat) (f : List Byte) (s : State), s.takesFlit l f ∧ fTy (flitHead f) = 1 ∧ leValue (slice f 8 1) = 3) ∧
    (∃ (l : Nat) (f : List Byte) (s : State), s.takesFlit l f ∧ fTy (flitHead f) = 1 ∧ leValue (slice f 8 1) = 4 ∧ (s.link l).lace.tx = .waking) ∧
    (∃ (l : Nat) (f : List Byte) (s : State), s.takesFlit l f ∧ fTy (flitHead f) = 1 ∧ leValue (slice f 8 1) = 5 ∧ widthFits (leValue (slice f 9 1)) (s.link l).width ∧ (leValue (slice f 10 1) = 0 ∨ widthFits (leValue (slice f 10 1)) (s.link l).width)) ∧
    (∃ (l : Nat) (_nth : Nat) (c : RxCodeword) (s : State), (s.link l).active ∧ s.isLace l ∧ (s.link l).lace.sleepRx ≠ 1 ∧ s.linkOfLane c.lane = l ∧ (s.lane c.lane).badSlot ≤ c.slot ∧ s.readBlock c = none) ∧
    (∃ (l : Nat) (_nth : Nat) (cw : List RxCodeword) (s : State), (s.link l).active ∧ s.isLace l ∧ (s.link l).lace.sleepRx ≠ 1 ∧ (∀ c ∈ cw, (s.readBlock c).isSome)) ∧
    (∃ (l : Nat) (f : List Byte) (s : State), (s.link l).active ∧ s.isLace l ∧ s.portClock l ∧ flitGood f ∧ fTy (flitHead f) = 0 ∧ ((s.takeAck l (flitHead f)).link l).active) :=
  ⟨⟨32, 8, Lace.fw1, Lace.ll, by decide +kernel⟩,
  ⟨32, Lace.fr1, Lace.ll, by decide +kernel⟩,
  ⟨32, 8, Lace.fa 1, Lace.ll, by decide +kernel⟩,
  ⟨32, Lace.ff, Lace.ll, by decide +kernel⟩,
  ⟨32, 6, Lace.ll.mem.age, [], outOf (execLaceFlush 32 Lace.ff Lace.ll) Lace.ll, by decide +kernel⟩,
  ⟨32, 3, Lace.fc, Lace.mvr, by decide +kernel⟩,
  ⟨32, 4, Lace.fu, running 4 (setReg 0x5138 2 255 (setReg 0x5103 2 4 Lace.ll)), by decide +kernel⟩,
  ⟨32, Lace.fl 1 0 1 [2], Lace.ll, by decide +kernel⟩,
  ⟨32, Lace.fl 1 0 1 [3], Lace.ll, by decide +kernel⟩,
  ⟨32, Lace.fl 1 0 1 [4], lnk 32 (fun x => {x with lace := {x.lace with tx := .waking}}) Lace.ll, by decide +kernel⟩,
  ⟨32, Lace.fl 1 0 3 [5,1,0], Lace.ll, by decide +kernel⟩,
  ⟨32, 1, Lace.bad, Lace.ll, by decide +kernel, by decide +kernel, by decide +kernel, by decide +kernel, by decide +kernel, Lace.bad_unread⟩,
  ⟨32, 1, [Lace.zero 32, Lace.zero 33], Lace.ll, by decide +kernel, by decide +kernel, by decide +kernel, Lace.zeros_read⟩,
  ⟨32, Lace.nul false false 0, Lace.ll, by decide +kernel⟩⟩

/-- Every clause of `LaceLinksReplayRetrainAndSleep` with hypotheses has them met by a state and operands. -/
theorem witness_of_lace_links_replay_retrain_and_sleep :
    (∃ (l : Nat) (f : List Byte) (r : Nat × TxFlit) (rest : List (Nat × TxFlit)) (s : State), (s.link l).active ∧ s.isLace l ∧ s.portClock l ∧ s.sramMarked 1 = false ∧ flitGood f ∧ flitPlain f ∧ (flitHead f).testBit 8 ∧ ((s.takeAck l (flitHead f)).link l).active ∧ ((s.takeAck l (flitHead f)).link l).lace.replay = r :: rest ∧ (((s.takeAck l (flitHead f)).link l).lace.replays = 0 ∨ ((s.takeAck l (flitHead f)).link l).lace.replayFrom ≠ r.1)) ∧
    (∃ (l : Nat) (r : Nat × TxFlit) (rest : List (Nat × TxFlit)) (s : State), (s.link l).active ∧ s.isLace l ∧ (s.link l).lace.replay = r :: rest ∧ (s.link l).lace.replays < 3) ∧
    (∃ (l : Nat) (s : State), (s.link l).active ∧ (s.link l).lace.waiting ∧ (s.link l).lace.tx ≠ .dozing ∧ (s.link l).lace.tx ≠ .off) ∧
    (∃ (l : Nat) (s : State), (s.link l).active ∧ s.isLace l ∧ (s.link l).lace.tx ≠ .dozing ∧ (s.link l).lace.tx ≠ .off) ∧
    (∃ (src : Source) (l : Nat) (v : Nat) (s : State), s.admits src 0x5132 l 2 (leBytes 1 v) true (s.beginsLink l) ∧ (s.link l).active ∧ s.isLace l) ∧
    (∃ (l : Nat) (s : State), (s.link l).lace.sleepRx = 0 ∧ (s.link l).active ∧ s.isLace l) ∧
    (∃ (l : Nat) (s : State), (s.link l).lace.signal ∧ s.lockedTo l (s.link l).readyWidth = false ∧ (s.link l).active ∧ s.isLace l) ∧
    (∃ (l : Nat) (s : State), (s.link l).lace.retraining ∧ (s.link l).lace.idling) ∧
    (∃ (k : Nat) (l : Nat) (f : List Byte) (s : State), l = s.linkOfLane k ∧ s.isLace k ∧ (s.lane k).lstate = .exchange ∧ flitGood f ∧ fTy (flitHead f) = 1 ∧ leValue (slice f 8 26) % 256 = 1 ∧ capFits (leValue (slice f 8 26)) ∧ (s.link l).lace.capSeen = false ∧ (s.link l).lace.startSent = false) ∧
    (∃ (k : Nat) (l : Nat) (f : List Byte) (s : State), l = s.linkOfLane k ∧ s.isLace k ∧ (s.lane k).lstate = .exchange ∧ flitGood f ∧ fTy (flitHead f) = 1 ∧ leValue (slice f 8 26) % 256 = 1 ∧ capFits (leValue (slice f 8 26)) ∧ (leValue (slice f 8 26)).testBit 17 ∧ (s.link l).lace.capSeen ∧ (s.link l).lace.startSent ∧ (s.link l).lace.retraining = false ∧ (∀ i, i < (s.link l).lace.agreed → i = (s.lane k).logical ∨ i ∈ (s.link l).lace.starts)) ∧
    (∃ (l : Nat) (s : State), s.rd 0x5139 (portOf l) ≠ 0 ∧ s.laceIdle l ∧ (s.link l).lace.tx = .awake) ∧
    (∃ (l : Nat) (s : State), s.rd 0x513A (portOf l) ≠ 0 ∧ s.laceIdle l ∧ ((s.link l).lace.tx = .awake ∨ (s.link l).lace.tx = .dozing)) ∧
    (∃ (l : Nat) (s : State), (s.link l).lace.replay = [] ∧ ((s.link l).lace.tx = .dozeSent ∨ (s.link l).lace.tx = .offSent) ∧ (s.link l).lace.widthMoves = false) ∧
    (∃ (l : Nat) (s : State), (s.link l).active ∧ (s.link l).lace.tx = .dozing) ∧
    (∃ (l : Nat) (s : State), (s.link l).active ∧ s.isLace l ∧ (s.link l).lace.tx = .off) ∧
    (∃ (l : Nat) (s : State), (s.link l).active ∧ s.isLace l ∧ (s.link l).lace.sleepRx ≠ 0 ∧ (s.link l).lace.sleepRx ≤ 2 ∧ ((s.link l).lace.sleepRx = 2 → s.lockedTo l (s.link l).lace.rxNow)) ∧
    (∃ (l : Nat) (s : State), (s.link l).active ∧ (s.link l).lace.narrow ∧ (s.link l).lace.narrowCounted = false ∧ s.narrowWidth l (s.link l).width < (s.link l).lace.rxNow) ∧
    (∃ (l : Nat) (n : Nat) (m : Nat) (s : State), s.isLace l ∧ (s.link l).asker n = some (.mover m) ∧ (s.mover m).asked) ∧
    (∃ (l : Nat) (f : List Byte) (s : State), s.shimRuns (portOf l) ∧ s.isLace l ∧ s.beginsLink l ∧ s.linkActive l ∧ s.userRefused l f = false ∧ (s.link l).lace.sendq = [] ∧ (s.link l).lace.tx = .awake ∧ s.laceSends l ∧ vcCount (s.link l).lace.credit (bits (leValue (f.take 8)) 35 33) ≠ 0) :=
  ⟨⟨32, Lace.nul true false 0, (Lace.ta.link 32).lace.replay.headD (0, ⟨0,0,0,[]⟩), [], Lace.sent, by decide +kernel⟩,
  ⟨32, (Lace.ta.link 32).lace.replay.headD (0, ⟨0,0,0,[]⟩), [], Lace.sent, by decide +kernel⟩,
  ⟨32, Lace.wt, by decide +kernel⟩,
  ⟨32, Lace.ll, by decide +kernel⟩,
  ⟨i3c, 32, 1, Lace.ll, by decide +kernel⟩,
  ⟨32, Lace.ll, by decide +kernel⟩,
  ⟨32, Lace.lane 33 (fun x => { x with locked := false }) (Lace.lz (fun x => {x with signal := true})), by decide +kernel⟩,
  ⟨32, Lace.rt, by decide +kernel⟩,
  ⟨32, 32, Lace.cap, Lace.ex, by decide +kernel⟩,
  ⟨33, 32, Lace.cap2, Lace.ex2, by decide +kernel⟩,
  ⟨32, setReg 0x5139 2 5 Lace.ll, by decide +kernel⟩,
  ⟨32, setReg 0x513A 2 5 Lace.ll, by decide +kernel⟩,
  ⟨32, (Lace.lz (fun x => {x with tx := .dozeSent})), by decide +kernel⟩,
  ⟨32, (Lace.lz (fun x => {x with tx := .dozing})), by decide +kernel⟩,
  ⟨32, (Lace.lz (fun x => {x with tx := .off})), by decide +kernel⟩,
  ⟨32, (Lace.lz (fun x => {x with sleepRx := 2})), by decide +kernel⟩,
  ⟨32, let s := (Lace.lz (fun x => {x with narrow := true}));{ s with throttle := { s.throttle with narrow := true } }, by decide +kernel⟩,
  ⟨32, 5, 3, Lace.mvr, by decide +kernel⟩,
  ⟨32, Lace.fu, (running 4 (setReg 0x5103 2 4 Lace.ll)), by decide +kernel⟩⟩

/-- Every clause of `LaceLineCodingIsUndoneByTheReceiver` with hypotheses has them met by a state and operands. -/
theorem witness_of_lace_line_coding_is_undone_by_the_receiver :
    (∃ (last : Nat) (l : List Nat), last < 4 ∧ (∀ v ∈ l, v < 4)) ∧
    (∃ (v : Nat), v < 4) ∧
    (∃ (g : Nat), g < 3) ∧
    (∃ (off : Nat) (b : List Byte), off < 256 ∧ b.length = 640) ∧
    (∃ (n : Nat) (v : Nat), n % 2 = 0 ∧ v < 2 ^ n) ∧
    (∃ (last : Nat) (l : List Nat), last < 4 ∧ (∀ v ∈ l, v < 4)) ∧
    (∃ (l : List Nat), (∀ a ∈ l, a < 2 ^ 10)) ∧
    (∃ (lane : Nat), lane < 16) ∧
    (∃ (lane : Nat) (top : Nat) (now : Nat) (nonce : Nat) (rq : Nat) (st : Nat), lane < 16 ∧ 8 ≤ top ∧ top ≤ 0xA ∧ now < 16 ∧ nonce < 2 ^ 16 ∧ rq < 2 ^ 16 ∧ st < 2 ^ 16) ∧
    (∃ (h : Nat) (l : List Byte), h < 2 ^ 64 ∧ l.length ≤ 240) :=
  ⟨⟨2, [0, 1, 2, 3], by decide +kernel⟩,
  ⟨3, by decide +kernel⟩,
  ⟨2, by decide +kernel⟩,
  ⟨255, List.replicate 640 7, by decide +kernel⟩,
  ⟨4, 9, by decide +kernel⟩,
  ⟨3, [0, 1, 2, 3], by decide +kernel⟩,
  ⟨[1023, 5, 0], by decide +kernel⟩,
  ⟨15, by decide +kernel⟩,
  ⟨15, 10, 15, 65535, 3, 65535, by decide +kernel⟩,
  ⟨2 ^ 64 - 1, List.replicate 240 7, by decide +kernel⟩⟩

/-- Every clause of `LoaderCommandsTakeEffect` with hypotheses has them met by a state and operands. -/
theorem witness_of_loader_commands_take_effect :
    (∃ (src : Source) (v : Nat) (s : State), let c := withOp v 1; s.admits src 0x3000 1 10 (leBytes 16 c) true (loaderFits c) ∧ s.loaderFree ∧ bits c 27 26 ≠ 1 ∧ (bits c 27 26 = 2 → 0 < s.chainPos)) ∧
    (∃ (src : Source) (v : Nat) (l : Nat) (n : Nat) (s : State), let c := withOp v 1; s.admits src 0x3000 1 10 (leBytes 16 c) true (loaderFits c) ∧ s.loaderFree ∧ bits c 27 26 = 1 ∧ s.routeLink (bits c 24 22) (bits c 19 8) = some l ∧ (s.link l).freeTag = some n) ∧
    (∃ (src : Source) (s : State), s.admits src 0x3000 1 10 (leBytes 16 (withOp 0 3)) true true ∧ s.loaderFree ∧ s.allEmpty ∧ s.bootSrc < 2 ∧ (s.bootSrc = 1 → 0 < s.chainPos)) ∧
    (∃ (src : Source) (v : Nat) (s : State), let c := withOp v 4; s.admits src 0x3000 1 10 (leBytes 16 c) true (loaderFits c) ∧ s.loaderFree ∧ s.chainPos = 0 ∧ s.bootSrc = 0 ∧ s.ld.chainImage) ∧
    (∃ (src : Source) (s : State), s.admits src 0x3000 1 10 (leBytes 16 (withOp 0 2)) true true ∧ (s.ld.lstate = .header ∨ s.ld.lstate = .frames ∨ s.ld.lstate = .verify ∨ s.ld.lstate = .fallback)) ∧
    (∃ (h : List Byte) (s : State), s.ld.preamble ∧ s.cfgRuns ∧ 32 ≤ h.length) ∧
    (∃ (bad : Bool) (s : State), s.ld.lstate = .verify ∧ s.cfgRuns ∧ s.verifyResult bad = 0) ∧
    (∃ (bad : Bool) (s : State), s.ld.lstate = .verify ∧ s.cfgRuns ∧ s.verifyResult bad ≠ 0 ∧ s.ld.boot = false) ∧
    (∃ (bad : Bool) (s : State), s.ld.lstate = .verify ∧ s.cfgRuns ∧ s.verifyResult bad ≠ 0 ∧ s.ld.boot ∧ s.ld.attempt = 2 ∧ s.ld.stop = false) ∧
    (∃ (s : State), s.ld.lstate = .fallback ∧ s.cfgRuns ∧ s.ld.preambleBad = false) ∧
    (∃ (s : State), (s.ld.lstate = .header ∨ s.ld.lstate = .frames) ∧ s.ld.preamble = false ∧ s.cfgRuns ∧ s.ld.boot = false ∧ (s.ld.source = 2 → s.ld.begun)) ∧
    (∃ (d : List Byte) (s : State), 12 ≤ d.length ∧ (s.dev.state = .managed ∨ s.dev.state = .operational) ∧ s.cfgRuns ∧ s.ld.lstate ≠ .fallback ∧ s.chainPos ≠ 0 ∧ bits (leValue (d.take 12)) 95 64 = 0xE7A15C3D) :=
  ⟨⟨i3c, Loads.cmdF, Loads.t0, by decide +kernel⟩,
  ⟨i3c, 0x2000 * 2^64 + 2^26 + 2^22, 16, ((Loads.hostS.link 16).freeTag).getD 0, Loads.hostS, by decide +kernel⟩,
  ⟨i3c, Loads.t0, by decide +kernel⟩,
  ⟨i3c, 6 * 2^32, Loads.ld (fun x => {x with chainImage := true}) Loads.t0, by decide +kernel⟩,
  ⟨i3c, Loads.l1, by decide +kernel⟩,
  ⟨Loads.bh, Loads.lb, by decide +kernel⟩,
  ⟨false, setPan 0 (fun x => {x with slots := [(2, .loading)], pstate := .loading}) (Loads.vf id), by decide +kernel⟩,
  ⟨true, setPan 0 (fun x => {x with slots := [(2, .loading)], pstate := .loading}) (Loads.vf id), by decide +kernel⟩,
  ⟨false, Loads.vf (fun x => {x with ended := none, boot := true, attempt := 2}), by decide +kernel⟩,
  ⟨Loads.vf (fun x => {x with lstate := .fallback, boot := true, attempt := 2}), by decide +kernel⟩,
  ⟨Loads.ld (fun x => {x with preamble := false}) Loads.l1, by decide +kernel⟩,
  ⟨Loads.env 3 1 0 0 (msg 20), Loads.ch 2, by decide +kernel⟩⟩

/-- Every clause of `LoadRecordsAreTaken` with hypotheses has them met by a state and operands. -/
theorem witness_of_load_records_are_taken :
    (∃ (h : List Byte) (s : State), s.ld.lstate = .header ∧ s.ld.preamble = false ∧ s.cfgRuns ∧ 64 ≤ h.length ∧ s.ld.offers (h.take 64) ∧ s.ld.abort = false ∧ s.headerResult (h.take 64) = 0 ∧ s.ld.source = 0 ∧ s.ld.buffered = false) ∧
    (∃ (h : List Byte) (s : State), s.ld.lstate = .header ∧ s.ld.preamble = false ∧ s.cfgRuns ∧ 64 ≤ h.length ∧ s.ld.offers (h.take 64) ∧ s.ld.abort = false ∧ s.headerResult (h.take 64) ≠ 0 ∧ s.ld.boot = false) ∧
    (∃ (r : List Byte) (s : State), s.ld.lstate = .frames ∧ s.cfgRuns ∧ 524 ≤ r.length ∧ bits (leValue (r.take 8)) 63 56 = 0x46 ∧ s.ld.ended = none ∧ s.ld.offers (r.take 524) ∧ s.ld.abort = false ∧ s.frameResult (r.take 524) = 0) ∧
    (∃ (r : List Byte) (s : State), s.ld.lstate = .frames ∧ s.cfgRuns ∧ 40 ≤ r.length ∧ bits (leValue (r.take 8)) 63 56 = 0x45 ∧ leValue (r.take 8) % 2 ^ 56 = 0 ∧ s.ld.ended = none ∧ s.ld.count ≤ s.ld.frames ∧ s.ld.offers (r.take 40) ∧ s.ld.abort = false) ∧
    (∃ (r : List Byte) (s : State), s.ld.lstate = .frames ∧ s.cfgRuns ∧ 72 ≤ r.length ∧ bits (leValue (r.take 8)) 63 56 = 0x53 ∧ bits (leValue (r.take 8)) 55 8 = 0 ∧ s.ld.ended.isSome ∧ s.ld.offers (r.take 72) ∧ s.ld.abort = false) :=
  ⟨⟨Loads.hd 6 2 0, Loads.l1p, by decide +kernel⟩,
  ⟨Loads.hd 6 2 1, Loads.l1p, by decide +kernel⟩,
  ⟨Loads.rec 0x46 Loads.w1 (msg 512), Loads.fr, by decide +kernel⟩,
  ⟨Loads.rec 0x45 0 (msg 32), Loads.fe, by decide +kernel⟩,
  ⟨Loads.rec 0x53 3 (msg 64), outOf (execLoadEndRecord (Loads.rec 0x45 0 (msg 32)) Loads.fs) Loads.fs, by decide +kernel⟩⟩

/-- Every clause of `SalynRequestsAreServed` with hypotheses has them met by a state and operands. -/
theorem witness_of_salyn_requests_are_served :
    (∃ (src : Source) (m : List Byte) (s : State), s.served src ∧ (src.code = 2 ∨ src.code = 16) ∧ messageBad m = false ∧ (headerOf m).testBit 16 = false ∧ s.full src = false) ∧
    (∃ (src : Source) (u : Source) (m : List Byte) (b : List Byte) (p : Packet) (s : State), src.code = 1 ∧ p = packetOf b ∧ u = ⟨1, 2 ^ 8 * p.eid + src.addr % 128⟩ ∧ s.served u ∧ s.full u = false ∧ s.takesPacket 1 p ∧ p.som ∧ p.eom ∧ s.partOf 1 p = none ∧ p.payload = [0x7E, 0x1F, 0x2C, 0x53] ++ m ∧ messageBad m = false ∧ (headerOf m).testBit 16 = false) ∧
    (∃ (k : Nat) (r : SalynReq) (s : State), s.nextRequest k 1 = some r ∧ r.op = 1 ∧ s.sal.accepted = [] ∧ (s.takenIn k r).repeatOf r = none ∧ fixedStatus r ((s.takenIn k r).readStatus r.idx r.sub ((s.takenIn k r).readLife r.idx r.sub)) (r.body.drop 3) = .ok ∧ byFirmware r false = false ∧ ¬(r.idx = 0x5120 ∧ r.sub = 2) ∧ s.goes (s.readOpen r.idx r.sub) (if (r.idx, r.sub) = (0x4310, 6) then 0x43 else 0) ∧ s.offLace r.src ∧ let u := (s.takenIn k r).remember r; let x := (u.openReq (u.newOpen r r.idx r.sub false)).readObject r.idx r.sub; x.1 = .ok) ∧
    (∃ (k : Nat) (r : SalynReq) (s : State), s.nextRequest k 3 = some r ∧ r.op = 3 ∧ s.sal.accepted = [] ∧ (s.takenIn k r).repeatOf r = none ∧ fixedStatus r (existsStatus r.idx r.sub) (r.body.drop 3) = .ok ∧ s.offLace r.src) ∧
    (∃ (k : Nat) (r : SalynReq) (s : State), s.nextRequest k 4 = some r ∧ r.op = 4 ∧ s.sal.accepted = [] ∧ (s.takenIn k r).repeatOf r = none ∧ enumerateStatus r = .ok ∧ s.offLace r.src) ∧
    (∃ (src : Source) (n : Nat) (k : Nat) (s : State), s.served src ∧ s.full src = false ∧ s.notified src n = some k) ∧
    (∃ (i : Nat) (b : Nat) (e : OpenReq) (s : State), s.oldestAt i b = some e ∧ s.sal.accepted = [e] ∧ s.fwRuns ∧ s.sec.dead = false ∧ e.req.op = 1 ∧ s.served e.req.src ∧ ¬(i = 0x5120 ∧ b = 2) ∧ s.goes (s.readOpen i b) (if (i, b) = (0x4310, 6) then 0x43 else 0) ∧ s.offLace e.req.src ∧ let x := (s.takeBack e).readObject i b; x.1 = .ok) ∧
    (∃ (i : Nat) (b : Nat) (e : OpenReq) (s : State), s.oldestAt i b = some e ∧ s.sal.accepted = [e] ∧ s.fwRuns ∧ e.req.op = 1 ∧ s.served e.req.src ∧ s.offLace e.req.src) :=
  ⟨⟨fw, Dictionary.wm Dictionary.sr, op, by decide +kernel⟩,
  ⟨⟨1, 9⟩, Dictionary.c9, Dictionary.wm Dictionary.sr, Dictionary.pkt Dictionary.sr, packetOf (Dictionary.pkt Dictionary.sr), op, by decide +kernel⟩,
  ⟨1, Dictionary.sr, Dictionary.arr Dictionary.sr op, by decide +kernel⟩,
  ⟨1, Dictionary.rreq Dictionary.c9 3 0x1000 1, Dictionary.arr (Dictionary.rreq Dictionary.c9 3 0x1000 1) op, by decide +kernel⟩,
  ⟨1, Dictionary.rreq Dictionary.c9 4 0x1000 0, Dictionary.arr (Dictionary.rreq Dictionary.c9 4 0x1000 0) op, by decide +kernel⟩,
  ⟨⟨1, 9 * 2^8⟩, 5, 2, Dictionary.tgt, by decide +kernel⟩,
  ⟨0x7003, 2, Dictionary.oe 1, Dictionary.sal (fun x => {x with accepted := [Dictionary.oe 1]}) op, by decide +kernel⟩,
  ⟨0x7003, 2, Dictionary.oe 1, Dictionary.sal (fun x => {x with accepted := [Dictionary.oe 1]}) op, by decide +kernel⟩⟩

/-- Every clause of `DictionaryJournalAndNoticesWork` with hypotheses has them met by a state and operands. -/
theorem witness_of_dictionary_journal_and_notices_work :
    (∃ (b : Nat) (v : Nat) (l : List (Nat × Nat)) (s : State), s.sal.settings = (b, v) :: l ∧ (∀ e ∈ s.sal.accepted, e.req.op = 2 → e.idx = 0x1100 → e.sub = b → s.served e.req.src = false)) ∧
    (∃ (k : Nat) (r : JRec) (l : List JRec) (s : State), (s.jhold k).recs = r :: l ∧ s.mgmtRuns ∧ s.journalOpen) ∧
    (∃ (src : Source) (s : State), s.reads src 0x1104 3) ∧
    (∃ (src : Source) (s : State), s.reads src 0x1105 3) ∧
    (∃ (k : Nat) (s : State), 1 ≤ k ∧ k ≤ 4 ∧ (s.target k).sent = none ∧ s.notifyDue (s.target k) ∧ s.served (targetSource (s.rd 0x1111 k))) ∧
    (∃ (k : Nat) (n : Nat) (i : Nat) (b : List Byte) (s : State), (s.target k).sent = some (n, b, i) ∧ i < 3 ∧ s.served (targetSource (s.rd 0x1111 k))) ∧
    (∃ (k : Nat) (n : Nat) (i : Nat) (b : List Byte) (s : State), (s.target k).sent = some (n, b, i) ∧ 3 ≤ i) ∧
    (∃ (src : Source) (v : Nat) (s : State), s.admits src 0x1112 2 4 (leBytes 4 v) true (!ackAhead (s.rd 0x1112 1) (v % 2 ^ 32))) :=
  ⟨⟨5, 77, [(6,3)], Dictionary.sal (fun x => {x with settings := [(5,77), (6,3)]}) op, by decide +kernel⟩,
  ⟨2, Dictionary.jr, [], Dictionary.js, by decide +kernel⟩,
  ⟨i3c, op, by decide +kernel⟩,
  ⟨i3c, op, by decide +kernel⟩,
  ⟨2, Dictionary.due, by decide +kernel⟩,
  ⟨2, 5, 0, List.replicate 24 0, Dictionary.tgt, by decide +kernel⟩,
  ⟨2, 5, 3, List.replicate 24 0, setReg 0x1111 2 (1 + 9 * 2^24) (op.setTarget 2 ⟨[], 0, 6, some (5, List.replicate 24 0, 3)⟩), by decide +kernel⟩,
  ⟨i3c, 3, setReg 0x1112 1 5 op, by decide +kernel⟩⟩

/-- Every clause of `TransportsAnswer` with hypotheses has them met by a state and operands. -/
theorem witness_of_transports_answer :
    (∃ (f : Frag) (s : State), s.sal.frags = [f] ∧ f.began + 1000000 ≤ s.dev.aonTime) ∧
    (∃ (ip : Nat) (s : State), s.udpServed ∧ ip = s.rd 0x1100 5) ∧
    (∃ (s : State), s.served ⟨1, 0⟩) ∧
    (∃ (src : Source) (d : List Byte) (s : State), (src.code = 1 ∨ src.code = 2) ∧ s.served src ∧ s.full src = false ∧ d.length = 2 ∧ leValue (slice d 1 1) ≠ 0 ∧ leValue (slice d 1 1) ≠ 0xFF) ∧
    (∃ (src : Source) (l : Nat) (s : State), src.code = 2 ∧ s.served src ∧ s.full src = false ∧ l = src.addr % 128 ∧ s.isLace l ∧ (s.link l).lace.sendq = [] ∧ (s.link l).lace.tx = .awake ∧ s.laceSends l ∧ vcCount (s.link l).lace.credit 0 ≠ 0) ∧
    (∃ (l : Nat) (dpid : Nat) (rq : Nat) (rt : Nat) (b : List Byte) (p : Packet) (s : State), s.isLace l = false ∧ s.linkActive l ∧ s.portClock l ∧ s.misrouted l dpid = false ∧ (rt = 0 ∨ rt = 2 ∨ rt = 3) ∧ p = packetOf b ∧ s.served ⟨2, 2 ^ 16 * (rq % 2 ^ 16) + 2 ^ 8 * p.eid + l⟩ ∧ s.takesPacket (mediumOf ⟨2, 2 ^ 16 * (rq % 2 ^ 16) + 2 ^ 8 * p.eid + l⟩) p ∧ (s.heldBy 2).length < 8 ∧ p.som ∧ p.eom = false ∧ s.sal.parts = []) ∧
    (∃ (l : Nat) (f : List Byte) (s : State), s.arrives l f ∧ fTy (flitHead f) = 7 ∧ (s.link l).lace.requests = []) ∧
    (∃ (l : Nat) (f : List Byte) (s : State), s.arrives l f ∧ fTy (flitHead f) = 7 ∧ s.vc0Busy l) ∧
    (∃ (src : Source) (s : State), s.spdmServes ∧ (src.code = 1 ∨ src.code = 2) ∧ s.served src ∧ s.sramMarked 5) ∧
    (∃ (src : Source) (s : State), s.spdmServes ∧ (src.code = 1 ∨ src.code = 2) ∧ s.served src ∧ s.sramMarked 5 = false ∧ s.sec.trngBad = false) ∧
    (∃ (src : Source) (s : State), s.spdmServes ∧ (src.code = 1 ∨ src.code = 2) ∧ s.served src ∧ s.sramMarked 5 = false ∧ s.sec.trngBad = false ∧ s.sec.sessions.length < 4) ∧
    (∃ (dest : Nat) (eid : Nat) (seq : Nat) (tag : Nat), dest < 256 ∧ eid < 256 ∧ seq < 4 ∧ tag < 16) ∧
    (∃ (a : Nat) (b : Nat) (sp : Nat) (dp : Nat) (m : List Byte), a < 2 ^ 32 ∧ b < 2 ^ 32 ∧ sp < 65536 ∧ dp < 65536 ∧ m.length ≤ 4360) :=
  ⟨⟨Dictionary.frg, { Dictionary.sal (fun x => { x with frags := [Dictionary.frg] }) Dictionary.udp with dev := { Dictionary.udp.dev with aonTime := 1000003 } }, by decide +kernel⟩,
  ⟨0xC0A80001, Dictionary.udp, by decide +kernel⟩,
  ⟨op, by decide +kernel⟩,
  ⟨Dictionary.c9, [0, 9], op, by decide +kernel⟩,
  ⟨⟨2, 9 * 256 + 32⟩, 32, Dictionary.ll, by decide +kernel⟩,
  ⟨16, 0, 0x100, 2, Dictionary.pk, packetOf Dictionary.pk, Dictionary.ps, by decide +kernel⟩,
  ⟨32, Dictionary.fl 7 0 68 Dictionary.pk, Dictionary.ll, by decide +kernel⟩,
  ⟨32, Dictionary.fl 7 0 68 Dictionary.pk, { Dictionary.ll with mem := { Dictionary.ll.mem with channel := [(0, [⟨0x44, 96, true, 1, 1, false, none, 32, 0, 0⟩])] } }, by decide +kernel⟩,
  ⟨i3c, bad5 op, by decide +kernel⟩,
  ⟨i3c, op, by decide +kernel⟩,
  ⟨i3c, op, by decide +kernel⟩,
  ⟨255, 8, 3, 15, by decide +kernel⟩,
  ⟨0xC0A80001, 0xC0A80002, 5000, 20731, [1, 2, 3], by decide +kernel⟩⟩

/-- Every clause of `FusesAreProgrammedAndLocked` with hypotheses has them met by a state and operands. -/
theorem witness_of_fuses_are_programmed_and_locked :
    (∃ (src : Source) (v : Nat) (s : State), s.takesFuse src 2 2 (leBytes 1 v) ∧ s.sramMarked 5 = false) ∧
    (∃ (src : Source) (k : Nat) (hash : List Byte) (s : State), 0x10 ≤ k ∧ k ≤ 0x17 ∧ s.takesFuse src k 9 hash ∧ s.sramMarked 5 = false) ∧
    (∃ (src : Source) (v : Nat) (s : State), s.takesFuse src 0x18 2 (leBytes 1 v) ∧ s.sramMarked 5 = false) ∧
    (∃ (src : Source) (v : Nat) (s : State), s.takesFuse src 5 2 (leBytes 1 v) ∧ s.sramMarked 5 = false) ∧
    (∃ (src : Source) (v : Nat) (s : State), s.takesFuse src 0x30 5 (leBytes 8 v) ∧ s.sramMarked 5 = false) ∧
    (∃ (src : Source) (v : Nat) (s : State), s.takesFuse src 2 2 (leBytes 1 v) ∧ s.sramMarked 5) ∧
    (∃ (o : FuseOp) (s : State), s.sec.op = some o ∧ s.journalOpen) ∧
    (∃ (o : FuseOp) (s : State), s.sec.op = some o ∧ (o.answer = none ∨ s.journalOpen)) :=
  ⟨⟨i3c, 2, Security.fs 1 1, by decide +kernel⟩,
  ⟨i3c, 0x11, msg 32, Security.fs 1 1, by decide +kernel⟩,
  ⟨i3c, 3, Security.fs 1 1, by decide +kernel⟩,
  ⟨i3c, 3, Security.sec (fun x => { x with svn := 5 }) (Security.fs 1 1), by decide +kernel⟩,
  ⟨i3c, 3, Security.fs 1 1, by decide +kernel⟩,
  ⟨i3c, 2, bad5 (Security.fs 1 1), by decide +kernel⟩,
  ⟨Security.fo 0 2, Security.sec (fun x => { x with op := some (Security.fo 0 2) }) (Security.fs 1 1), by decide +kernel⟩,
  ⟨Security.fo 0 2, Security.sec (fun x => { x with op := some (Security.fo 0 2) }) (Security.fs 1 1), by decide +kernel⟩⟩

/-- Every clause of `FirmwareKeysAndTamperWork` with hypotheses has them met by a state and operands. -/
theorem witness_of_firmware_keys_and_tamper_work :
    (∃ (src : Source) (s : State), s.admits src 0x1300 3 2 (leBytes 1 1) true true ∧ s.dev.state = .awaitFw ∧ s.sec.verifying = false) ∧
    (∃ (src : Source) (s : State), s.admits src 0x1300 3 2 (leBytes 1 2) true true ∧ s.dev.state = .awaitFw ∧ s.sec.verifying = false) ∧
    (∃ (src : Source) (d : List Byte) (s : State), s.admits src 0x1300 5 0x0A d true true ∧ s.rd 0x1300 4 + d.length ≤ 458752 ∧ s.sec.verifying = false ∧ s.sec.closed = false) ∧
    (∃ (off : Nat) (d : List Byte) (s : State), s.bootBar ∧ off + d.length ≤ 458752 ∧ s.sec.verifying = false ∧ s.sec.closed = false) ∧
    (∃ (ue : Bool) (s : State), s.sec.verifying ∧ s.dev.state = .awaitFw ∧ s.clkLost.contains 4 = false ∧ s.verifyImage (ue || s.sramMarked 5) = 0) ∧
    (∃ (ue : Bool) (s : State), s.sec.verifying ∧ s.dev.state = .awaitFw ∧ s.clkLost.contains 4 = false ∧ s.verifyImage (ue || s.sramMarked 5) ≠ 0) ∧
    (∃ (src : Source) (k : Nat) (key : List Byte) (s : State), k < 4 ∧ s.admits src 0x1200 (0x20 + k) 0x0A key true (s.bsKeyFits k key) ∧ s.sramMarked 5 = false ∧ s.ld.lstate ≠ .header ∧ s.ld.lstate ≠ .frames ∧ s.ld.lstate ≠ .verify) ∧
    (∃ (l : Nat) (st : Nat) (k : Nat) (s : State), s.sramMarked 5 = false ∧ s.sec.sessions.any (fun e => e.2) ∧ s.linkActive l ∧ s.hasStream l st ∧ k < 4) ∧
    (∃ (n : Nat) (s : State), s.secPin n ∧ s.dev.held = false) :=
  ⟨⟨i3c, Security.aw, by decide +kernel⟩,
  ⟨i3c, Security.sec (fun x => x.put 5 (msg 4)) Security.aw, by decide +kernel⟩,
  ⟨i3c, msg 40, setReg 0x1300 4 100 Security.aw, by decide +kernel⟩,
  ⟨100, msg 40, { Security.aw with bootFn := true }, by decide +kernel⟩,
  ⟨false, Security.ver Security.aw, by decide +kernel⟩,
  ⟨false, let s := lcy 2 (st .awaitFw); { s with sec := { s.sec with verifying := true } }, by decide +kernel⟩,
  ⟨i3c, 2, Security.fwPub, lcy 2 op, by decide +kernel⟩,
  ⟨16, 2, 1, Security.sec (fun x => {x with sessions := [(i3c, true)]}) (cxl 1 op), by decide +kernel⟩,
  ⟨7, setReg 0x7000 7 (2^30) { cxl 1 op with ideKeys := [(ideKey 16 2 1, 5)] }, by decide +kernel⟩⟩

/-- Every clause of `ThermalSequencerActs` with hypotheses has them met by a state and operands. -/
theorem witness_of_thermal_sequencer_acts :
    (∃ (n : Nat) (x : Int) (s : State), s.dev.state ≠ .off ∧ n < 192 ∧ s.sensorFailed n = false ∧ sensorTier n ∈ s.poweredTiers ∧ -880 ≤ x ∧ x ≤ 3200) ∧
    (∃ (level : Nat) (v : Nat) (s : State), level < 3 ∧ v < 192 ∧ Tab.look (fun _ => 0) s.th.up (256 * level + v) = 3) ∧
    (∃ (level : Nat) (v : Nat) (s : State), level < 2 ∧ v < 192 ∧ Tab.look (fun _ => 0) s.th.down (256 * level + v) = 3) ∧
    (∃ (s : State), s.th.coolantLow = 3 ∧ s.th.coolantLost = false) ∧
    (∃ (s : State), s.th.coolantHigh = 3) ∧
    (∃ (k : Nat) (s : State), k ∈ s.th.faulted ∧ Tab.look (fun _ => 0) s.th.good k = 3) ∧
    (∃ (s : State), s.th.inletUp = 3) ∧
    (∃ (s : State), s.th.inletDown = 3) ∧
    (∃ (site : Nat) (s : State), site < 64 ∧ Tab.look (fun _ => 0) s.th.apart site = 100 ∧ s.disagrees site = false) ∧
    (∃ (src : Source) (i : Nat) (v : Nat) (s : State), i < 2 ∧ s.admits src 0x2203 i 4 (leBytes 4 v) true true ∧ (∀ b, b < 32 → (s.rd 0x2203 i).testBit b → v.testBit b ∨ s.mayAgree (32 * i + b))) ∧
    (∃ (src : Source) (k : Nat) (v : Nat) (s : State), 1 ≤ k ∧ k ≤ 6 ∧ s.admits src 0x2200 k 6 (leBytes 2 v) true (s.pointsFit k (s16 (v % 2 ^ 16))) ∧ (k < 5 ∨ s.dev.state = .managed ∨ s.dev.state = .operational)) :=
  ⟨⟨3, -300, op, by decide +kernel⟩,
  ⟨0, 5, Security.thm (fun x => {x with up := [(5, 3)]}) op, by decide +kernel⟩,
  ⟨0, 5, Security.thm (fun x => {x with down := [(5, 3)]}) op, by decide +kernel⟩,
  ⟨Security.thm (fun x => {x with coolantLow := 3, coolantOk := true}) op, by decide +kernel⟩,
  ⟨Security.thm (fun x => {x with coolantHigh := 3, coolantLost := true}) op, by decide +kernel⟩,
  ⟨1, Security.thm (fun x => {x with faulted := [0,1], good := [(1,3)]}) op, by decide +kernel⟩,
  ⟨Security.thm (fun x => {x with inletUp := 3}) op, by decide +kernel⟩,
  ⟨Security.thm (fun x => {x with inletDown := 3, inletHigh := true}) op, by decide +kernel⟩,
  ⟨40, Security.thm (fun x => {x with apart := [(40,100)]}) op, by decide +kernel⟩,
  ⟨i3c, 1, 3, op, by decide +kernel⟩,
  ⟨i3c, 1, op.rd 0x2200 1 - 1, op, by decide +kernel⟩⟩

/-- Every clause of `WearStoreEventsAndTimeAdvance` with hypotheses has them met by a state and operands. -/
theorem witness_of_wear_store_events_and_time_advance :
    (∃ (s : State), s.dev.state ≠ .off) ∧
    (∃ (s : State), s.nv.waits.any (fun j => j.kind = 0) = false) ∧
    (∃ (s : State), s.jrn.copied ≠ s.jrn.count ∧ s.jrn.copyHeld = false ∧ s.nv.has 5 = false ∧ s.nvWrites) ∧
    (∃ (s : State), (2 ^ 32 + s.jrn.reserve - s.jrn.seq) % 2 ^ 32 ≤ 8388608 ∧ s.nv.has 1 = false) ∧
    (∃ (p : Nat) (d : List Nat) (s : State), s.fwRuns ∧ s.dev.stopAsserted = false ∧ s.nvArea p d.length) ∧
    (∃ (j : NvJob) (s : State), s.nv.job = some j ∧ s.nvWrites) ∧
    (∃ (k : Nat) (r : EvtRec) (l : List EvtRec) (s : State), (s.hold k).recs = r :: l ∧ s.dev.state ≠ .off) ∧
    (∃ (src : Source) (s : State), s.reads src 0x1012 3) ∧
    (∃ (s : State), s.dev.state ≠ .off) ∧
    (∃ (s : State), s.dev.publishDue ∧ s.mgmtRuns) :=
  ⟨⟨Security.tmp, by decide +kernel⟩,
  ⟨op, by decide +kernel⟩,
  ⟨{ op with jrn := { op.jrn with count := 5 } }, by decide +kernel⟩,
  ⟨op, by decide +kernel⟩,
  ⟨2048, [1,2,3], op, by decide +kernel⟩,
  ⟨Security.nj 1 [(5,6000)], Security.nv (fun x => {x with job := some (Security.nj 1 [(5,6000)])}) op, by decide +kernel⟩,
  ⟨9, Security.er 0, [], Security.hs 0, by decide +kernel⟩,
  ⟨i3c, Security.hs 0, by decide +kernel⟩,
  ⟨op, by decide +kernel⟩,
  ⟨{ op with dev := { op.dev with publishDue := true } }, by decide +kernel⟩⟩

/-- Every clause of `NearWordAddressesHaveDifferentChecks` with hypotheses has them met by a state and operands. -/
theorem witness_of_near_word_addresses_have_different_checks :
    (∃ (a : Nat), a < 2 ^ 26) ∧
    (∃ (a : Nat) (b : Nat), a < 2 ^ 26 ∧ b < 2 ^ 26 ∧ 1 ≤ distance 26 a b ∧ distance 26 a b ≤ 5) :=
  ⟨⟨2^26-1, by decide +kernel⟩,
  ⟨2^26-1, 2^26-32, by decide +kernel⟩⟩

/-- Every clause of `BaseChannelServesRequestersInTurn` with hypotheses has them met by a state and operands. -/
theorem witness_of_base_channel_serves_requesters_in_turn :
    (∃ (g : Nat) (r : BaseReq) (s : State), s.memRuns ∧ (s.channel g).find? (fun q => q.code = r.code) = some r ∧ 0x40 ≤ r.code ∧ r.code ≤ 0x44 ∧ (∀ q, q ∈ s.channel g → 0x40 ≤ q.code ∧ q.code ≤ 0x44 ∧ s.turns g r.code ≤ s.turns g q.code)) ∧
    (∃ (g : Nat) (s : State), s.memRuns ∧ s.channel g = []) :=
  ⟨⟨39, Tier.br 0x44 1279, Tier.chn, by decide +kernel⟩,
  ⟨39, op, by decide +kernel⟩⟩

/-- Every clause of `OwnerWritesAreRefusedDuringHandoverAndStop` with hypotheses has them met by a state and operands. -/
theorem witness_of_owner_writes_are_refused_during_handover_and_stop :
    (∃ (src : Source) (b : Nat) (v : Nat) (s : State), b < 1280 ∧ s.admits src (0x4100 + b / 256) (b % 256) 4 (leBytes 4 v) true (bankOwnerFits b v) ∧ (s.bank b).handover) ∧
    (∃ (src : Source) (b : Nat) (v : Nat) (s : State), b < 1280 ∧ s.served src ∧ s.journalOpen ∧ bankOwnerFits b v ∧ (s.dev.state = .quiescing ∨ s.dev.state = .safeStop)) :=
  ⟨⟨i3c, 1279, 16, setBk 1279 (fun x => { x with handover := true, newOwner := 16 }) op, by decide +kernel⟩,
  ⟨i3c, 1279, 16, qui, by decide +kernel⟩⟩

/-- Every clause of `StepRunsTheFrontCommand` with hypotheses has them met by a state and operands. -/
theorem witness_of_step_runs_the_front_command :
    (∃ (s : State), s.pending = [] ∧ s.dev.state = .off) ∧
    (∃ (s : State), s.pending = [] ∧ s.dev.state ≠ .off) :=
  ⟨⟨State.reset, by decide +kernel⟩,
  ⟨op, by decide +kernel⟩⟩

/-- Does an outcome give a next state? -/
def answers (o : Host.Outcome State Fault Refusal) : Bool :=
  match o with
  | .next _ => true
  | _ => false

theorem next_of_answers (o : Host.Outcome State Fault Refusal) (d : State) (h : answers o = true) : o = .next (outOf o d) := by
  cases o <;> simp_all [answers, outOf]

theorem eq_pair_of_fst {α β : Type} (p : α × β) (a : α) (h : p.1 = a) : p = (a, p.2) := by
  subst h; rfl

theorem witness_of_device_pin_and_shuttle_commands_keep_the_rest :
    ∃ (c : Instr) (s t : State), (chapter c = 1 ∨ chapter c = 2 ∨ chapter c = 3) ∧ exec c s = .next t :=
  ⟨.stateCommandEnable i3c, ready man, _, by decide +kernel, next_of_answers _ man (by decide +kernel)⟩

theorem witness_of_memory_commands_keep_the_rest :
    ∃ (c : Instr) (s t : State), (chapter c = 4 ∨ chapter c = 5) ∧ exec c s = .next t :=
  ⟨.initEngineRow 1279, setBk 1279 (fun x => { x with initRow := 4095 }) op, _, by decide +kernel, next_of_answers _ man (by decide +kernel)⟩

theorem witness_of_queue_and_mover_commands_keep_the_rest :
    ∃ (c : Instr) (s t : State), chapter c = 6 ∧ exec c s = .next t :=
  ⟨.enqValue 80 4095 (msg 8), qm1 0 0, _, by decide +kernel, next_of_answers _ man (by decide +kernel)⟩

theorem witness_of_directory_and_channel_commands_keep_the_rest :
    ∃ (c : Instr) (s t : State), (chapter c = 7 ∨ chapter c = 8) ∧ exec c s = .next t :=
  ⟨.dirSnoopIssue 77 5, Small.inDir .snooping 0, _, by decide +kernel, next_of_answers _ man (by decide +kernel)⟩

theorem witness_of_lane_and_lace_commands_keep_the_rest :
    ∃ (c : Instr) (s t : State), (chapter c = 9 ∨ chapter c = 11) ∧ exec c s = .next t :=
  ⟨.laneLockTimeout 95, op, _, by decide +kernel, next_of_answers _ man (by decide +kernel)⟩

theorem witness_of_port_commands_keep_the_rest :
    ∃ (c : Instr) (s t : State), chapter c = 10 ∧ exec c s = .next t :=
  ⟨.linkLoss 16, pcie 1 op, _, by decide +kernel, next_of_answers _ man (by decide +kernel)⟩

theorem witness_of_loader_and_security_commands_keep_the_rest :
    ∃ (c : Instr) (s t : State), (chapter c = 12 ∨ chapter c = 14) ∧ exec c s = .next t :=
  ⟨.loaderAbort i3c, op, _, by decide +kernel, next_of_answers _ man (by decide +kernel)⟩

theorem witness_of_management_commands_keep_the_rest :
    ∃ (c : Instr) (s t : State), chapter c = 13 ∧ exec c s = .next t :=
  ⟨.icmpEcho 0xC0A80001, setReg 0x1100 5 0xC0A80001 op, _, by decide +kernel, next_of_answers _ man (by decide +kernel)⟩

theorem witness_of_thermal_wear_and_self_test_commands_keep_the_rest :
    ∃ (c : Instr) (s t : State), (chapter c = 15 ∨ chapter c = 16 ∨ chapter c = 18) ∧ exec c s = .next t :=
  ⟨.fraySample, op, _, by decide +kernel, next_of_answers _ man (by decide +kernel)⟩

theorem witness_of_power_reset_and_pin_commands_keep_the_rest :
    ∃ (c : Instr) (s t : State), (chapter c = 17 ∨ chapter c = 19) ∧ exec c s = .next t :=
  ⟨.watchdogRestart, op, _, by decide +kernel, next_of_answers _ man (by decide +kernel)⟩

/-- Bank 1279 with one repair of its last row waiting. -/
def repairing : State :=
  { op with mem := { op.mem with repairs := [(39, [⟨1279, 4095, [(wordAddr 1279 4095 7, 12345)], false⟩])] } }

theorem witness_of_memory_services_store_only_their_words :
    (∃ (b pl : Nat) (s t : State), exec (.initEngineRow b) s = .next t ∧
      (∀ w, w < 8 → pl ≠ s.place (wordAddr b (s.initNext b) w))) ∧
    (∃ (g pl : Nat) (s t : State) (r : Repair), exec (.repairWriteback g) s = .next t ∧
      (Tab.look (fun _ => []) s.mem.repairs g).head? = some r ∧ (∀ w, w ∈ r.words → pl ≠ s.place w.1)) ∧
    (∃ (b pl : Nat) (s t : State) (e : Nat) (d : DarnEntry), exec (.darnMigration b) s = .next t ∧
      (s.bank b).darn.find? (fun x => x.2.migrating) = some (e, d) ∧ pl ≠ spareAt b e) ∧
    (∃ (src : Source) (l : List Byte) (pl : Nat) (s t : State), exec (.splitData src l) s = .next t ∧
      pl ≠ s.place s.splitWord) ∧
    (∃ (src : Source) (c pl : Nat) (s t : State), exec (.splitCheck src c) s = .next t ∧ pl ≠ s.place s.splitWord) :=
  ⟨⟨1279, 5, setBk 1279 (fun x => { x with initRow := 4095 }) op, _, next_of_answers _ man (by decide +kernel), by decide +kernel⟩,
   ⟨39, 5, repairing, _, ⟨1279, 4095, [(wordAddr 1279 4095 7, 12345)], false⟩, next_of_answers _ man (by decide +kernel), by decide +kernel, by decide +kernel⟩,
   ⟨1279, 5, setBk 1279 (fun x => { x with darn := [(1, ⟨false, true, 1, 0, 4095, 7⟩)] }) op, _, 1, ⟨false, true, 1, 0, 4095, 7⟩, next_of_answers _ man (by decide +kernel), by decide +kernel, by decide +kernel⟩,
   ⟨i3c, leBytes 32 9, 5, setReg 0x4310 3 32767 (setReg 0x4310 2 1 (setReg 0x4310 1 1279 (own 1279 0x43 man))), _, next_of_answers _ man (by decide +kernel), by decide +kernel⟩,
   ⟨i3c, 9, 5, setReg 0x4310 3 32767 (setReg 0x4310 2 1 (setReg 0x4310 1 1279 (own 1279 0x43 man))), _, next_of_answers _ man (by decide +kernel), by decide +kernel⟩⟩

theorem witness_of_engines_store_only_in_banks_they_own :
    ∃ (c : Instr) (a : Nat) (s t : State), (chapter c = 6 ∨ chapter c = 7 ∨ chapter c = 8) ∧ a < 2 ^ 26 ∧
      (s.bank (bankOf a)).owner ∉ [0x40, 0x41, 0x42, 0x44] ∧ exec c s = .next t :=
  ⟨.enqValue 80 4095 (msg 8), 1279 * 32768, qm1 0 0, _, by decide +kernel, by decide +kernel, by decide +kernel,
    next_of_answers _ man (by decide +kernel)⟩

/-- The state after reset with ENABLE of the device in its queue, in MANAGED. -/
def queued : State := { repairing with pending := [.repairWriteback 39] }

theorem witness_of_every_step_keeps_the_memory_canonical :
    ∃ s t : State, Memory.wf s = true ∧ Sys2Proof.Machine.step s = .next t :=
  ⟨queued, _, by decide +kernel, next_of_answers _ man (by decide +kernel)⟩

theorem witness_of_every_step_keeps_a_legal_life_cycle :
    ∃ s t : State, s.lifecycle ≤ 5 ∧ Sys2Proof.Machine.step s = .next t :=
  ⟨queued, _, by decide +kernel, next_of_answers _ man (by decide +kernel)⟩

theorem witness_of_every_step_keeps_the_holds_within_their_bounds :
    ∃ s t : State, s.holdsFit ∧ Sys2Proof.Machine.step s = .next t :=
  ⟨queued, _, ⟨fun _ => Nat.zero_le _, fun _ => Nat.zero_le _⟩, next_of_answers _ man (by decide +kernel)⟩

/-- An orderly stop that waits in step 4. -/
def stopping : State := { qui with stop := ⟨4, 4, 0⟩, pending := [.stopWindowExpired] }

theorem witness_of_the_device_state_moves_only_as_the_table_says :
    ∃ s t : State, s.stopFits ∧ Sys2Proof.Machine.step s = .next t :=
  ⟨stopping, _, fun _ => by decide +kernel, next_of_answers _ man (by decide +kernel)⟩

/-- Clause 9 of `SalynRequestsAreServed`. -/
theorem witness_of_salyn_write :
    ∃ (k : Nat) (seen : WriteSeen) (r : SalynReq) (s x : State), s.nextRequest k 2 = some r ∧ r.op = 2 ∧
      s.goes (s.writeOpen r.idx r.sub) (writeTier r.idx r.sub) ∧ s.sal.accepted = [] ∧ (s.takenIn k r).repeatOf r = none ∧ fuseObject r.idx r.sub = false ∧ byFirmware r true = false ∧
      (let u := (s.takenIn k r).remember r; u.tryWrite r.idx r.sub r.ty r.value (u.writeRule r.src seen r.idx r.sub r.value).life
        (u.writeRule r.src seen r.idx r.sub r.value).fits
        (u.writeRule r.src seen r.idx r.sub r.value).eff = (.ok, x)) ∧ writeStatusOf r .ok = .ok :=
  ⟨1, ⟨[], 0, 0, []⟩, Dictionary.wq, Dictionary.arr Dictionary.wq op, _, by decide +kernel, by decide +kernel, by decide +kernel, by decide +kernel,
    by decide +kernel, by decide +kernel, by decide +kernel, eq_pair_of_fst _ _ (by decide +kernel), by decide +kernel⟩

/-- What follows the destination in an Ethernet frame with an IPv4 packet from 192.168.0.2 to 192.168.0.1. -/
def ether (off : Nat) (more : Bool) (d : List Byte) : List Byte :=
  List.replicate 6 2 ++ [8, 0] ++ ipPacket 0xC0A80002 0xC0A80001 7 off more d

/-- A message in its datagram. -/
def gram : List Byte := udpDatagram 0xC0A80002 0xC0A80001 5000 20731 (Dictionary.wm Dictionary.sr)

def gramIp (off : Nat) (more : Bool) : IpPacket := ⟨0xC0A80002, 0xC0A80001, 7, off, more, 17, gram⟩

theorem ether_read :
    ipOfFrame 0 (List.replicate 6 0 ++ ether 0 false gram) = some (gramIp 0 false) ∧
      ipOfFrame 0 (List.replicate 6 0 ++ ether 0 true gram) = some (gramIp 0 true) := by decide +kernel

theorem mac_fits : Config.macAddress % 2 ^ 48 < 2 ^ 48 := Nat.mod_lt _ (by decide)

/-- Clause 3 of `SalynRequestsAreServed`. -/
theorem witness_of_datagram :
    ∃ (src : Source) (f m : List Byte) (p : IpPacket) (port : Nat) (s : State), src.code = 3 ∧ s.udpServed ∧
      ipOfFrame (Config.macAddress % 2 ^ 48) f = some p ∧ p.dst = s.rd 0x1100 5 ∧ p.proto = 17 ∧ p.off = 0 ∧ p.more = false ∧
      udpOf p.src p.dst salynPort p.data = some (port, m) ∧ s.full src = false ∧ messageBad m = false ∧
      (headerOf m).testBit 16 = false :=
  ⟨⟨3, 0⟩, beBytes 6 (Config.macAddress % 2 ^ 48) ++ ether 0 false gram, Dictionary.wm Dictionary.sr, gramIp 0 false, 5000,
    Dictionary.udp, rfl, by decide +kernel, (ipOfFrame_own mac_fits _).trans ether_read.1, by decide +kernel, rfl, rfl, rfl,
    by decide +kernel, by decide +kernel, by decide +kernel, by decide +kernel⟩

/-- Clause 2 of `TransportsAnswer`. -/
theorem witness_of_fragment :
    ∃ (src : Source) (f : List Byte) (p : IpPacket) (s : State), src.code = 3 ∧ s.udpServed ∧
      ipOfFrame (Config.macAddress % 2 ^ 48) f = some p ∧ p.dst = s.rd 0x1100 5 ∧ p.proto = 17 ∧ p.more ∧ s.sal.frags = [] ∧
      p.off + p.data.length ≤ 8 + 4352 :=
  ⟨⟨3, 0⟩, beBytes 6 (Config.macAddress % 2 ^ 48) ++ ether 0 true gram, gramIp 0 true, Dictionary.udp, rfl, by decide +kernel,
    (ipOfFrame_own mac_fits _).trans ether_read.2, by decide +kernel, rfl, rfl, by decide +kernel, by decide +kernel⟩

/-- Clause 1 of `DictionaryJournalAndNoticesWork`. -/
theorem witness_of_dictionary_write :
    ∃ (src : Source) (i b ty : Nat) (v : List Byte) (seen : WriteSeen) (s x : State), fuseObject i b = false ∧
      s.goes (s.writeOpen i b) (writeTier i b) ∧ s.admits src i b ty v (s.writeRule src seen i b v).life (s.writeRule src seen i b v).fits ∧
      (s.writeRule src seen i b v).eff (s.countRequest src) = (.ok, x) ∧ x.journalOpen :=
  ⟨i3c, 0x7800, 3, 3, leBytes 2 10, ⟨[], 0, 0, []⟩, op, _, by decide +kernel, by decide +kernel, by decide +kernel,
    eq_pair_of_fst _ _ (by decide +kernel), by decide +kernel⟩

/-- Clause 2 of `FusesAreProgrammedAndLocked`: whether a token is signed under the return key is not the spec's to say of any one
number (log 24), so the witness takes it as given. -/
theorem witness_of_return_token (h : ((Security.fs 1 1).countRequest i3c).tokenGood (msg 64) = true) :
    (Security.fs 1 1).takesFuse i3c 0x41 0x0A (msg 64) = true := by
  have e : ((Security.fs 1 1).countRequest i3c).fuseRule 0x41 (msg 64) = ⟨true, true, true, 0, 4, []⟩ := by
    show ((Security.fs 1 1).countRequest i3c).tokenRule (msg 64) = _
    unfold State.tokenRule
    rw [h]
    decide +kernel
  unfold State.takesFuse
  rw [e]
  decide +kernel

end Sys2Proof.Tests
end

section
/-! PROOF. The group base channels (R109). -/

namespace Sys2Proof.Machine

/-! What answering a T0 request leaves of the memory tier. -/

/-- The memory tier apart from the host reads in progress and the marked base SRAM words: answering a request of the base
channel changes nothing else of it. -/
def State.tier (s : State) : Mem := { s.mem with hostReads := [], sramBad := [] }

@[simp] theorem State.drawn_tier (s : State) : s.drawn.tier = s.tier := rfl
@[simp] theorem State.setLace_tier (s : State) (k : Nat) (x : Lace) : (s.setLace k x).tier = s.tier := rfl
@[simp] theorem State.ownerFault_tier (s : State) (b : Nat) : (s.ownerFault b).tier = s.tier := rfl

@[simp] theorem State.putFlit_tier (s : State) (link ty partner seq vc : Nat) (l : List Byte) :
    (s.putFlit link ty partner seq vc l).tier = s.tier := rfl

@[simp] theorem State.sendData_tier (s : State) (p : Bool) (o : Bool → Out) : (s.sendData p o).tier = s.tier := by
  unfold State.sendData
  split <;> rfl

@[simp] theorem State.pump_tier (s : State) (link n : Nat) : (s.pump link n).tier = s.tier := by
  induction n generalizing s with
  | zero => rfl
  | succ n ih =>
    unfold State.pump
    dsimp only
    split
    · split
      · rw [ih, State.putFlit_tier, State.setLace_tier]
      · rfl
    · rfl

@[simp] theorem State.sendFlit_tier (s : State) (link : Nat) (f : TxFlit) : (s.sendFlit link f).tier = s.tier := by
  unfold State.sendFlit
  dsimp only
  rw [State.pump_tier, State.setLace_tier]
  split <;> rfl

@[simp] theorem State.sendCompletions_tier (s : State) (link tag status : Nat) (p : Bool) (off : Nat) (l : List Byte)
    (n : Nat) : (s.sendCompletions link tag status p off l n).tier = s.tier := by
  induction n generalizing s off l with
  | zero => rfl
  | succ n ih =>
    unfold State.sendCompletions
    dsimp only
    split
    · exact State.sendFlit_tier ..
    · rw [ih, State.sendFlit_tier]

@[simp] theorem State.complete_tier (s : State) (link tag status : Nat) (p : Bool) (l : List Byte) :
    (s.complete link tag status p l).tier = s.tier := by
  unfold State.complete
  split
  · rfl
  · split
    · exact State.sendCompletions_tier ..
    · split
      · rfl
      · exact State.sendData_tier ..

@[simp] theorem State.answerBase_tier (s : State) (r : BaseReq) (status data : Nat) :
    (s.answerBase r status data).tier = s.tier := by
  unfold State.answerBase
  dsimp only
  split
  · rfl
  · split
    · split
      · exact State.complete_tier ..
      · rfl
    · split
      · split
        · rfl
        · exact State.complete_tier ..
      · rfl

@[simp] theorem State.refuseBase_tier (s : State) (r : BaseReq) : (s.refuseBase r).tier = s.tier := by
  unfold State.refuseBase
  split
  · rfl
  · rw [State.answerBase_tier, State.drawn_tier]

/-! The rotation of a group's base channel. -/

/-- The channel takes a request: it leaves the queue, and its requester is the one served last (R109). -/
def State.popRequest (s : State) (g : Nat) (r : BaseReq) : State :=
  (s.setChannel g ((s.channel g).erase r)).setServed g r.code

@[simp] theorem State.popRequest_channel_same (s : State) (g : Nat) (r : BaseReq) :
    (s.popRequest g r).channel g = (s.channel g).erase r := Tab.look_put_same ..

theorem State.popRequest_channel_ne (s : State) {g k : Nat} (r : BaseReq) (h : k ≠ g) :
    (s.popRequest g r).channel k = s.channel k := Tab.look_put_ne _ _ _ h

@[simp] theorem State.popRequest_lastServed (s : State) (g : Nat) (r : BaseReq) :
    (s.popRequest g r).lastServed g = r.code := Tab.look_put_same ..

/-- A granted request of the bank's owner, or of its coming owner, joins those at the bank (R109, R111). -/
theorem State.grantRequest_of_owner {s : State} (g : Nat) {r : BaseReq}
    (h : (s.owns r.code (bankOf (r.addr / 32)) || s.heldFor r.code (bankOf (r.addr / 32))) = true) :
    s.grantRequest g r =
      (s.popRequest g r).setAtBank (bankOf (r.addr / 32)) (s.atBank (bankOf (r.addr / 32)) ++ [r]) := if_pos h

/-- A granted request of any other requester is answered at once (R24). -/
theorem State.grantRequest_of_other {s : State} (g : Nat) {r : BaseReq}
    (h : ¬(s.owns r.code (bankOf (r.addr / 32)) || s.heldFor r.code (bankOf (r.addr / 32))) = true) :
    s.grantRequest g r = ((s.popRequest g r).ownerFault (bankOf (r.addr / 32))).refuseBase r := if_neg h

/-- Where the request goes on to does not touch the queues of the channels or the requesters they served last. -/
theorem State.grantRequest_queues (s : State) (g : Nat) (r : BaseReq) :
    (s.grantRequest g r).mem.channel = (s.popRequest g r).mem.channel ∧
      (s.grantRequest g r).mem.lastServed = (s.popRequest g r).mem.lastServed := by
  by_cases h : (s.owns r.code (bankOf (r.addr / 32)) || s.heldFor r.code (bankOf (r.addr / 32))) = true
  · rw [State.grantRequest_of_owner g h]
    exact ⟨rfl, rfl⟩
  · have e : (s.grantRequest g r).tier = (s.popRequest g r).tier := by
      rw [State.grantRequest_of_other g h, State.refuseBase_tier, State.ownerFault_tier]
    exact ⟨(congrArg Mem.channel e :), (congrArg Mem.lastServed e :)⟩

theorem State.grantRequest_channel (s : State) (g k : Nat) (r : BaseReq) :
    (s.grantRequest g r).channel k = (s.popRequest g r).channel k := by
  unfold State.channel
  rw [(s.grantRequest_queues g r).1]

theorem State.grantRequest_lastServed (s : State) (g k : Nat) (r : BaseReq) :
    (s.grantRequest g r).lastServed k = (s.popRequest g r).lastServed k := by
  unfold State.lastServed
  rw [(s.grantRequest_queues g r).2]

/-- The rotation reaches a requester after as many others as `State.turns` counts. -/
theorem State.servedOrder_at_turn (s : State) (g : Nat) {c : Nat} (lo : 0x40 ≤ c) (hi : c ≤ 0x44) :
    s.servedOrder g = (s.servedOrder g).take (s.turns g c) ++ c :: (s.servedOrder g).drop (s.turns g c + 1) := by
  have hn : s.turns g c < (s.servedOrder g).length := by
    have : s.turns g c < 5 := Nat.mod_lt _ (by decide)
    simpa [State.servedOrder] using this
  have hc : (s.servedOrder g)[s.turns g c] = c := by
    simp only [State.servedOrder, State.turns, State.lastServed, List.getElem_map, List.getElem_range]
    omega
  have split : (s.servedOrder g).drop (s.turns g c) = c :: (s.servedOrder g).drop (s.turns g c + 1) := by
    rw [List.drop_eq_getElem_cons hn, hc]
  rw [← split, List.take_append_drop]

/-- A requester that the rotation reaches within the first `n` turns has its turn among them. -/
theorem State.turns_lt_of_mem_take {s : State} {g n c : Nat} (h : c ∈ (s.servedOrder g).take n) : s.turns g c < n := by
  obtain ⟨k, hk, rfl⟩ := List.mem_take_iff_getElem.mp h
  simp only [State.servedOrder, List.length_map, List.length_range] at hk
  simp only [State.servedOrder, State.turns, State.lastServed, List.getElem_map, List.getElem_range]
  omega

/-- The channel picks the oldest request of the waiting requester whose turn comes first (R109). -/
theorem State.channelPick_of_first_turn {s : State} {g : Nat} {r : BaseReq}
    (hr : (s.channel g).find? (fun q => q.code = r.code) = some r) (lo : 0x40 ≤ r.code) (hi : r.code ≤ 0x44)
    (first : ∀ q, q ∈ s.channel g → s.turns g r.code ≤ s.turns g q.code) : s.channelPick g = some r := by
  refine List.findSome?_eq_some_iff.mpr ⟨_, r.code, _, s.servedOrder_at_turn g lo hi, hr, fun c hc => ?_⟩
  refine List.find?_eq_none.mpr fun q hq e => ?_
  have earlier := State.turns_lt_of_mem_take hc
  have later := first q hq
  rw [of_decide_eq_true e] at later
  omega

/-- With nothing waiting the channel picks nothing. -/
theorem State.channelPick_of_empty {s : State} {g : Nat} (h : s.channel g = []) : s.channelPick g = none := by
  simp [State.channelPick, h]

theorem exec_baseChannelGrant_some {s : State} {g : Nat} {r : BaseReq} (run : s.memRuns = true)
    (h : s.channelPick g = some r) : exec (.baseChannelGrant g) s = .next (s.grantRequest g r) := by
  show execBaseChannelGrant g s = _
  simp [execBaseChannelGrant, run, h]

theorem exec_baseChannelGrant_none {s : State} {g : Nat} (run : s.memRuns = true) (h : s.channelPick g = none) :
    exec (.baseChannelGrant g) s = .next s := by
  show execBaseChannelGrant g s = _
  simp [execBaseChannelGrant, run, h]

/-- Settles O51: the channel picks the request whose turn comes first, and `State.grantRequest` takes that one. -/
theorem baseChannelServesRequestersInTurn : Obligations.BaseChannelServesRequestersInTurn := by
  refine ⟨fun g r s run hr lo hi first => ?_, fun g s run h => exec_baseChannelGrant_none run (State.channelPick_of_empty h)⟩
  have pick := State.channelPick_of_first_turn hr lo hi (fun q hq => (first q hq).2.2)
  have waits : r ∈ s.channel g := List.mem_of_find?_eq_some hr
  have taken : (s.grantRequest g r).channel g = (s.channel g).erase r := by
    rw [State.grantRequest_channel, State.popRequest_channel_same]
  refine ⟨s.grantRequest g r, exec_baseChannelGrant_some run pick, taken, ?_, ?_, fun k hk => ?_, fun _ own => ?_⟩
  · rw [taken, List.length_erase_of_mem waits]
    exact Nat.sub_add_cancel (List.length_pos_of_mem waits)
  · exact (s.grantRequest_lastServed g g r).trans (s.popRequest_lastServed g r)
  · rw [State.grantRequest_channel, State.popRequest_channel_ne s r hk]
  · rw [State.grantRequest_of_owner g own]
    exact Tab.look_put_same ..

end Sys2Proof.Machine
end

section
/-! PROOF. Writes to the owner objects (R112): a refusal whose source still waits for an earlier answer. -/

namespace Sys2Proof.Machine

/-- An answer to a source that waits for an earlier one is queued behind it, and nothing is sent (R347). -/
theorem State.answer_out_of_awaits {s : State} {r : JRec} (o : Out) (j : s.journalOpen = true)
    (a : s.awaits r.source = true) : (s.answer r o).out = s.out := by
  have a' : (s.journalWrite r false).awaits r.source = true := a
  simp only [State.answer, j, State.say, a', if_true]
  rfl

/-- In QUIESCING an I3C host's read of ROOT_CFG_DATA (R261) waits for its completion. -/
def quiescingWithOpenRead : State :=
  let s := { State.reset with
    dev := { Dev.init with state := .quiescing }
    jrn := { Journal.init with reserve := 1000 } }
  s.openReq (s.rowReq ⟨1, 0⟩ 1 0x5120 2 [])

/-- A write to the owner object of bank 0 from that host is refused, and the refusal is not sent yet. -/
theorem quiescingWithOpenRead_bankOwnerWrite :
    ∃ t, exec (.bankOwnerWrite ⟨1, 0⟩ 0 0) quiescingWithOpenRead = .next t ∧ t.served ⟨1, 0⟩ = true ∧ t.out = [] := by
  refine ⟨_, rfl, by decide +kernel, ?_⟩
  have refused : (quiescingWithOpenRead.countRequest ⟨1, 0⟩).writeStatus 0x4100 0 4 (leBytes 4 0) true (bankOwnerFits 0 0)
      = .stateConflict := by decide +kernel
  refine (congrArg State.out (State.command_refused _ _ (by decide +kernel) (by decide +kernel) ?_)).trans ?_
  · rw [refused]
    decide
  · exact State.answer_out_of_awaits _ (by decide +kernel) (by decide +kernel)

/-- Refutes O52: in QUIESCING a write from a source with an earlier request unanswered is refused, but its STATE_CONFLICT waits
behind that request (R347), so it is not the last thing sent; the second clause does not exclude such a source. -/
theorem not_ownerWritesAreRefusedDuringHandoverAndStop :
    ¬ Obligations.OwnerWritesAreRefusedDuringHandoverAndStop := by
  rintro ⟨-, refusedInStop⟩
  obtain ⟨t, ht, said, -⟩ := refusedInStop ⟨1, 0⟩ 0 0 quiescingWithOpenRead (by decide) (by decide +kernel)
    (by decide +kernel) (by decide +kernel) (.inl rfl)
  obtain ⟨t', ht', served, silent⟩ := quiescingWithOpenRead_bankOwnerWrite
  obtain rfl : t' = t := by
    rw [ht'] at ht
    exact Host.Outcome.next.inj ht
  have sent := said served
  rw [silent] at sent
  cases sent

end Sys2Proof.Machine
end

section
/-! PROOF. The address check (R122) is a BCH code over GF(2^6), extended by a parity bit: its minimum distance is 6. -/

namespace Sys2Proof.Machine

/-! Multiplication by a power of the root is linear over XOR. -/

theorem eq_of_xor_eq_zero {x y : Nat} (h : x ^^^ y = 0) : x = y := by
  rw [← Nat.xor_zero x, ← Nat.xor_self y, ← Nat.xor_assoc, h, Nat.zero_xor]

theorem gfStep_eq_xor (w poly x : Nat) : gfStep w poly x = 2 * x ^^^ if x.testBit (w - 1) then poly else 0 := by
  unfold gfStep
  split
  · rfl
  · exact (Nat.xor_zero _).symm

theorem gfStep_xor (w poly x y : Nat) : gfStep w poly (x ^^^ y) = gfStep w poly x ^^^ gfStep w poly y := by
  have double : 2 * (x ^^^ y) = 2 * x ^^^ 2 * y := by
    have h := Nat.shiftLeft_xor_distrib (a := x) (b := y) (i := 1)
    simpa only [Nat.shiftLeft_eq, Nat.pow_one, Nat.mul_comm _ 2] using h
  have carry : (if (x ^^^ y).testBit (w - 1) then poly else 0) =
      (if x.testBit (w - 1) then poly else 0) ^^^ (if y.testBit (w - 1) then poly else 0) := by
    rw [Nat.testBit_xor]
    cases x.testBit (w - 1) <;> cases y.testBit (w - 1)
    · exact (Nat.xor_self 0).symm
    · exact (Nat.zero_xor poly).symm
    · exact (Nat.xor_zero poly).symm
    · exact (Nat.xor_self poly).symm
  rw [gfStep_eq_xor, gfStep_eq_xor, gfStep_eq_xor, double, carry]
  ac_rfl

theorem gfShift_succ (w poly n x : Nat) : gfShift w poly (n + 1) x = gfShift w poly n (gfStep w poly x) := by
  rw [gfShift, withNat_eq]

theorem gfShift_xor (w poly n x y : Nat) :
    gfShift w poly n (x ^^^ y) = gfShift w poly n x ^^^ gfShift w poly n y := by
  induction n generalizing x y with
  | zero => rfl
  | succ n ih => simp only [gfShift_succ, gfStep_xor, ih]

theorem gfShift_add (w poly m n x : Nat) : gfShift w poly (m + n) x = gfShift w poly m (gfShift w poly n x) := by
  induction n generalizing x with
  | zero => rfl
  | succ n ih => rw [← Nat.add_assoc, gfShift_succ, gfShift_succ, ih]

theorem gfShift_comm (w poly m n x : Nat) :
    gfShift w poly m (gfShift w poly n x) = gfShift w poly n (gfShift w poly m x) := by
  rw [← gfShift_add, Nat.add_comm, gfShift_add]

theorem gfShift_zero (w poly n : Nat) : gfShift w poly n 0 = 0 := by
  have h := gfShift_xor w poly n 0 0
  rwa [Nat.xor_self, Nat.xor_self] at h

theorem gfSum_succ (w poly k x n : Nat) :
    gfSum w poly k x (n + 1) = gfShift w poly (k * n) (flag (x.testBit n)) ^^^ gfSum w poly k x n := by
  rw [gfSum]
  cases x.testBit n
  · exact congrArg (· ^^^ _) (gfShift_zero ..).symm
  · rfl

/-- Horner's rule gives the sum over the bits that are 1. -/
theorem gfEval_msbBits (w poly k x n acc : Nat) :
    gfEval w poly k acc (msbBits n x) = gfShift w poly (k * n) acc ^^^ gfSum w poly k x n := by
  induction n generalizing acc with
  | zero => exact (Nat.xor_zero acc).symm
  | succ n ih =>
    rw [msbBits, gfEval, withNat_eq, ih, gfShift_xor, ← gfShift_add, Nat.xor_assoc, gfSum_succ, Nat.mul_succ]

theorem gfSum_xor (w poly k x y n : Nat) :
    gfSum w poly k (x ^^^ y) n = gfSum w poly k x n ^^^ gfSum w poly k y n := by
  have bit (p q : Bool) : flag (p ^^ q) = flag p ^^^ flag q := by cases p <;> cases q <;> rfl
  induction n with
  | zero => exact (Nat.xor_self 0).symm
  | succ n ih =>
    rw [gfSum_succ, gfSum_succ, gfSum_succ, Nat.testBit_xor, bit, gfShift_xor, ih]
    ac_rfl

/-! The three parts of the address check. -/

theorem gfStep_lt {x : Nat} (h : x < 64) : gfStep 6 0x43 x < 64 := by
  revert x
  decide

theorem gfShift_lt (n : Nat) {x : Nat} (h : x < 64) : gfShift 6 0x43 n x < 64 := by
  induction n generalizing x with
  | zero => exact h
  | succ n ih =>
    rw [gfShift_succ]
    exact ih (gfStep_lt h)

theorem gfSum_lt (k x n : Nat) : gfSum 6 0x43 k x n < 64 := by
  induction n with
  | zero => exact Nat.zero_lt_succ 63
  | succ n ih =>
    rw [gfSum_succ]
    refine Nat.xor_lt_two_pow (n := 6) (gfShift_lt _ ?_) ih
    cases x.testBit n <;> decide

theorem distance_succ (n a b : Nat) : distance (n + 1) a b = distance n a b + flag ((a ^^^ b).testBit n) := by
  unfold distance
  rw [List.range_succ, List.filter_append, List.length_append, List.filter_cons, List.filter_nil]
  cases (a ^^^ b).testBit n <;> rfl

theorem flag_parityBits (x n : Nat) : flag (parityBits (msbBits n x)) = distance n x 0 % 2 := by
  induction n with
  | zero => rfl
  | succ n ih =>
    rw [distance_succ, Nat.xor_zero, Nat.add_mod, ← ih, msbBits, parityBits]
    cases x.testBit n <;> cases parityBits (msbBits n x) <;> rfl

/-- The parity is the power sum of exponent 0. -/
theorem gfSum_exponent_zero (w poly x n : Nat) : gfSum w poly 0 x n = flag (parityBits (msbBits n x)) := by
  induction n with
  | zero => rfl
  | succ n ih =>
    rw [gfSum_succ, Nat.zero_mul, gfShift, ih, msbBits, parityBits]
    cases x.testBit n <;> cases parityBits (msbBits n x) <;> rfl

theorem addrCheck_eq (a : Nat) :
    addrCheck a = gfSum 6 0x43 1 a 26 + 64 * gfSum 6 0x43 3 a 26 + 4096 * (distance 26 a 0 % 2) := by
  simp only [addrCheck, withNat_eq, gfEval_msbBits, gfShift_zero, Nat.zero_xor, flag_parityBits]

/-- The three parts of an address check stand side by side in it. -/
theorem addrCheck_parts (a : Nat) :
    addrCheck a % 64 = gfSum 6 0x43 1 a 26 ∧ addrCheck a / 64 % 64 = gfSum 6 0x43 3 a 26 ∧
      addrCheck a / 4096 = distance 26 a 0 % 2 := by
  have h1 := gfSum_lt 1 a 26
  have h3 := gfSum_lt 3 a 26
  rw [addrCheck_eq]
  omega

/-! The root has order 63: two different powers of it below that act differently on every word but 0. -/

theorem eq_zero_of_gfShift_eq_zero {n x : Nat} (h : x < 64) (zero : gfShift 6 0x43 n x = 0) : x = 0 := by
  have step : ∀ y, y < 64 → gfStep 6 0x43 y = 0 → y = 0 := by decide
  induction n generalizing x with
  | zero => exact zero
  | succ n ih =>
    rw [gfShift_succ] at zero
    exact step x h (ih (gfStep_lt h) zero)

theorem eq_zero_or_power {x : Nat} (h : x < 64) : x = 0 ∨ ∃ a, gfShift 6 0x43 a 1 = x := by
  have powers : ∀ y, y < 64 → y = 0 ∨ ∃ a, a < 63 ∧ gfShift 6 0x43 a 1 = y := by decide +kernel
  exact (powers x h).imp_right fun ⟨a, _, e⟩ => ⟨a, e⟩

theorem eq_zero_of_gfShift_eq_self {n x : Nat} (pos : 0 < n) (small : n < 63) (h : x < 64)
    (same : gfShift 6 0x43 n x = x) : x = 0 := by
  have order : ∀ k, k < 63 → 0 < k → gfShift 6 0x43 k 1 ≠ 1 := by decide +kernel
  obtain zero | ⟨a, rfl⟩ := eq_zero_or_power h
  · exact zero
  · have shifted : gfShift 6 0x43 a (gfShift 6 0x43 n 1 ^^^ 1) = 0 := by
      rw [gfShift_xor, gfShift_comm, same, Nat.xor_self]
    have bound : gfShift 6 0x43 n 1 ^^^ 1 < 64 := Nat.xor_lt_two_pow (n := 6) (gfShift_lt n (by decide)) (by decide)
    exact absurd (eq_of_xor_eq_zero (eq_zero_of_gfShift_eq_zero bound shifted)) (order n small pos)

theorem eq_zero_of_gfShift_eq {i j x : Nat} (differ : i ≠ j) (hi : i < 63) (hj : j < 63) (h : x < 64)
    (same : gfShift 6 0x43 i x = gfShift 6 0x43 j x) : x = 0 := by
  have ordered : ∀ i n, 0 < n → n < 63 → gfShift 6 0x43 i x = gfShift 6 0x43 (i + n) x → x = 0 := fun i n pos small e => by
    have shifted : gfShift 6 0x43 i (x ^^^ gfShift 6 0x43 n x) = 0 := by
      rw [gfShift_xor, ← gfShift_add, ← e, Nat.xor_self]
    have bound : x ^^^ gfShift 6 0x43 n x < 64 := Nat.xor_lt_two_pow (n := 6) h (gfShift_lt n h)
    exact eq_zero_of_gfShift_eq_self pos small h (eq_of_xor_eq_zero (eq_zero_of_gfShift_eq_zero bound shifted)).symm
  obtain less | more := Nat.lt_or_gt_of_ne differ
  · refine ordered i (j - i) (by omega) (by omega) ?_
    rw [same, Nat.add_sub_cancel' (Nat.le_of_lt less)]
  · refine ordered j (i - j) (by omega) (by omega) ?_
    rw [← same, Nat.add_sub_cancel' (Nat.le_of_lt more)]

/-! Squaring is linear, so the power sums of exponents 1 and 3 give those of exponents 2 and 4. -/

/-- The square of a word of coefficients: bit `i` stands for `β^(2i)`. -/
def gfSquare (x : Nat) : Nat := gfSum 6 0x43 2 x 6

theorem gfSquare_zero : gfSquare 0 = 0 := by decide

theorem gfSquare_xor (x y : Nat) : gfSquare (x ^^^ y) = gfSquare x ^^^ gfSquare y := gfSum_xor ..

theorem gfSquare_gfShift (n : Nat) {x : Nat} (h : x < 64) :
    gfSquare (gfShift 6 0x43 n x) = gfShift 6 0x43 (2 * n) (gfSquare x) := by
  have step : ∀ y, y < 64 → gfSquare (gfStep 6 0x43 y) = gfShift 6 0x43 2 (gfSquare y) := by decide +kernel
  induction n generalizing x with
  | zero => rfl
  | succ n ih => rw [gfShift_succ, ih (gfStep_lt h), step x h, ← gfShift_add, Nat.mul_succ]

theorem gfSquare_gfSum (k x n : Nat) : gfSquare (gfSum 6 0x43 k x n) = gfSum 6 0x43 (2 * k) x n := by
  have bit (b : Bool) : flag b < 64 ∧ gfSquare (flag b) = flag b := by cases b <;> decide
  induction n with
  | zero => exact gfSquare_zero
  | succ n ih =>
    obtain ⟨small, fixed⟩ := bit (x.testBit n)
    rw [gfSum_succ, gfSum_succ, gfSquare_xor, gfSquare_gfShift _ small, ih, fixed, Nat.mul_assoc]

theorem gfSum_double_eq_zero {k x n : Nat} (h : gfSum 6 0x43 k x n = 0) : gfSum 6 0x43 (2 * k) x n = 0 := by
  rw [← gfSquare_gfSum, h, gfSquare_zero]

/-! The bound of a BCH code: power sums of as many exponents in a row as there are positions are not all 0. -/

/-- The sum of `c i · β^(k·i)` over positions `i`. -/
def weightedSum (c : Nat → Nat) (k : Nat) : List Nat → Nat
  | [] => 0
  | i :: l => gfShift 6 0x43 (k * i) (c i) ^^^ weightedSum c k l

/-- The coefficients with position `j` removed: `c i · (β^i + β^j)`. -/
def withoutPosition (c : Nat → Nat) (j i : Nat) : Nat := gfShift 6 0x43 i (c i) ^^^ gfShift 6 0x43 j (c i)

theorem weightedSum_append (c : Nat → Nat) (k : Nat) (l m : List Nat) :
    weightedSum c k (l ++ m) = weightedSum c k l ^^^ weightedSum c k m := by
  induction l with
  | nil => exact (Nat.zero_xor _).symm
  | cons i l ih => rw [List.cons_append, weightedSum, weightedSum, ih, Nat.xor_assoc]

theorem weightedSum_eq_zero {c : Nat → Nat} {k : Nat} {l : List Nat} (h : ∀ i ∈ l, c i = 0) : weightedSum c k l = 0 := by
  induction l with
  | nil => rfl
  | cons i l ih =>
    rw [weightedSum, h i List.mem_cons_self, gfShift_zero, ih fun j hj => h j (List.mem_cons_of_mem i hj), Nat.xor_self]

theorem weightedSum_withoutPosition (c : Nat → Nat) (j k : Nat) (l : List Nat) :
    weightedSum (withoutPosition c j) k l = weightedSum c (k + 1) l ^^^ gfShift 6 0x43 j (weightedSum c k l) := by
  induction l with
  | nil => exact ((Nat.zero_xor _).trans (gfShift_zero ..)).symm
  | cons i l ih =>
    rw [weightedSum, weightedSum, weightedSum, ih, withoutPosition, gfShift_xor, gfShift_xor, ← gfShift_add,
      gfShift_comm _ _ (k * i) j, Nat.succ_mul]
    ac_rfl

theorem withoutPosition_self (c : Nat → Nat) (j : Nat) : withoutPosition c j j = 0 := Nat.xor_self _

theorem withoutPosition_lt {c : Nat → Nat} (j : Nat) {i : Nat} (h : c i < 64) : withoutPosition c j i < 64 :=
  Nat.xor_lt_two_pow (n := 6) (gfShift_lt i h) (gfShift_lt j h)

/-- The Vandermonde argument: the first position is removed from the sums, and by induction the others have coefficient 0. -/
theorem coefficients_eq_zero {l : List Nat} (distinct : l.Nodup) (small : ∀ i ∈ l, i < 63) {c : Nat → Nat}
    (words : ∀ i, c i < 64) (sums : ∀ k, k < l.length → weightedSum c k l = 0) : ∀ i ∈ l, c i = 0 := by
  induction l generalizing c with
  | nil => exact fun i hi => nomatch hi
  | cons j l ih =>
    obtain ⟨fresh, distinct⟩ := List.nodup_cons.mp distinct
    have smallTail : ∀ i ∈ l, i < 63 := fun i hi => small i (List.mem_cons_of_mem j hi)
    have removed : ∀ k, k < l.length → weightedSum (withoutPosition c j) k l = 0 := fun k hk => by
      have h := weightedSum_withoutPosition c j k (j :: l)
      rwa [sums k (Nat.lt_succ_of_lt hk), sums (k + 1) (Nat.succ_lt_succ hk), gfShift_zero, weightedSum,
        withoutPosition_self, gfShift_zero, Nat.zero_xor, Nat.xor_self] at h
    have tail : ∀ i ∈ l, c i = 0 := fun i hi => by
      have zero := ih distinct smallTail (fun i => withoutPosition_lt j (words i)) removed i hi
      have differ : i ≠ j := fun e => fresh (e ▸ hi)
      exact eq_zero_of_gfShift_eq differ (smallTail i hi) (small j List.mem_cons_self) (words i) (eq_of_xor_eq_zero zero)
    have head : c j = 0 := by
      have h := sums 0 (Nat.zero_lt_succ _)
      rwa [weightedSum, weightedSum_eq_zero tail, Nat.xor_zero, Nat.zero_mul, gfShift] at h
    intro i hi
    obtain rfl | later := List.mem_cons.mp hi
    · exact head
    · exact tail i later

/-! The distance of the code. -/

/-- The positions below `n` of the bits of `x` that are 1. -/
def bitsSet (n x : Nat) : List Nat := (List.range n).filter fun i => x.testBit i

theorem weightedSum_bitsSet (k x n : Nat) : weightedSum (fun _ => 1) k (bitsSet n x) = gfSum 6 0x43 k x n := by
  induction n with
  | zero => rfl
  | succ n ih =>
    rw [bitsSet, List.range_succ, List.filter_append, ← bitsSet, weightedSum_append, ih, Nat.xor_comm, gfSum_succ,
      List.filter_cons, List.filter_nil]
    cases x.testBit n
    · exact congrArg (· ^^^ _) (gfShift_zero ..).symm
    · exact congrArg (· ^^^ _) (Nat.xor_zero _)

theorem bitsSet_eq_nil {n x : Nat} (small : n ≤ 63)
    (sums : ∀ k, k < (bitsSet n x).length → gfSum 6 0x43 k x n = 0) : bitsSet n x = [] := by
  refine List.eq_nil_iff_forall_not_mem.mpr fun i hi => ?_
  have positions : ∀ i ∈ bitsSet n x, i < 63 := fun i hi =>
    Nat.lt_of_lt_of_le (List.mem_range.mp (List.mem_filter.mp hi).1) small
  have one_eq_zero : 1 = 0 := coefficients_eq_zero (c := fun _ => 1) (List.nodup_range.filter _) positions
    (fun _ => by decide) (fun k hk => (weightedSum_bitsSet k x n).trans (sums k hk)) i hi
  exact Nat.one_ne_zero one_eq_zero

/-- Where two word addresses share their address check, the first five power sums over the bits in which they differ are 0. -/
theorem gfSum_differing_eq_zero {a b : Nat} (same : addrCheck a = addrCheck b) {k : Nat} (hk : k < 5) :
    gfSum 6 0x43 k (a ^^^ b) 26 = 0 := by
  obtain ⟨a1, a3, a0⟩ := addrCheck_parts a
  obtain ⟨b1, b3, b0⟩ := addrCheck_parts b
  rw [same] at a1 a3 a0
  have sum0 : gfSum 6 0x43 0 (a ^^^ b) 26 = 0 := by
    rw [gfSum_xor, gfSum_exponent_zero, gfSum_exponent_zero, flag_parityBits, flag_parityBits, ← a0, ← b0, Nat.xor_self]
  have sum1 : gfSum 6 0x43 1 (a ^^^ b) 26 = 0 := by rw [gfSum_xor, ← a1, ← b1, Nat.xor_self]
  have sum3 : gfSum 6 0x43 3 (a ^^^ b) 26 = 0 := by rw [gfSum_xor, ← a3, ← b3, Nat.xor_self]
  have sum2 := gfSum_double_eq_zero sum1
  match k, hk with
  | 0, _ => exact sum0
  | 1, _ => exact sum1
  | 2, _ => exact sum2
  | 3, _ => exact sum3
  | 4, _ => exact gfSum_double_eq_zero sum2

/-- Two word addresses at distance 5 or less that share their address check are the same. -/
theorem distance_eq_zero_of_addrCheck_eq {a b : Nat} (near : distance 26 a b ≤ 5) (same : addrCheck a = addrCheck b) :
    distance 26 a b = 0 := by
  have none : bitsSet 26 (a ^^^ b) = [] := bitsSet_eq_nil (by decide) fun k hk =>
    gfSum_differing_eq_zero same (Nat.lt_of_lt_of_le hk near)
  exact congrArg List.length none

/-- Settles O50: the address check is the extended BCH code of R122, whose minimum distance is 6. -/
theorem nearWordAddressesHaveDifferentChecks : Obligations.NearWordAddressesHaveDifferentChecks := by
  refine ⟨fun a _ => addrCheck_parts a, fun a b _ _ differ near same => ?_, ?_⟩
  · have zero := distance_eq_zero_of_addrCheck_eq near same
    omega
  · exact ⟨2 ^ 0 + 2 ^ 14 + 2 ^ 20, 2 ^ 1 + 2 ^ 3 + 2 ^ 11, by decide⟩

end Sys2Proof.Machine
end
